-- ==== Sys2Proof/Word.lean ====
section
/-! DEFINITION. The plainest types: bytes of the control link and the numbers that name lanes, recorders, slots and groups. -/

namespace Sys2Proof

/-- A byte of the control link or of the loop memory (R162, R163). -/
abbrev Byte := BitVec 8

/-- A layer slot 0..23 (R25). -/
abbrev Slot := Fin 24

/-- An input lane 0..3 (R69). -/
abbrev Lane := Fin 4

/-- A recorder 0..3 (R85). -/
abbrev Recorder := Fin 4

/-- A mute group A, B, C, D as 0..3 (R42). -/
abbrev Group := Fin 4

end Sys2Proof
end

