-- ==== Sys2Proof/Syntax.lean ====
section
/-! DEFINITION. The commands of the LX24: one constructor of `Instr` for each row of spec/opcode_table.json, in its order. -/

namespace Sys2Proof

/-- The quantisations under which a cue waits in a queue (R54). -/
inductive WaitQuant where
  | beat
  | cycle
deriving DecidableEq, Repr

/-- What the probe of R110 can find on the loop store port. -/
inductive StoreDevice where
  /-- Page 0 does not return pattern A. -/
  | missing
  /-- A write at page 1,024 lands on page 0: the device wraps its address at 8 MiB. -/
  | wraps8
  /-- Page 0 keeps pattern A and page 1,024 does not return pattern B. -/
  | deaf8
  /-- Page 0 keeps pattern A and page 1,024 returns pattern B. -/
  | full16
deriving DecidableEq, Repr

/-- The commands. A request row is the dispatcher's taking of that request (R169), with the payload's values as
they were sent; an event row is the part's own event; a line or pin row is what the outside does. -/
inductive Instr where
  -- requests (R163), in the table's order
  | hello
  | laneSetup (lane mask enable : Byte) (trim send : BitVec 16) (pan : Byte) (tLow tNom : BitVec 24) (rise fall armed : Byte)
  | gridSetup (mode beats : Byte) (tempo fade : BitVec 16)
  | outputSetup (mask : Byte) (main mon : BitVec 16) (click : BitVec 24) (pulseMode beatReports : Byte)
  | startBase (tag lane : Byte)
  | closeBase (tag : Byte)
  | startTake (tag lane multiple group : Byte)
  | stopTake (tag recorder : Byte)
  | muteLayer (tag slot : Byte)
  | muteGroup (tag group : Byte)
  | unmuteLayer (tag slot : Byte)
  | unmuteGroup (tag group : Byte)
  | undo (tag : Byte)
  | redo (tag : Byte)
  | halt (tag : Byte)
  | play (tag : Byte)
  | cueQueued (kind : Byte) (quant : WaitQuant) (tag : Byte) (target : Option (BitVec 16)) (p1 p2 p3 : Byte)
  | layerSetup (slot mask : Byte) (gain : BitVec 16) (pan : Byte) (fade : BitVec 16) (group : Byte)
  | bounce (n : Byte) (slots : Vector Byte 8)
  | flushAll
  | flushTag (tag : Byte)
  | queryTransport
  | queryLayer (n : Byte)
  | queryLane (n : Byte)
  | queryStore
  | queryBusy
  | clear
  | restart
  | rest
  | unknownKind (kind : Byte)
  -- the serial line and its side lines
  | rxdByte (value : Byte) (stopFault : Bool)
  | interByteTimeout
  | frameStart
  | frameSent
  | holdAsserted
  | holdDeasserted
  -- the sample clock and the events it brings
  | samplePeriod (x0 x1 x2 x3 : BitVec 24)
  | takeFull (rec : Recorder)
  | freeSelfClose
  | cycleStart
  | beatBoundary
  | pulseEnd
  | clickBurstEnd
  | windowEnd (lane : Lane)
  | portWindowStart
  | portGrant
  | drainBurstComplete
  | refillLanding
  | bounceReadComplete
  | bounceWriteComplete
  -- reset, start-up and wake
  | nrstLow
  | nrstRise
  | oscillatorStartUpEnd (device : StoreDevice)
  | probePeriodEnd
  | wakeAsserted
  | wakeReleased
  | linkWake
  | wakeStartingEnd
deriving DecidableEq, Repr

end Sys2Proof
end

