-- ==== Sys2Proof/Decode.lean ====
section
/-! DEFINITION. The command that a word spells by the bits of the operation table. The part has no instruction words: requests
arrive as frames of bytes on RXD (R163), which RXD_BYTE takes one by one, and spec/opcode_table.json gives no row any bits. So
no word spells a command (log 17). -/

namespace Sys2Proof

/-- The command that a word of `nbits` bits spells: none, since no row of the table has bits (log 17). -/
def decodeTableWord (_nbits _w : Nat) : Option Instr := none

end Sys2Proof
end

