-- ==== Sys2Proof/Config.lean ====
section
/-! DEFINITION. The free values: constants without a body for what the spec leaves open. -/

namespace Sys2Proof

/-- FREE VALUE (log 5). Which of the orders that the spec leaves open the part takes, at the `n`-th time an order is
open: a number that `Machine.permute` reads as a permutation (R61, R62, R93, R108, R157). -/
opaque Config.freeOrder : Nat → Nat

/-- FREE VALUE (log 7). The stored sample that the probe leaves behind: pattern A (`false`) and pattern B (`true`) of
R110, whose values the spec does not give. -/
opaque Config.probePattern : Bool → BitVec 16

end Sys2Proof
end

