-- ==== Sys2Proof/Machine/State.lean ====
section
/-! DEFINITION. The state of the part: every record, list, counter, flag and pin the spec names, as plain data, and the
state right after reset. Numbers the spec treats as counts are `Nat`, samples are `Int`, bytes of the link and of the loop
memory are bit vectors. -/

namespace Sys2Proof.Machine

/-! ## Named values -/

/-- The result codes 0..19 of R169, in their order. -/
inductive Code where
  | ok | queued | badLength | badValue | unknownKind | wrongState | busy | queueFull | noLayerSlot | noRecorder
  | noMemory | extents | layerHeld | nothing | noSuchLayer | multipleMismatch | tooShort | noStore | laneOff | cancelled
deriving DecidableEq, Repr

/-- Transport states (R1), in the order of the BOUNDARY report's codes (R176). -/
inductive TState where
  | idle | defining | priming | running | halted
deriving DecidableEq, Repr

/-- Define mode (R1). -/
inductive DefineMode where
  | free | grid
deriving DecidableEq, Repr

/-- Pulse mode (R1). -/
inductive PulseMode where
  | off | cycle | beat
deriving DecidableEq, Repr

/-- Life state of a layer record (R25), in the order of the layer record's codes (R176). -/
inductive LState where
  | free | recording | closing | active | parked | building
deriving DecidableEq, Repr

/-- What produced a layer (R25). -/
inductive Origin where
  | lane (l : Lane)
  | bounce
deriving DecidableEq, Repr

/-- Cue kinds 1..10 (R49). -/
inductive CueKind where
  | startBase | closeBase | startTake | stopTake | mute | unmute | undo | redo | halt | play
deriving DecidableEq, Repr

/-- Level bands 0..3 (R70). -/
inductive Band where
  | silent | low | nominal | clip
deriving DecidableEq, Repr

/-- Recorder states (R85). -/
inductive RState where
  | idle | recording | closing
deriving DecidableEq, Repr

/-- Take end reasons 0..7 (R96, R176). -/
inductive EndReason where
  | closed | stopped | full | halted | memoryFull | extentsFull | aborted | empty
deriving DecidableEq, Repr

/-- Bounce end results 0..1 (R159). -/
inductive BounceResult where
  | done | halted
deriving DecidableEq, Repr

/-- Frame fault reasons 0..4 (R165). -/
inductive FaultReason where
  | check | line | timeout | length | overrun
deriving DecidableEq, Repr

/-- Run states (R178). -/
inductive RunState where
  | starting | awake | draining | rest
deriving DecidableEq, Repr

/-- Wake causes 0..3 (R178, R185). -/
inductive WakeCause where
  | power | restart | wakeLine | linkActivity
deriving DecidableEq, Repr

/-! ## Transport -/

/-- The transport record of R1. `pin` is the level of the PULSE output (R21); `beatDue` is the model's own mark that `p` has
reached a beat start other than 0 whose boundary is not yet taken (log 1). -/
structure Transport where
  state : TState
  mode : DefineMode
  beats : Nat
  tempo : Nat
  defaultFade : Nat
  length : Option Nat
  p : Nat
  c : Nat
  cyclesRecorded : Nat
  closePending : Bool
  pulseMode : PulseMode
  pulseRemaining : Nat
  pin : Bool
  beatDue : Bool
deriving DecidableEq, Repr

/-! ## Layer table -/

/-- A run of consecutively numbered pages (R25). -/
structure Extent where
  first : Nat
  count : Nat
deriving DecidableEq, Repr

/-- A layer record (R25). -/
structure LayerRec where
  state : LState
  origin : Option Origin
  multiple : Nat
  k : Option Nat
  start : Nat
  len : Nat
  extents : List Extent
  gain : Nat
  pan : Nat
  fade : Nat
  group : Group
  muted : Bool
  held : Bool
  lost : Nat
  dropouts : Nat
deriving DecidableEq, Repr

/-- The values a FREE record holds (R25, last column). -/
def LayerRec.freed : LayerRec where
  state := .free
  origin := none
  multiple := 1
  k := none
  start := 0
  len := 0
  extents := []
  gain := 4096
  pan := 64
  fade := 0
  group := 0
  muted := false
  held := false
  lost := 0
  dropouts := 0

/-- The layer table: 24 records, the layer stack (oldest first, R36), the redo list (most recently parked first, R37)
and the four group mute flags (R42). -/
structure LayerTable where
  layers : Vector LayerRec 24
  stack : List Slot
  redo : List Slot
  groupMutes : Vector Bool 4
deriving DecidableEq, Repr

/-! ## Cue queues -/

/-- A waiting cue (R54). Parameters the kind does not read are 0. -/
structure CueEntry where
  tag : Byte
  kind : CueKind
  target : Option Nat
  p1 : Byte
  p2 : Byte
  p3 : Byte
deriving DecidableEq, Repr

/-- The cycle queue and the beat queue, oldest entry first (R54). -/
structure CueQueues where
  cycle : List CueEntry
  beat : List CueEntry
deriving DecidableEq, Repr

/-! ## Lanes -/

/-- A lane record (R70). -/
structure LaneRec where
  enable : Bool
  trim : Nat
  send : Nat
  pan : Nat
  tLow : Nat
  tNom : Nat
  riseMask : Nat
  fallMask : Nat
  armed : Bool
  band : Band
  below : Nat
  peak : Nat
  pos : Nat
deriving DecidableEq, Repr

/-- A lane record after power-on and RESTART (R70). -/
def LaneRec.initial : LaneRec where
  enable := true
  trim := 4096
  send := 4096
  pan := 64
  tLow := 8389
  tNom := 265000
  riseMask := 0
  fallMask := 0
  armed := false
  band := .silent
  below := 0
  peak := 0
  pos := 0

/-! ## Recorders -/

/-- A FIFO entry: a stored sample, or a zero-fill run of a given length (R85). -/
inductive FifoEntry where
  | sample (value : Int)
  | zeros (count : Nat)
deriving DecidableEq, Repr

/-- A recorder record (R85). -/
structure RecorderRec where
  state : RState
  lane : Option Lane
  slot : Option Slot
  base : Bool
  tail : Bool
  fifo : List FifoEntry
  gap : Nat
  cursor : Nat
  inFlight : Bool
  endReason : Option EndReason
  head : List Int
deriving DecidableEq, Repr

/-- An IDLE recorder (R85, last column). -/
def RecorderRec.idle : RecorderRec where
  state := .idle
  lane := none
  slot := none
  base := false
  tail := false
  fifo := []
  gap := 0
  cursor := 0
  inFlight := false
  endReason := none
  head := []

/-- The four recorders and the take order list, oldest take first (R85). -/
structure Recorders where
  recs : Vector RecorderRec 4
  order : List Recorder
deriving DecidableEq, Repr

/-! ## Loop store -/

/-- An entry of a prefetch buffer: a timeline index, its storage offset, and a stored value or the mark SILENT (R120). -/
structure Entry where
  index : Nat
  offset : Nat
  value : Option Int
deriving DecidableEq, Repr

/-- A layer's prefetch buffer and stream record (R120). -/
structure Stream where
  entries : List Entry
  primed : Bool
  inFlight : Bool
deriving DecidableEq, Repr

/-- A transfer on the memory port (R117, R119). A drain carries how many storage offsets it writes; a refill carries the
entries composed at its grant (R121). -/
inductive TransferKind where
  | drain (rec : Recorder) (count : Nat)
  | refill (slot : Slot) (entries : List Entry)
  | bounceRead
  | bounceWrite
deriving DecidableEq, Repr

/-- The transfer in flight and the sample periods left until its completion (R119). -/
structure Transfer where
  kind : TransferKind
  left : Nat
deriving DecidableEq, Repr

/-- The loop store controller: the store record (R110), the page pool as the ascending list of free page numbers (R112), the
port and its credit (R117; `windowPos` counts the sample periods of the present port window, 128 when a new one is due;
`stalled` says that the request chosen in this window cost more than the credit left, so that nothing is granted until the next
window, R118, log 18), and one optional prefetch buffer for each slot (R120). -/
structure LoopStore where
  present : Bool
  pages : Nat
  pool : List Nat
  windowPos : Nat
  credit : Nat
  stalled : Bool
  transfer : Option Transfer
  buffers : Vector (Option Stream) 24
deriving DecidableEq, Repr

/-! ## Mix engine -/

/-- One pair of output values for each of the two output ports (R131). -/
structure OutPair where
  mainL : Int
  mainR : Int
  monL : Int
  monR : Int
deriving DecidableEq, Repr

/-- The pair that a frame with nothing formed before it carries (R131). -/
def OutPair.zero : OutPair := ⟨0, 0, 0, 0⟩

/-- The mix record (R130). `formed` is the pair formed at the last sample period, `frame` the pair sent in the output frame
of that sample period (R131). `burstEnding` is the model's own: a HALT has taken effect, or the base take has been aborted, since the
last sample period, and the next one ends the burst in progress (R145, log 25). -/
structure Mix where
  mainMaster : Nat
  monMaster : Nat
  clickAmp : Nat
  burstPos : Option Nat
  burstAmp : Nat
  burstEnding : Bool
  mainClips : Nat
  monClips : Nat
  formed : OutPair
  frame : OutPair
deriving DecidableEq, Repr

/-! ## Bounce engine -/

/-- A source of a bounce with the values latched at admission (R146). -/
structure Source where
  slot : Slot
  multiple : Nat
  k : Nat
  gain : Nat
  fade : Nat
deriving DecidableEq, Repr

/-- A read within one page: `count` indices from place `rel` of a chunk or refill on, at storage offsets from `off` on (R121,
R152). -/
structure Piece where
  rel : Nat
  off : Nat
  count : Nat
deriving DecidableEq, Repr

/-- Phase of a chunk (R152). -/
inductive Phase where
  | read | write
deriving DecidableEq, Repr

/-- A chunk record (R152). -/
structure Chunk where
  start : Nat
  length : Nat
  sums : List Int
  source : Nat
  pieces : List Piece
  phase : Phase
deriving DecidableEq, Repr

/-- The job record (R146). -/
structure Job where
  running : Bool
  result : Option Slot
  sources : List Source
  anchor : Option Nat
  anchorK : Nat
  multiple : Nat
  total : Nat
  progress : Nat
  chunk : Option Chunk
  inFlight : Bool
  clips : Nat
deriving DecidableEq, Repr

/-- The job record when IDLE (R146, last column). -/
def Job.idle : Job where
  running := false
  result := none
  sources := []
  anchor := none
  anchorK := 0
  multiple := 1
  total := 0
  progress := 0
  chunk := none
  inFlight := false
  clips := 0

/-! ## Control link -/

/-- The recorder fields of a QUERY BUSY reply (R175). -/
structure RecorderView where
  state : RState
  tail : Bool
  lane : Option Lane
  slot : Option Slot
  stored : Nat
deriving DecidableEq, Repr

/-- The fields of a QUERY TRANSPORT reply (R23). -/
structure TransportView where
  state : TState
  mode : DefineMode
  beats : Nat
  tempo : Nat
  spb : Nat
  defaultFade : Nat
  length : Nat
  p : Nat
  c : Nat
  beat : Nat
  cyclesRecorded : Nat
  closePending : Bool
  pulseMode : PulseMode
  pin : Bool
deriving DecidableEq, Repr

/-- The fields of a QUERY LAYER reply (R46). -/
structure LayerView where
  slot : Slot
  layer : LayerRec
  groupMutes : Vector Bool 4
  stackPos : Nat
  redoPos : Nat
  pagesHeld : Nat
deriving DecidableEq, Repr

/-- The kind of transfer that QUERY STORE names (R127). -/
inductive PortView where
  | free
  | drain (rec : Recorder)
  | refill (slot : Slot)
  | bounce
deriving DecidableEq, Repr

/-- The fields of a QUERY STORE reply (R127). -/
structure StoreView where
  present : Bool
  pages : Nat
  freePages : Nat
  recordingPages : Nat
  activePages : Nat
  parkedPages : Nat
  buildingPages : Nat
  freeRuns : Nat
  longestRun : Nat
  lowestFree : Nat
  port : PortView
  credit : Nat
  drains : Nat
  refills : Nat
  bouncePending : Bool
  unprimed : Nat
deriving DecidableEq, Repr

/-- The fields of a QUERY BUSY reply (R175). -/
structure BusyView where
  state : TState
  cycleLen : Nat
  beatLen : Nat
  recorders : List RecorderView
  busyMask : Nat
  running : Bool
  result : Nat
  progress : Nat
  total : Nat
  clips : Nat
  frames : Nat
  bytes : Nat
  omitted : Nat
deriving DecidableEq, Repr

/-- The fields of a BOUNDARY report (R173). -/
structure BoundaryView where
  c : Nat
  beat : Nat
  state : TState
  bands : List Band
  busyMask : Nat
  bouncing : Bool
  mainClips : Nat
  monClips : Nat
  omitted : Nat
deriving DecidableEq, Repr

/-- The frames the part sends: replies (KIND 0x80..0x8C) and reports (KIND 0x41..0x47) of R163, with the fields their owners
name. `refused` is the reply that carries its result code alone (R170). -/
inductive Message where
  | unknownKind (kind : Byte)
  | refused (kind : Nat) (code : Code)
  | accepted (kind : Nat)
  | hello (pages omitted frames bytes : Nat)
  | laneSet (lane : LaneRec)
  | gridSet (tempo cycleLength : Nat)
  | outputSet (main mon click : Nat) (pulse : PulseMode) (beatReports : Bool) (mainClips monClips : Nat)
  | cue (code : Code) (tag : Byte) (affected cycleLen beatLen : Nat)
  | layerSet (gain pan fade : Nat) (group : Group)
  | bounce (code : Code) (result multiple anchor pages fault : Nat)
  | flushed (count cycleLen beatLen : Nat)
  | transport (view : TransportView)
  | layer (view : LayerView)
  | lane (lane : Lane) (record : LaneRec)
  | store (view : StoreView)
  | busy (view : BusyView)
  | boundary (view : BoundaryView)
  | cueFired (tag : Byte) (kind : CueKind) (code : Code) (affected : Nat)
  | takeEnd (rec : Recorder) (slot : Slot) (reason : EndReason) (len lost pages : Nat)
  | bounceEnd (result : BounceResult) (slot : Slot) (multiple pages progress clips : Nat)
  | level (lane : Lane) (old new : Band)
  | frameFault (reason : FaultReason) (kind : Byte)
  | woke (cause : WakeCause) (discarded pages : Nat)
deriving DecidableEq, Repr

/-- A complete frame that waits for the dispatcher (R164). -/
structure Frame where
  kind : Byte
  payload : List Byte
deriving DecidableEq, Repr

/-- The parser (R164): HUNTING, or RECEIVING with the bytes of the frame held so far, SYNC first. -/
inductive Parser where
  | hunting
  | receiving (held : List Byte)
deriving DecidableEq, Repr

/-- The transmitter (R171): IDLE, or SENDING with the bytes that go out on TXD. -/
inductive Transmitter where
  | idle
  | sending (bytes : List Byte)
deriving DecidableEq, Repr

/-- The control link: parser and complete frames of the receive buffer (R164, R167), RDY (R168), the outgoing queue, the
transmitter and the HOLD input (R171), the omitted counter (R172) and the beat-report switch (R173). -/
structure Link where
  parser : Parser
  frames : List Frame
  rdy : Bool
  outQ : List Message
  tx : Transmitter
  hold : Bool
  omitted : Nat
  beatReports : Bool
deriving DecidableEq, Repr

/-! ## Rest control -/

/-- The rest control record (R178), the levels of the WAKE and NRST inputs (`nrst` is true while NRST is high), and `probing`:
the oscillator start-up of a power-on or RESTART is over and the probe period runs (R179). -/
structure RestControl where
  run : RunState
  cause : WakeCause
  discarded : Nat
  restartPending : Bool
  linkActivity : Bool
  wake : Bool
  nrst : Bool
  probing : Bool
deriving DecidableEq, Repr

/-! ## The whole part -/

/-- Why the part stops with a fault. There is no constructor: the spec gives every command an effect in every state, and
every page number lies within the loop memory, so no command of this block ends in a fault. -/
inductive Fault where
deriving DecidableEq, Repr

/-- Why a command is refused by the model. -/
inductive Refusal where
  /-- The command has no meaning yet. Raised by arms of `exec` only; safe, since nothing follows it. -/
  | notModelled (mnemonic : String)
deriving DecidableEq, Repr

/-- The state of the part, the contents of its loop memory, the count of the open orders taken so far (the argument of
`Config.freeOrder`, the model's own) and the queue of commands that wait, first in first out. -/
structure State where
  transport : Transport
  table : LayerTable
  cues : CueQueues
  lanes : Vector LaneRec 4
  takes : Recorders
  store : LoopStore
  mem : List Host.Cell
  mix : Mix
  job : Job
  link : Link
  rest : RestControl
  openOrders : Nat
  pending : List Instr
deriving DecidableEq, Repr

/-- The part at power-on, NRST just risen (R179): every block at its values after power-on, STARTING with cause POWER. The
store record before the probe, the unwritten loop memory and the levels of the input pins are the model's choice (log 6, 8,
9). -/
def State.reset : State where
  transport :=
    { state := .idle, mode := .free, beats := 4, tempo := 1200, defaultFade := 64, length := none, p := 0, c := 0,
      cyclesRecorded := 0, closePending := false, pulseMode := .cycle, pulseRemaining := 0, pin := false, beatDue := false }
  table :=
    { layers := Vector.replicate 24 LayerRec.freed, stack := [], redo := [], groupMutes := Vector.replicate 4 false }
  cues := { cycle := [], beat := [] }
  lanes := Vector.replicate 4 LaneRec.initial
  takes := { recs := Vector.replicate 4 RecorderRec.idle, order := [] }
  store :=
    { present := false, pages := 0, pool := [], windowPos := 128, credit := 0, stalled := false,
      transfer := none,
      buffers := Vector.replicate 24 none }
  mem := []
  mix :=
    { mainMaster := 4096, monMaster := 4096, clickAmp := 0, burstPos := none, burstAmp := 0, burstEnding := false, mainClips := 0, monClips := 0,
      formed := OutPair.zero, frame := OutPair.zero }
  job := Job.idle
  link :=
    { parser := .hunting, frames := [], rdy := false, outQ := [], tx := .idle, hold := false, omitted := 0,
      beatReports := false }
  rest :=
    { run := .starting, cause := .power, discarded := 0, restartPending := false, linkActivity := false, wake := false,
      nrst := true, probing := false }
  openOrders := 0
  pending := []

end Sys2Proof.Machine
end

