-- ==== Sys2Proof/Machine/Arith.lean ====
section
/-! DEFINITION. The part's arithmetic (the conventions of 00_scope.md): rounding shifts, saturation, the trim, the store
conversion, the beat grid, the fade ramp, the master stage and the bounce sum; and the codes by which values are sent. -/

namespace Sys2Proof.Machine

/-- `x >> n` after adding one half of the last place kept: round half up (conventions, "Round"). -/
def roundShift (x : Int) (n : Nat) : Int := (x + 2 ^ (n - 1)) / 2 ^ n

/-- Clamp to the signed `bits`-bit range (conventions, "Saturate"). -/
def saturate (bits : Nat) (x : Int) : Int := max (-(2 ^ (bits - 1))) (min (2 ^ (bits - 1) - 1) x)

/-- sat24. -/
def sat24 (x : Int) : Int := saturate 24 x

/-- sat16. -/
def sat16 (x : Int) : Int := saturate 16 x

/-- A counter that saturates at `cap` after adding `n` (conventions, "Counters"). -/
def satAdd (cap x n : Nat) : Nat := min cap (x + n)

/-- `ceil(a / b)`. -/
def ceilDiv (a b : Nat) : Nat := (a + b - 1) / b

/-- The trimmed value of an enabled lane (R71). -/
def trimmed (x : Int) (t : Nat) : Int := sat24 (roundShift (x * t) 12)

/-- The store conversion to 16 bits (R91). -/
def stored16 (r : Int) : Int := sat16 (roundShift r 8)

/-- Samples per beat (R3). -/
def samplesPerBeat (tempo : Nat) : Nat := (28800000 + tempo / 2) / tempo

/-- The start of beat `b` (R4). -/
def beatStart (length beats b : Nat) : Nat := b * length / beats

/-- The largest beat below `n` that starts at or before `p`, 0 if none does. -/
def lastBeat (length beats p : Nat) : Nat → Nat
  | 0 => 0
  | b + 1 => if beatStart length beats b ≤ p then b else lastBeat length beats p b

/-- The current beat at position `p` (R4). -/
def currentBeat (length beats p : Nat) : Nat := lastBeat length beats p beats

/-- `p` is the start of a beat other than beat 0 (R4, R15). -/
def atBeatStart (length beats p : Nat) : Bool :=
  decide (currentBeat length beats p ≠ 0) && decide (beatStart length beats (currentBeat length beats p) = p)

/-- The effective gain at storage offset `o` of a span of `len` samples (R133). -/
def effectiveGain (gain fade len o : Nat) : Nat :=
  if fade = 0 then gain else gain * min fade (min (o + 1) (len - o)) / fade

/-- The master stage of both buses before saturation (R135). -/
def masterStage (acc : Int) (master : Nat) : Int := roundShift (acc * master) 31

/-- The stored value of a bounce sum before saturation (R154). -/
def bounceRounded (sum : Int) : Int := roundShift sum 12

/-- 1 if saturating `x` to `bits` bits changes it, else 0 (R136, R154). -/
def clipped (bits : Nat) (x : Int) : Nat := if saturate bits x = x then 0 else 1

/-- The position `d` places before `i` on a timeline of `n` indices: `(i − d) mod n` (R32, R122). -/
def backMod (i d n : Nat) : Nat := (i + n - d % n) % n

/-- The lowest `n` values of `xs` read as the permutation number `seed`: the first is at place `seed mod n`, and so on with
`seed div n` for the others. Every order of `xs` is that of some seed. -/
def permuteFuel {α : Type} : Nat → Nat → List α → List α
  | 0, _, xs => xs
  | fuel + 1, seed, xs =>
    match xs[seed % xs.length]? with
    | none => xs
    | some x => x :: permuteFuel fuel (seed / xs.length) (xs.eraseIdx (seed % xs.length))

/-- The order of `xs` that `seed` stands for. -/
def permute {α : Type} (seed : Nat) (xs : List α) : List α := permuteFuel xs.length seed xs

/-! ## Codes -/

/-- Result codes (R169). -/
def Code.number : Code → Nat
  | .ok => 0 | .queued => 1 | .badLength => 2 | .badValue => 3 | .unknownKind => 4 | .wrongState => 5 | .busy => 6
  | .queueFull => 7 | .noLayerSlot => 8 | .noRecorder => 9 | .noMemory => 10 | .extents => 11 | .layerHeld => 12
  | .nothing => 13 | .noSuchLayer => 14 | .multipleMismatch => 15 | .tooShort => 16 | .noStore => 17 | .laneOff => 18
  | .cancelled => 19

/-- Transport state codes (R176). -/
def TState.number : TState → Nat
  | .idle => 0 | .defining => 1 | .priming => 2 | .running => 3 | .halted => 4

/-- Define mode codes (section 1.2). -/
def DefineMode.number : DefineMode → Nat
  | .free => 0 | .grid => 1

/-- Pulse mode codes (section 7.5). -/
def PulseMode.number : PulseMode → Nat
  | .off => 0 | .cycle => 1 | .beat => 2

/-- Layer state codes (R176). -/
def LState.number : LState → Nat
  | .free => 0 | .recording => 1 | .closing => 2 | .active => 3 | .parked => 4 | .building => 5

/-- Layer origin codes (R176). -/
def originNumber : Option Origin → Nat
  | none => 255 | some (.lane l) => l.val | some .bounce => 4

/-- Cue kind codes (R49). -/
def CueKind.number : CueKind → Nat
  | .startBase => 1 | .closeBase => 2 | .startTake => 3 | .stopTake => 4 | .mute => 5 | .unmute => 6 | .undo => 7
  | .redo => 8 | .halt => 9 | .play => 10

/-- The cue kind of a code (R49). -/
def cueKindOf : Nat → Option CueKind
  | 1 => some .startBase | 2 => some .closeBase | 3 => some .startTake | 4 => some .stopTake | 5 => some .mute
  | 6 => some .unmute | 7 => some .undo | 8 => some .redo | 9 => some .halt | 10 => some .play | _ => none

/-- Band numbers (R70). -/
def Band.number : Band → Nat
  | .silent => 0 | .low => 1 | .nominal => 2 | .clip => 3

/-- Recorder state codes, in the order of R85. -/
def RState.number : RState → Nat
  | .idle => 0 | .recording => 1 | .closing => 2

/-- Take end reason codes (R176). -/
def EndReason.number : EndReason → Nat
  | .closed => 0 | .stopped => 1 | .full => 2 | .halted => 3 | .memoryFull => 4 | .extentsFull => 5 | .aborted => 6
  | .empty => 7

/-- Bounce end codes (R176). -/
def BounceResult.number : BounceResult → Nat
  | .done => 0 | .halted => 1

/-- Frame fault codes (R165). -/
def FaultReason.number : FaultReason → Nat
  | .check => 0 | .line => 1 | .timeout => 2 | .length => 3 | .overrun => 4

/-- Wake cause codes (R185). -/
def WakeCause.number : WakeCause → Nat
  | .power => 0 | .restart => 1 | .wakeLine => 2 | .linkActivity => 3

/-- A value that may be absent, sent as 255 when it is. -/
def optNumber {n : Nat} : Option (Fin n) → Nat
  | none => 255 | some i => i.val

/-- The allowed fades (R1, R25). -/
def isFade (f : Nat) : Bool := [0, 32, 64, 128, 256, 512, 1024].contains f

/-- The four recorders, the four lanes and the 24 slots in increasing number. -/
def recorderNumbers : List Recorder := [0, 1, 2, 3]

/-- The lanes in increasing number. -/
def laneNumbers : List Lane := [0, 1, 2, 3]

/-- The slots in increasing number. -/
def slotNumbers : List Slot :=
  [0, 1, 2, 3, 4, 5, 6, 7, 8, 9, 10, 11, 12, 13, 14, 15, 16, 17, 18, 19, 20, 21, 22, 23]

/-- A byte of a payload read as a slot, lane or recorder number; the value checks have seen that it is one. -/
def byteFin (n : Nat) [NeZero n] (b : Byte) : Fin n := Fin.ofNat n b.toNat

end Sys2Proof.Machine
end

