-- ==== Sys2Proof/Machine/Memory.lean ====
section
/-! DEFINITION. The loop memory (chapter 6): bytes at strictly rising addresses, none of them equal to what an unlisted
address reads as; stored samples of two bytes each, sample `n` at byte address `2 × n`. -/

namespace Sys2Proof.Machine

/-- What a byte of loop memory that nothing has written reads as (DESIGN CHOICE, log 6: the spec gives no contents at
power-on). -/
def blankByte : Byte := 0

/-- The canonical form: addresses strictly rise and no cell holds the blank byte. -/
def Memory.wf : List Host.Cell → Bool
  | [] => true
  | [c] => decide (c.2 ≠ blankByte)
  | c :: d :: rest => decide (c.2 ≠ blankByte) && decide (c.1 < d.1) && Memory.wf (d :: rest)

/-- The byte at address `a`. -/
def readByte : List Host.Cell → Nat → Byte
  | [], _ => blankByte
  | c :: rest, a => if c.1 = a then c.2 else readByte rest a

/-- Memory with `b` at address `a`; a blank byte leaves no cell. -/
def writeByte : List Host.Cell → Nat → Byte → List Host.Cell
  | [], a, b => if b = blankByte then [] else [(a, b)]
  | c :: rest, a, b =>
    if a < c.1 then (if b = blankByte then c :: rest else (a, b) :: c :: rest)
    else if a = c.1 then (if b = blankByte then rest else (a, b) :: rest)
    else c :: writeByte rest a b

/-- The stored sample at sample address `n`. The order of its two bytes is the model's (DESIGN CHOICE, log 6). -/
def readSample (mem : List Host.Cell) (n : Nat) : Int := (readByte mem (2 * n + 1) ++ readByte mem (2 * n)).toInt

/-- Memory with the 16-bit word `w` at sample address `n`. -/
def writeWord (mem : List Host.Cell) (n : Nat) (w : BitVec 16) : List Host.Cell :=
  writeByte (writeByte mem (2 * n) (w.extractLsb' 0 8)) (2 * n + 1) (w.extractLsb' 8 8)

/-- Memory with the stored sample `v` at sample address `n`. -/
def writeSample (mem : List Host.Cell) (n : Nat) (v : Int) : List Host.Cell := writeWord mem n (BitVec.ofInt 16 v)

/-- Memory with the samples `vs` at consecutive sample addresses from `n` on. -/
def writeSamples : List Host.Cell → Nat → List Int → List Host.Cell
  | mem, _, [] => mem
  | mem, n, v :: vs => writeSamples (writeSample mem n v) (n + 1) vs

/-- The sample address of place `x` in page `page` (00_scope.md: a page holds 4,096 stored samples). -/
def pageAddress (page x : Nat) : Nat := page * 4096 + x

/-- The pool page of a layer's page number `j` (R33). -/
def pageOf : List Extent → Nat → Option Nat
  | [], _ => none
  | e :: rest, j => if j < e.count then some (e.first + j) else pageOf rest (j - e.count)

/-- The sample address of storage offset `o` of a layer with these extents (R33). -/
def offsetAddress (extents : List Extent) (o : Nat) : Option Nat :=
  (pageOf extents (o / 4096)).map fun page => pageAddress page (o % 4096)

/-- The number of pages of an extent list (R25). -/
def pageCount (extents : List Extent) : Nat := (extents.map Extent.count).sum

/-- The page numbers of an extent list in storage order. -/
def pagesOf (extents : List Extent) : List Nat := extents.flatMap fun e => List.range' e.first e.count

/-- The page pool with one page returned, in ascending order and without duplicates (R112). -/
def insertPage (page : Nat) : List Nat → List Nat
  | [] => [page]
  | q :: rest => if page < q then page :: q :: rest else if page = q then q :: rest else q :: insertPage page rest

/-- The page pool with these pages returned (R115). -/
def insertPages (pages pool : List Nat) : List Nat := pages.foldr insertPage pool

/-- The runs of consecutive page numbers of an ascending list (R116, R127). -/
def runsOf : List Nat → List Extent
  | [] => []
  | page :: rest =>
    match runsOf rest with
    | [] => [⟨page, 1⟩]
    | e :: es => if page + 1 = e.first then ⟨page, e.count + 1⟩ :: es else ⟨page, 1⟩ :: e :: es

/-- Why a page acquisition fails (R93, R113). -/
inductive AcquireFailure where
  | memoryFull
  | extentsFull
deriving DecidableEq, Repr

/-- An extent list with one more page at its end, or `none` where that page would open a 17th extent (R113). -/
def appendPage (extents : List Extent) (page : Nat) : Option (List Extent) :=
  match extents.getLast? with
  | none => some [⟨page, 1⟩]
  | some e =>
    if e.first + e.count = page then some (extents.dropLast ++ [⟨e.first, e.count + 1⟩])
    else if extents.length < 16 then some (extents ++ [⟨page, 1⟩])
    else none

/-! ## The recorder FIFO (R85, R94, R95) -/

/-- Stored samples in a FIFO; zero-fill runs take no stored-sample space. -/
def storedCount : List FifoEntry → Nat
  | [] => 0
  | .sample _ :: rest => storedCount rest + 1
  | .zeros _ :: rest => storedCount rest

/-- Storage offsets that a FIFO stands for. -/
def fifoOffsets : List FifoEntry → Nat
  | [] => 0
  | .sample _ :: rest => fifoOffsets rest + 1
  | .zeros n :: rest => fifoOffsets rest + n

/-- Whether the FIFO holds a zero-fill run. -/
def hasZeros : List FifoEntry → Bool
  | [] => false
  | .sample _ :: rest => hasZeros rest
  | .zeros _ :: _ => true

/-- The FIFO with a zero-fill run of `n` at its back; a run directly behind another joins it (R94). -/
def pushZeros (fifo : List FifoEntry) (n : Nat) : List FifoEntry :=
  match fifo.getLast? with
  | some (.zeros m) => fifo.dropLast ++ [.zeros (m + n)]
  | _ => fifo ++ [.zeros n]

/-- The values of the first `n` storage offsets of a FIFO (R95). -/
def fifoTake : Nat → List FifoEntry → List Int
  | _, [] => []
  | 0, _ => []
  | n + 1, .sample v :: rest => v :: fifoTake n rest
  | n + 1, .zeros m :: rest =>
    if m ≤ n + 1 then List.replicate m 0 ++ fifoTake (n + 1 - m) rest else List.replicate (n + 1) 0

/-- A FIFO without its first `n` storage offsets; a run not covered whole is split (R95). -/
def fifoDrop : Nat → List FifoEntry → List FifoEntry
  | _, [] => []
  | 0, fifo => fifo
  | n + 1, .sample _ :: rest => fifoDrop n rest
  | n + 1, .zeros m :: rest => if m ≤ n + 1 then fifoDrop (n + 1 - m) rest else .zeros (m - (n + 1)) :: rest

/-- The value at storage offset `n` of a FIFO, counted from its front (R106). -/
def fifoValue : List FifoEntry → Nat → Option Int
  | [], _ => none
  | .sample v :: rest, n => if n = 0 then some v else fifoValue rest (n - 1)
  | .zeros m :: rest, n => if n < m then some 0 else fifoValue rest (n - m)

/-! ## Cutting a stretch of indices into reads (R121, R152) -/

/-- The places and storage offsets of the samples to be read, in index order, cut into pieces: a piece goes on while both
place and offset rise by one and the offset opens no new page. -/
def piecesOf : List (Nat × Nat) → List Piece
  | [] => []
  | (i, o) :: rest =>
    match piecesOf rest with
    | [] => [⟨i, o, 1⟩]
    | q :: qs =>
      if q.rel = i + 1 ∧ q.off = o + 1 ∧ q.off % 4096 ≠ 0 then ⟨i, o, q.count + 1⟩ :: qs else ⟨i, o, 1⟩ :: q :: qs

end Sys2Proof.Machine
end

