-- ==== Sys2Proof/Machine/Ops.lean ====
section
/-! DEFINITION. The named updates of the state, one for each record, and the operations every block shares: queuing replies and
reports (R169, R172), taking bytes out of the receive buffer (R168), and taking an order that the spec leaves open. -/

namespace Sys2Proof.Machine

/-! ## One update for each record of the state -/

/-- `s` with transport record `x`. -/
def State.setTransport (s : State) (x : Transport) : State := { s with transport := x }
/-- `s` with layer table `x`. -/
def State.setTable (s : State) (x : LayerTable) : State := { s with table := x }
/-- `s` with cue queues `x`. -/
def State.setCues (s : State) (x : CueQueues) : State := { s with cues := x }
/-- `s` with lane records `x`. -/
def State.setLanes (s : State) (x : Vector LaneRec 4) : State := { s with lanes := x }
/-- `s` with recorders `x`. -/
def State.setTakes (s : State) (x : Recorders) : State := { s with takes := x }
/-- `s` with loop store controller `x`. -/
def State.setStore (s : State) (x : LoopStore) : State := { s with store := x }
/-- `s` with loop memory `x`. -/
def State.setMem (s : State) (x : List Host.Cell) : State := { s with mem := x }
/-- `s` with mix record `x`. -/
def State.setMix (s : State) (x : Mix) : State := { s with mix := x }
/-- `s` with job record `x`. -/
def State.setJob (s : State) (x : Job) : State := { s with job := x }
/-- `s` with control link `x`. -/
def State.setLink (s : State) (x : Link) : State := { s with link := x }
/-- `s` with rest control record `x`. -/
def State.setRest (s : State) (x : RestControl) : State := { s with rest := x }
/-- `s` with `x` open orders taken. -/
def State.setOpenOrders (s : State) (x : Nat) : State := { s with openOrders := x }

/-! ## One record out of a numbered group -/

/-- The layer record of a slot. -/
def State.layer (s : State) (sl : Slot) : LayerRec := s.table.layers[sl.val]
/-- The lane record of a lane. -/
def State.lane (s : State) (l : Lane) : LaneRec := s.lanes[l.val]
/-- The recorder record of a recorder. -/
def State.recorder (s : State) (r : Recorder) : RecorderRec := s.takes.recs[r.val]
/-- The prefetch buffer of a slot. -/
def State.buffer (s : State) (sl : Slot) : Option Stream := s.store.buffers[sl.val]

/-- `s` with layer record `x` in slot `sl`. -/
def State.setLayer (s : State) (sl : Slot) (x : LayerRec) : State :=
  s.setTable { s.table with layers := s.table.layers.set sl.val x }
/-- `s` with lane record `x` for lane `l`. -/
def State.setLane (s : State) (l : Lane) (x : LaneRec) : State := s.setLanes (s.lanes.set l.val x)
/-- `s` with recorder record `x` for recorder `r`. -/
def State.setRecorder (s : State) (r : Recorder) (x : RecorderRec) : State :=
  s.setTakes { s.takes with recs := s.takes.recs.set r.val x }
/-- `s` with prefetch buffer `x` for slot `sl`. -/
def State.setBuffer (s : State) (sl : Slot) (x : Option Stream) : State :=
  s.setStore { s.store with buffers := s.store.buffers.set sl.val x }

/-! ## The outgoing queue -/

/-- A reply joins the end of the outgoing queue; the dispatcher has seen that there is room (R169). -/
def reply (m : Message) (s : State) : State := s.setLink { s.link with outQ := s.link.outQ ++ [m] }

/-- A report joins the outgoing queue while it holds fewer than `room` frames, and is counted as omitted otherwise
(R172). -/
def raiseWithin (room : Nat) (m : Message) (s : State) : State :=
  if s.link.outQ.length < room then reply m s
  else s.setLink { s.link with omitted := satAdd 255 s.link.omitted 1 }

/-- A report other than BOUNDARY and LEVEL (R172). -/
def raiseReport (m : Message) (s : State) : State := raiseWithin 31 m s

/-- A LEVEL report (R172). -/
def raiseLevel (m : Message) (s : State) : State := raiseWithin 24 m s

/-! ## The click burst -/

/-- The burst in progress is over (R142, R144). -/
def Mix.noBurst (m : Mix) : Mix := { m with burstPos := none, burstEnding := false }

/-- A HALT that takes effect or the abort of the base take: the burst in progress ends at the next sample period, whatever state
that finds (R143, R145). -/
def stopBurst (s : State) : State := s.setMix { s.mix with burstEnding := true }

/-! ## The receive buffer -/

/-- Bytes of a frame on the line: SYNC, LEN, KIND, payload, CHECK (R163). -/
def frameBytes (f : Frame) : Nat := f.payload.length + 4

/-- The bytes the receive buffer holds (R167). -/
def receivedBytes (l : Link) : Nat :=
  (match l.parser with
    | .hunting => 0
    | .receiving held => held.length) + (l.frames.map frameBytes).sum

/-- RDY after a byte has been taken into the buffer (R168). -/
def rdyAfterByte (l : Link) : Link := if 128 ≤ receivedBytes l then { l with rdy := false } else l

/-- RDY after bytes have left the buffer (R168). -/
def rdyAfterLeave (l : Link) : Link := if receivedBytes l ≤ 64 then { l with rdy := true } else l

/-! ## Orders the spec leaves open -/

/-- An order of `xs` that the spec leaves open (log 5); with fewer than two items there is nothing open. -/
def openOrder {α : Type} (xs : List α) (s : State) : List α × State :=
  if xs.length < 2 then (xs, s)
  else (permute (Config.freeOrder s.openOrders) xs, s.setOpenOrders (s.openOrders + 1))

end Sys2Proof.Machine
end

