-- ==== Sys2Proof/Machine/Flags.lean ====
section
/-! DEFINITION. What the blocks read off the state: the conditions, masks and counts that the rules name, and the events that
are due. -/

namespace Sys2Proof.Machine

/-! ## Run state and transport -/

/-- Sample periods reach the blocks and the link takes bytes: AWAKE or DRAINING, NRST high (R162, R178). -/
def isRunning (s : State) : Bool := s.rest.nrst && (s.rest.run == .awake || s.rest.run == .draining)

/-- The dispatcher may take a request (R169, R180). -/
def canTake (s : State) : Bool :=
  s.rest.nrst && s.rest.run == .awake && decide (s.link.outQ.length < 32) && !s.rest.restartPending

/-- The playhead moves and boundaries are raised: RUNNING or GRID DEFINING (R14, R15). -/
def Transport.moves (t : Transport) : Bool := t.state == .running || (t.state == .defining && t.mode == .grid)

/-- FREE DEFINING. -/
def Transport.freeDefining (t : Transport) : Bool := t.state == .defining && t.mode == .free

/-- The loop store streams: RUNNING, PRIMING or DEFINING (R120). -/
def Transport.streams (t : Transport) : Bool := t.state == .running || t.state == .priming || t.state == .defining

/-- L, 0 while it is undefined. -/
def Transport.cycleLength (t : Transport) : Nat := t.length.getD 0

/-! ## Layers -/

/-- The length m × L of a layer's timeline (R32). -/
def timeline (s : State) (l : LayerRec) : Nat := l.multiple * s.transport.cycleLength

/-- The timeline index of a layer at the next sample period to be formed (R32). -/
def nextIndex (s : State) (l : LayerRec) : Nat :=
  (l.k.getD 0 * s.transport.cycleLength + s.transport.p) % timeline s l

/-- The storage offset of timeline index `i` of a layer (R32). -/
def offsetOf (s : State) (l : LayerRec) (i : Nat) : Nat := backMod i l.start (timeline s l)

/-- A layer has a layer cycle that cycle starts advance (R34). -/
def LState.cycles : LState → Bool
  | .recording | .closing | .active | .parked => true
  | _ => false

/-- A take in progress holds its layer in one of these states (R38). -/
def LState.inProgress : LState → Bool
  | .recording | .closing => true
  | _ => false

/-- A layer is audible (R43). -/
def audible (s : State) (l : LayerRec) : Bool :=
  l.state == .active && !l.muted && !(s.table.groupMutes[l.group.val])

/-- The lowest-numbered slot whose record meets `test`. -/
def findSlot (s : State) (test : LayerRec → Bool) : Option Slot := slotNumbers.find? fun sl => test (s.layer sl)

/-- Stack or redo position of a slot, 255 when it is not in the list (R46). -/
def listPosition (xs : List Slot) (sl : Slot) : Nat := if xs.contains sl then xs.idxOf sl else 255

/-- Pages held by the layers whose state meets `test` (R127). -/
def heldPages (s : State) (test : LState → Bool) : Nat :=
  (slotNumbers.map fun sl => if test (s.layer sl).state then pageCount (s.layer sl).extents else 0).sum

/-- The pool as it would stand after the release of the redo list (R40, R116). -/
def countedPool (s : State) : List Nat :=
  slotNumbers.foldr
    (fun sl pool => if (s.layer sl).state = .parked then insertPages (pagesOf (s.layer sl).extents) pool else pool)
    s.store.pool

/-! ## Recorders -/

/-- The lowest-numbered IDLE recorder (R88). -/
def idleRecorder (s : State) : Option Recorder := recorderNumbers.find? fun r => (s.recorder r).state = .idle

/-- The recorder busy mask (R86, R173). -/
def busyMask (s : State) : Nat :=
  (recorderNumbers.map fun r => if (s.recorder r).state = .idle then 0 else 2 ^ r.val).sum

/-- The recorder that writes out the base layer `sl` in its tail drain (R86, R106). -/
def tailRecorder (s : State) (sl : Slot) : Option Recorder :=
  recorderNumbers.find? fun r => (s.recorder r).tail && (s.recorder r).slot == some sl

/-- A recorder's drain request is raised (R95). -/
def drainPending (q : RecorderRec) : Bool :=
  !q.inFlight &&
    (match q.state with
      | .idle => false
      | .recording => decide (128 ≤ storedCount q.fifo) || hasZeros q.fifo
      | .closing => decide (q.fifo ≠ []))

/-- Offsets of the burst a recorder is granted: 128, the rest of the page at the write cursor, or the FIFO's contents,
whichever is least (R95). -/
def burstLength (q : RecorderRec) : Nat := min 128 (min (4096 - q.cursor % 4096) (fifoOffsets q.fifo))

/-- The take that an UNDO in a take aborts: the latest in the take order list whose layer is in RECORDING or CLOSING
(R102). -/
def newestTake (s : State) : Option Recorder :=
  s.takes.order.reverse.find? fun r =>
    match (s.recorder r).slot with
    | none => false
    | some sl => (s.layer sl).state.inProgress

/-- The take that STOP_TAKE with 255 names: the latest in RECORDING with the base flag clear (R97). -/
def stoppable (q : RecorderRec) : Bool := q.state == .recording && !q.base

/-- The recorder STOP_TAKE stops (R97). -/
def stopTarget (s : State) (p : Byte) : Option Recorder :=
  if p = 255 then s.takes.order.reverse.find? fun r => stoppable (s.recorder r)
  else if stoppable (s.recorder (byteFin 4 p)) then some (byteFin 4 p) else none

/-- Some layer is in RECORDING or CLOSING (R38). -/
def takeInProgress (s : State) : Bool := slotNumbers.any fun sl => (s.layer sl).state.inProgress

/-- A layer's refill request is raised (R121). -/
def refillPending (s : State) (sl : Slot) : Bool :=
  s.transport.streams && (s.layer sl).state == .active &&
    (match s.buffer sl with
      | none => false
      | some b => decide (b.entries.length ≤ 128) && !b.inFlight)

/-- The bounce engine's request is raised (R153). -/
def bouncePending (j : Job) : Bool :=
  j.running && !j.inFlight &&
    (match j.chunk with
      | none => false
      | some ch => decide (ch.pieces ≠ []) || ch.phase == .write)

/-- An ACTIVE layer's buffer is ready for the end of PRIMING (R125). -/
def primedFor (s : State) (sl : Slot) : Bool :=
  (s.layer sl).state != .active ||
    (match s.buffer sl with
      | none => false
      | some b =>
        decide (128 ≤ b.entries.length) &&
          (match b.entries.head? with
            | none => false
            | some e => decide (e.index = 0)))

/-! ## Events that are due

An event of the sample clock is due when the count it waits for has been reached (log 1). -/

/-- A take has filled its timeline (R98). -/
def takeFullDue (s : State) (r : Recorder) : Bool :=
  stoppable (s.recorder r) &&
    (match (s.recorder r).slot with
      | none => false
      | some sl => decide (0 < (s.layer sl).len) && decide ((s.layer sl).len = timeline s (s.layer sl)))

/-- `p` has reached 2,304,000 in FREE DEFINING (R7). -/
def selfCloseDue (s : State) : Bool := s.transport.freeDefining && decide (s.transport.p = 2304000)

/-- `p` has reached L (R9, R14). -/
def cycleStartDue (s : State) : Bool := s.transport.moves && s.transport.length == some s.transport.p

/-- `p` has reached a beat start other than 0 (R15). -/
def beatDue (s : State) : Bool := s.transport.moves && s.transport.beatDue

/-- Pulse remaining has counted down to 0 with the pin still high (R21). -/
def pulseEndDue (s : State) : Bool := s.transport.pin && decide (s.transport.pulseRemaining = 0)

/-- The burst position has reached 480 (R138). -/
def clickEndDue (s : State) : Bool := s.mix.burstPos == some 480

/-- The window position has reached 480 (R75). -/
def windowEndDue (s : State) (l : Lane) : Bool := decide ((s.lane l).pos = 480)

/-- 128 sample periods of the port window are over, or the first window is to begin (R117). -/
def portWindowDue (s : State) : Bool := decide (s.store.windowPos = 128)

/-- The transmitter can start a frame (R171). -/
def frameStartDue (s : State) : Bool := s.link.tx == .idle && s.link.outQ != [] && !s.link.hold

end Sys2Proof.Machine
end

