-- ==== Sys2Proof/Machine/Frames.lean ====
section
/-! DEFINITION. The bytes of the frames the part sends (R163, R170, R176): the kind and payload of every reply and report, and
the whole frame with SYNC, LEN and CHECK. -/

namespace Sys2Proof.Machine

/-- The lowest byte of a number. -/
def byte (n : Nat) : Byte := BitVec.ofNat 8 n

/-- A number in `size` bytes, least significant byte first (R170). -/
def bytesLE : Nat → Nat → List Byte
  | 0, _ => []
  | size + 1, n => byte n :: bytesLE size (n / 256)

/-- A flag in one byte (R176). -/
def flagByte (b : Bool) : Byte := if b then 1 else 0

/-- A flag as the bit of value `2 ^ place`. -/
def flagBit (b : Bool) (place : Nat) : Nat := if b then 2 ^ place else 0

/-- The record fields that LANE_SETUP answers with (R72). -/
def laneSetBytes (l : LaneRec) : List Byte :=
  [flagByte l.enable] ++ bytesLE 2 l.trim ++ bytesLE 2 l.send ++ [byte l.pan] ++ bytesLE 3 l.tLow ++ bytesLE 3 l.tNom ++
    [byte l.riseMask, byte l.fallMask, flagByte l.armed, byte l.band.number]

/-- The fields of QUERY TRANSPORT in the order of R23. -/
def transportBytes (v : TransportView) : List Byte :=
  [byte v.state.number, byte v.mode.number, byte v.beats] ++ bytesLE 2 v.tempo ++ bytesLE 3 v.spb ++
    bytesLE 2 v.defaultFade ++ bytesLE 3 v.length ++ bytesLE 3 v.p ++ bytesLE 2 v.c ++
    [byte v.beat, byte v.cyclesRecorded, flagByte v.closePending, byte v.pulseMode.number, flagByte v.pin]

/-- The flag byte of the layer record: muted, held and the four group mutes (R176). -/
def layerFlags (l : LayerRec) (groups : Vector Bool 4) : Nat :=
  flagBit l.muted 0 + flagBit l.held 1 + flagBit groups[0] 4 + flagBit groups[1] 5 + flagBit groups[2] 6 +
    flagBit groups[3] 7

/-- The layer record of R176, after its result code. -/
def layerBytes (v : LayerView) : List Byte :=
  [byte v.slot.val, byte v.layer.state.number, byte (originNumber v.layer.origin), byte v.layer.multiple,
    byte (v.layer.k.getD 255)] ++
    bytesLE 4 v.layer.start ++ bytesLE 4 v.layer.len ++ bytesLE 2 v.layer.gain ++ [byte v.layer.pan] ++
    bytesLE 2 v.layer.fade ++ [byte v.layer.group.val, byte (layerFlags v.layer v.groupMutes), byte v.stackPos,
      byte v.redoPos] ++
    bytesLE 3 v.layer.lost ++ bytesLE 2 v.layer.dropouts ++ bytesLE 2 v.pagesHeld ++ [byte v.layer.extents.length] ++
    v.layer.extents.flatMap fun e => bytesLE 2 e.first ++ bytesLE 2 e.count

/-- The fields of QUERY LANE in the order of R82. -/
def laneBytes (n : Lane) (l : LaneRec) : List Byte :=
  [byte n.val, flagByte l.enable] ++ bytesLE 2 l.trim ++ bytesLE 2 l.send ++ [byte l.pan] ++ bytesLE 3 l.tLow ++
    bytesLE 3 l.tNom ++ [byte l.riseMask, byte l.fallMask, flagByte l.armed, byte l.band.number, byte l.below] ++
    bytesLE 3 l.peak ++ bytesLE 2 l.pos

/-- The port state of R127; only a BUSY port names its transfer (DESIGN CHOICE, log 11). -/
def portBytes : PortView → List Byte
  | .free => [0]
  | .drain r => [1, 0, byte r.val]
  | .refill sl => [1, 1, byte sl.val]
  | .bounce => [1, 2]

/-- The fields of QUERY STORE in the order of R127. -/
def storeBytes (v : StoreView) : List Byte :=
  [if v.present then 0 else 1] ++ bytesLE 2 v.pages ++ bytesLE 2 v.freePages ++ bytesLE 2 v.recordingPages ++
    bytesLE 2 v.activePages ++ bytesLE 2 v.parkedPages ++ bytesLE 2 v.buildingPages ++ bytesLE 2 v.freeRuns ++
    bytesLE 2 v.longestRun ++ bytesLE 2 v.lowestFree ++ portBytes v.port ++
    [byte v.credit, byte v.drains, byte v.refills, flagByte v.bouncePending, byte v.unprimed]

/-- The fields of one recorder in QUERY BUSY (R175). -/
def recorderBytes (v : RecorderView) : List Byte :=
  [byte v.state.number, flagByte v.tail, byte (optNumber v.lane), byte (optNumber v.slot)] ++ bytesLE 2 v.stored

/-- The fields of QUERY BUSY in the order of R175. -/
def busyBytes (v : BusyView) : List Byte :=
  [byte v.state.number, byte v.cycleLen, byte v.beatLen] ++ v.recorders.flatMap recorderBytes ++
    [byte v.busyMask, flagByte v.running, byte v.result] ++ bytesLE 4 v.progress ++ bytesLE 4 v.total ++
    bytesLE 2 v.clips ++ [byte v.frames] ++ bytesLE 2 v.bytes ++ [byte v.omitted]

/-- The lane bands of a BOUNDARY report, two bits per lane, lane 0 lowest (R176). -/
def bandBits : List Band → Nat
  | [] => 0
  | b :: rest => b.number + 4 * bandBits rest

/-- The BOUNDARY payload (R176). -/
def boundaryBytes (v : BoundaryView) : List Byte :=
  bytesLE 2 v.c ++ [byte v.beat, byte v.state.number, byte (bandBits v.bands), byte (v.busyMask + flagBit v.bouncing 4)] ++
    bytesLE 2 v.mainClips ++ bytesLE 2 v.monClips ++ [byte v.omitted]

/-- The KIND of a message (R163). -/
def Message.kind : Message → Nat
  | .unknownKind _ => 0x80
  | .refused kind _ => kind + 0x80
  | .accepted kind => kind + 0x80
  | .hello .. => 0x81
  | .laneSet _ => 0x82
  | .gridSet .. => 0x83
  | .outputSet .. => 0x84
  | .cue .. => 0x85
  | .layerSet .. => 0x86
  | .bounce .. => 0x87
  | .flushed .. => 0x88
  | .transport _ => 0x89
  | .layer _ => 0x89
  | .lane .. => 0x89
  | .store _ => 0x89
  | .busy _ => 0x89
  | .boundary _ => 0x41
  | .cueFired .. => 0x42
  | .takeEnd .. => 0x43
  | .bounceEnd .. => 0x44
  | .level .. => 0x45
  | .frameFault .. => 0x46
  | .woke .. => 0x47

/-- The payload of a message (R170, R176). -/
def Message.payload : Message → List Byte
  | .unknownKind kind => [byte Code.unknownKind.number, kind]
  | .refused _ code => [byte code.number]
  | .accepted _ => [0]
  | .hello pages omitted frames bytes =>
    [0, 24] ++ bytesLE 2 1 ++ [1] ++ bytesLE 2 pages ++ [byte omitted, byte frames] ++ bytesLE 2 bytes
  | .laneSet l => 0 :: laneSetBytes l
  | .gridSet tempo cycleLength => [0] ++ bytesLE 2 tempo ++ bytesLE 3 cycleLength
  | .outputSet main mon click pulse beatReports mainClips monClips =>
    [0] ++ bytesLE 2 main ++ bytesLE 2 mon ++ bytesLE 3 click ++ [byte pulse.number, flagByte beatReports] ++
      bytesLE 2 mainClips ++ bytesLE 2 monClips
  | .cue code tag affected cycleLen beatLen => [byte code.number, tag, byte affected, byte cycleLen, byte beatLen]
  | .layerSet gain pan fade group => [0] ++ bytesLE 2 gain ++ [byte pan] ++ bytesLE 2 fade ++ [byte group.val]
  | .bounce code result multiple anchor pages fault =>
    [byte code.number, byte result, byte multiple, byte anchor] ++ bytesLE 2 pages ++ [byte fault]
  | .flushed count cycleLen beatLen => [0, byte count, byte cycleLen, byte beatLen]
  | .transport v => 0 :: transportBytes v
  | .layer v => 0 :: layerBytes v
  | .lane n l => 0 :: laneBytes n l
  | .store v => 0 :: storeBytes v
  | .busy v => 0 :: busyBytes v
  | .boundary v => boundaryBytes v
  | .cueFired tag kind code affected => [tag, byte kind.number, byte code.number, byte affected]
  | .takeEnd r sl reason len lost pages =>
    [byte r.val, byte sl.val, byte reason.number] ++ bytesLE 4 len ++ bytesLE 3 lost ++ bytesLE 2 pages
  | .bounceEnd result sl multiple pages progress clips =>
    [byte result.number, byte sl.val, byte multiple] ++ bytesLE 2 pages ++ bytesLE 4 progress ++ bytesLE 2 clips
  | .level l old new => [byte l.val, byte old.number, byte new.number]
  | .frameFault reason kind => [byte reason.number, kind]
  | .woke cause discarded pages => [byte cause.number, byte discarded] ++ bytesLE 2 pages

/-- The sum of bytes modulo 256. -/
def byteSum : List Byte → Byte
  | [] => 0
  | b :: rest => b + byteSum rest

/-- SYNC (R163). -/
def syncByte : Byte := 0xC3

/-- A whole frame: SYNC, LEN, KIND, payload and the CHECK that makes the sum from LEN on 0 mod 256 (R163). -/
def frameOf (kind : Byte) (payload : List Byte) : List Byte :=
  syncByte :: byte payload.length :: kind :: payload ++ [-(byte payload.length + kind + byteSum payload)]

/-- The bytes of a message on TXD. -/
def Message.bytes (m : Message) : List Byte := frameOf (byte m.kind) m.payload

end Sys2Proof.Machine
end

