-- ==== Sys2Proof/Machine/Operands.lean ====
section
/-! DEFINITION. What the requests carry: the values of each payload (R163, R176), read from a complete frame, and the value
checks and clamps that their owners make. Bytes a request does not read are set to 0 here, so that two frames that say the
same read as the same request. -/

namespace Sys2Proof.Machine

/-- The fields of LANE_SETUP (section 4.3). -/
structure LaneSetup where
  lane : Byte
  mask : Byte
  enable : Byte
  trim : BitVec 16
  send : BitVec 16
  pan : Byte
  tLow : BitVec 24
  tNom : BitVec 24
  rise : Byte
  fall : Byte
  armed : Byte
deriving DecidableEq, Repr

/-- The fields of GRID_SETUP (section 1.2). -/
structure GridSetup where
  mode : Byte
  beats : Byte
  tempo : BitVec 16
  fade : BitVec 16
deriving DecidableEq, Repr

/-- The fields of OUTPUT_SETUP (section 7.5). -/
structure OutputSetup where
  mask : Byte
  main : BitVec 16
  mon : BitVec 16
  click : BitVec 24
  pulseMode : Byte
  beatReports : Byte
deriving DecidableEq, Repr

/-- The fields of CUE (R49). `target` is 0 unless `targeted`. -/
structure Cue where
  kind : Byte
  quant : Byte
  tag : Byte
  targeted : Bool
  p1 : Byte
  p2 : Byte
  p3 : Byte
  target : BitVec 16
deriving DecidableEq, Repr

/-- The fields of LAYER_SETUP (section 2.7). -/
structure LayerSetup where
  slot : Byte
  mask : Byte
  gain : BitVec 16
  pan : Byte
  fade : BitVec 16
  group : Byte
deriving DecidableEq, Repr

/-- A request as the dispatcher sees it (R170). -/
inductive Request where
  | hello
  | laneSetup (q : LaneSetup)
  | gridSetup (q : GridSetup)
  | outputSetup (q : OutputSetup)
  | cue (q : Cue)
  | layerSetup (q : LayerSetup)
  | bounce (n : Byte) (slots : List Byte)
  | flush (mode tag : Byte)
  | query (form n : Byte)
  | clear
  | restart
  | rest
  | badLength (kind : Byte)
  | unknownKind (kind : Byte)
deriving DecidableEq, Repr

/-- Two bytes, least significant first. -/
def le16 (b0 b1 : Byte) : BitVec 16 := b1 ++ b0

/-- Three bytes, least significant first. -/
def le24 (b0 b1 b2 : Byte) : BitVec 24 := (b2 ++ b1 ++ b0 : BitVec 24)

/-- How many of the three parameters a cue kind reads (R49); all three for a kind code that is none. -/
def paramsRead (kind : Byte) : Nat :=
  match cueKindOf kind.toNat with
  | none => 3
  | some .startBase => 1
  | some .startTake => 3
  | some .stopTake => 1
  | some .mute => 2
  | some .unmute => 2
  | some .closeBase | some .undo | some .redo | some .halt | some .play => 0

/-- A cue with what is not read set to 0 (R49). -/
def Cue.read (q : Cue) : Cue :=
  { q with
    target := if q.targeted then q.target else 0
    p1 := if 1 ≤ paramsRead q.kind then q.p1 else 0
    p2 := if 2 ≤ paramsRead q.kind then q.p2 else 0
    p3 := if 3 ≤ paramsRead q.kind then q.p3 else 0 }

/-- FLUSH reads its tag in mode TAG (R65). -/
def flushOf (mode tag : Byte) : Request := .flush mode (if mode = 0 then 0 else tag)

/-- QUERY reads its number in the forms LAYER and LANE (R175). -/
def queryOf (form n : Byte) : Request := .query form (if form = 1 ∨ form = 2 then n else 0)

/-- BOUNCE reads the first `n` slot bytes (section 8.2). -/
def bounceOf (n : Byte) (slots : List Byte) : Request := .bounce n (slots.take n.toNat)

/-- The request of a frame: UNKNOWN_KIND outside 0x01..0x0C, BAD_LENGTH where the payload has not the length of the request
table, the request otherwise (R163, R170, R176). -/
def requestOf (kind : Byte) (payload : List Byte) : Request :=
  match kind.toNat with
  | 0x01 => match payload with
    | [] => .hello
    | _ => .badLength kind
  | 0x02 => match payload with
    | [lane, mask, enable, t0, t1, h0, h1, pan, l0, l1, l2, n0, n1, n2, rise, fall, armed] =>
      .laneSetup ⟨lane, mask, enable, le16 t0 t1, le16 h0 h1, pan, le24 l0 l1 l2, le24 n0 n1 n2, rise, fall, armed⟩
    | _ => .badLength kind
  | 0x03 => match payload with
    | [mode, beats, t0, t1, f0, f1] => .gridSetup ⟨mode, beats, le16 t0 t1, le16 f0 f1⟩
    | _ => .badLength kind
  | 0x04 => match payload with
    | [mask, m0, m1, n0, n1, c0, c1, c2, pulse, beat] =>
      .outputSetup ⟨mask, le16 m0 m1, le16 n0 n1, le24 c0 c1 c2, pulse, beat⟩
    | _ => .badLength kind
  | 0x05 => match payload with
    | [cueKind, quant, tag, flags, p1, p2, p3, t0, t1] =>
      .cue (Cue.read ⟨cueKind, quant, tag, flags.getLsbD 0, p1, p2, p3, le16 t0 t1⟩)
    | _ => .badLength kind
  | 0x06 => match payload with
    | [slot, mask, g0, g1, pan, f0, f1, group] => .layerSetup ⟨slot, mask, le16 g0 g1, pan, le16 f0 f1, group⟩
    | _ => .badLength kind
  | 0x07 => match payload with
    | [n, s0, s1, s2, s3, s4, s5, s6, s7] => bounceOf n [s0, s1, s2, s3, s4, s5, s6, s7]
    | _ => .badLength kind
  | 0x08 => match payload with
    | [mode, tag] => flushOf mode tag
    | _ => .badLength kind
  | 0x09 => match payload with
    | [form, n] => queryOf form n
    | _ => .badLength kind
  | 0x0A => match payload with
    | [] => .clear
    | _ => .badLength kind
  | 0x0B => match payload with
    | [] => .restart
    | _ => .badLength kind
  | 0x0C => match payload with
    | [] => .rest
    | _ => .badLength kind
  | _ => .unknownKind kind

/-! ## Value checks -/

/-- The quantisations of R49. -/
inductive Quant where
  | now
  | wait (q : WaitQuant)
deriving DecidableEq, Repr

/-- The quantisation of a code (R49). -/
def quantOf : Nat → Option Quant
  | 0 => some .now
  | 1 => some (.wait .beat)
  | 2 => some (.wait .cycle)
  | _ => none

/-- The quantisations the table of cue kinds allows (R49). -/
def quantAllowed : CueKind → Quant → Bool
  | .startBase, q => q == .now
  | .closeBase, q => q == .now
  | .play, q => q == .now
  | .halt, q => q != .wait .beat
  | .startTake, _ => true
  | .stopTake, _ => true
  | .mute, _ => true
  | .unmute, _ => true
  | .undo, _ => true
  | .redo, _ => true

/-- Every parameter the kind reads lies in the range of the table of cue kinds (R49, R50). -/
def paramsInRange : CueKind → Byte → Byte → Byte → Bool
  | .startBase, p1, _, _ => decide (p1.toNat ≤ 3)
  | .startTake, p1, p2, p3 =>
    decide (p1.toNat ≤ 3) && decide (1 ≤ p2.toNat) && decide (p2.toNat ≤ 8) && decide (p3.toNat ≤ 3)
  | .stopTake, p1, _, _ => decide (p1.toNat ≤ 3) || p1 == 255
  | .mute, p1, p2, _ => (p1 == 0 && decide (p2.toNat ≤ 23)) || (p1 == 1 && decide (p2.toNat ≤ 3))
  | .unmute, p1, p2, _ => (p1 == 0 && decide (p2.toNat ≤ 23)) || (p1 == 1 && decide (p2.toNat ≤ 3))
  | .closeBase, _, _, _ => true
  | .undo, _, _, _ => true
  | .redo, _, _, _ => true
  | .halt, _, _, _ => true
  | .play, _, _, _ => true

/-- The form check of R50: the kind and the quantisation of a cue that passes it, none for one that is refused BAD_VALUE. -/
def cueForm (q : Cue) : Option (CueKind × Quant) :=
  match cueKindOf q.kind.toNat, quantOf q.quant.toNat with
  | some kind, some quant =>
    if quantAllowed kind quant && (!q.targeted || quant == .wait .cycle) && paramsInRange kind q.p1 q.p2 q.p3 then
      some (kind, quant)
    else none
  | _, _ => none

/-- The value check of GRID_SETUP (R2). -/
def gridValid (q : GridSetup) : Bool :=
  decide (q.mode.toNat ≤ 1) && decide (1 ≤ q.beats.toNat) && decide (q.beats.toNat ≤ 32) && isFade q.fade.toNat

/-- The tempo clamped into 400..3000 (R2). -/
def clampTempo (t : Nat) : Nat := max 400 (min 3000 t)

/-- Bit `n` of a field mask names setting `n` (R176). -/
def named (mask : Byte) (n : Nat) : Bool := mask.getLsbD n

/-- The value check of LANE_SETUP (R72). -/
def laneValid (q : LaneSetup) : Bool :=
  decide (q.lane.toNat ≤ 3) && (!named q.mask 0 || decide (q.enable.toNat ≤ 1)) &&
    (!named q.mask 6 || (decide (q.rise.toNat ≤ 15) && decide (q.fall.toNat ≤ 15))) &&
    (!named q.mask 7 || decide (q.armed.toNat ≤ 1))

/-- The value check of OUTPUT_SETUP (R139). -/
def outputValid (q : OutputSetup) : Bool :=
  (!named q.mask 3 || decide (q.pulseMode.toNat ≤ 2)) && (!named q.mask 4 || decide (q.beatReports.toNat ≤ 1))

/-- The pulse mode of a code (section 7.5). -/
def pulseModeOf : Nat → PulseMode
  | 0 => .off
  | 1 => .cycle
  | _ => .beat

/-- The value check of LAYER_SETUP (R44). -/
def layerValid (q : LayerSetup) : Bool :=
  decide (q.slot.toNat ≤ 23) && (!named q.mask 2 || isFade q.fade.toNat) && (!named q.mask 3 || decide (q.group.toNat ≤ 3))

/-- The value check of BOUNCE (R147). -/
def bounceValid (n : Byte) (slots : List Byte) : Bool :=
  decide (2 ≤ n.toNat) && decide (n.toNat ≤ 8) && slots.all (fun b => decide (b.toNat ≤ 23)) && decide slots.Nodup

/-- A number clamped to at most `cap`. -/
def clampTo (cap n : Nat) : Nat := min cap n

/-- `new` where the mask names the setting, else `old`. -/
def ifNamed {α : Type} (mask : Byte) (n : Nat) (new old : α) : α := if named mask n then new else old

end Sys2Proof.Machine
end

