-- ==== Sys2Proof/Machine/Refills.lean ====
section
/-! DEFINITION. The prefetch buffers (section 6.4): what a storage offset of a layer reads as (R33, R106), the end of PRIMING (R18,
R125), refills composed and landed (R121, R122), and the refills that are placed without the port (R121). -/

namespace Sys2Proof.Machine

/-! ## Reading a layer -/

/-- The recorded value of storage offset `o` of layer `sl`: from the FIFO of the recorder in the base layer's tail drain at or
beyond its write cursor (R106), from memory otherwise (R33). -/
def readOffset (s : State) (sl : Slot) (o : Nat) : Int :=
  match tailRecorder s sl with
  | some r =>
    if (s.recorder r).cursor ≤ o then (fifoValue (s.recorder r).fifo (o - (s.recorder r).cursor)).getD 0
    else ((offsetAddress (s.layer sl).extents o).map (readSample s.mem)).getD 0
  | none => ((offsetAddress (s.layer sl).extents o).map (readSample s.mem)).getD 0

/-- Storage offset `o` of layer `sl` is served from a FIFO and needs no read (R106, R121). -/
def fromFifo (s : State) (sl : Slot) (o : Nat) : Bool :=
  match tailRecorder s sl with
  | some r => decide ((s.recorder r).cursor ≤ o)
  | none => false

/-! ## PRIMING -/

/-- The entry into RUNNING from PRIMING: not a boundary event, but PULSE marks the top of the cycle (R18, R21). -/
def enterRunning (t : Transport) : Transport :=
  { t with
    state := .running
    p := 0
    beatDue := false
    pulseRemaining := if t.pulseMode = .off then t.pulseRemaining else 480
    pin := if t.pulseMode = .off then t.pin else true }

/-- The loop store's report that priming is done, if every ACTIVE layer's buffer is ready (R18, R125). -/
def primingCheck (s : State) : State :=
  if s.transport.state = .priming ∧ slotNumbers.all (primedFor s) = true then s.setTransport (enterRunning s.transport)
  else s

/-! ## Refills -/

/-- The first index a refill of this layer covers (R121). -/
def refillStart (s : State) (sl : Slot) (b : Stream) : Nat :=
  match b.entries.getLast? with
  | none => nextIndex s (s.layer sl)
  | some e => (e.index + 1) % timeline s (s.layer sl)

/-- The entry of timeline index `i`: SILENT at or beyond len, the recorded value otherwise (R121, R120). -/
def entryAt (s : State) (sl : Slot) (i : Nat) : Entry :=
  ⟨i, offsetOf s (s.layer sl) i,
    if offsetOf s (s.layer sl) i < (s.layer sl).len then some (readOffset s sl (offsetOf s (s.layer sl) i)) else none⟩

/-- The 128 entries of a refill from index `i` on (R121). -/
def refillEntries (s : State) (sl : Slot) (b : Stream) : List Entry :=
  (List.range 128).map fun n => entryAt s sl ((refillStart s sl b + n) % timeline s (s.layer sl))

/-- The reads of a refill: its in-span offsets that do not come from a FIFO, cut at page ends and at the return to offset 0
(R121). -/
def refillReads (s : State) (sl : Slot) (entries : List Entry) : Nat :=
  (piecesOf
    (entries.zipIdx.filterMap fun x =>
      if x.1.value.isSome && !fromFifo s sl x.1.offset then some (x.2, x.1.offset) else none)).length

/-- How many entries at the front of a buffer belong to sample periods already formed (R122). -/
def staleCount (s : State) (l : LayerRec) (entries : List Entry) : Nat :=
  match entries.head? with
  | none => 0
  | some f => min entries.length (backMod (nextIndex s l) f.index (timeline s l))

/-- The entries of a refill join the buffer, the stale ones leave it, and with an entry left the layer is primed (R122). -/
def landEntries (sl : Slot) (entries : List Entry) (s : State) : State :=
  match s.buffer sl with
  | none => s
  | some b =>
    let all := b.entries ++ entries
    let left := all.drop (staleCount s (s.layer sl) all)
    primingCheck (s.setBuffer sl (some { b with entries := left, primed := b.primed || left != [] }))

/-- The entries of a refill of `sl` composed now. -/
def composedEntries (s : State) (sl : Slot) : List Entry :=
  match s.buffer sl with
  | none => []
  | some b => refillEntries s sl b

/-! ## Refills without the port -/

/-- A refill of `sl` that is raised and needs no read is given its entries without the port (R121). -/
def placeSilent (s : State) (sl : Slot) : State :=
  if refillPending s sl && refillReads s sl (composedEntries s sl) == 0 then landEntries sl (composedEntries s sl) s else s

/-- A layer's refill request is raised: while its refills need no read they are placed at once. Each brings 128 entries, so the
second leaves more than 128 and no request (R121). -/
def raiseRefill (sl : Slot) (s : State) : State := placeSilent (placeSilent s sl) sl

/-- The refill requests of all layers are raised, slot by slot (R121). -/
def placeAll (s : State) : State := slotNumbers.foldl (fun s sl => raiseRefill sl s) s

end Sys2Proof.Machine
end

