-- ==== Sys2Proof/Machine/Layers.lean ====
section
/-! DEFINITION. The shared operations of the layer table and the loop store on a layer: freeing it (R31, R115), activating and
withdrawing it (R124), the release of the redo list (R40), the layer cycles (R34, R35), and page acquisition (R113). -/

namespace Sys2Proof.Machine

/-! ## The transfer on the port -/

/-- The flag of the requester whose transfer has left the port is cleared (R85, R120, R146). -/
def clearFlight (kind : TransferKind) (s : State) : State :=
  match kind with
  | .drain r _ => s.setRecorder r { s.recorder r with inFlight := false }
  | .refill sl _ => s.setBuffer sl ((s.buffer sl).map fun b => { b with inFlight := false })
  | .bounceRead => s.setJob { s.job with inFlight := false }
  | .bounceWrite => s.setJob { s.job with inFlight := false }

/-- The port becomes FREE: at the completion of its transfer, or where the transfer is ended without effect (R119). -/
def releasePort (s : State) : State :=
  match s.store.transfer with
  | none => s
  | some t => clearFlight t.kind (s.setStore { s.store with transfer := none })

/-- The transfer in flight is ended if `mine` holds of it (R119). -/
def endTransferIf (mine : TransferKind → Bool) (s : State) : State :=
  match s.store.transfer with
  | none => s
  | some t => if mine t.kind then releasePort s else s

/-- A transfer serves layer `sl`: a drain of the recorder that names it, its refill, or the write of the bounce result
(R115). -/
def ofLayer (s : State) (sl : Slot) : TransferKind → Bool
  | .drain r _ => (s.recorder r).slot == some sl
  | .refill x _ => x == sl
  | .bounceRead => false
  | .bounceWrite => s.job.result == some sl

/-- A transfer of recorder `r`. -/
def ofRecorder (r : Recorder) : TransferKind → Bool
  | .drain q _ => q == r
  | _ => false

/-- Any refill. -/
def isRefill : TransferKind → Bool
  | .refill _ _ => true
  | _ => false

/-- A bounce burst. -/
def isBounce : TransferKind → Bool
  | .bounceRead => true
  | .bounceWrite => true
  | _ => false

/-! ## Recorders back to IDLE -/

/-- A recorder returns to IDLE with the values of R85 and leaves the take order list. -/
def resetRecorder (r : Recorder) (s : State) : State :=
  s.setTakes { recs := s.takes.recs.set r.val RecorderRec.idle, order := s.takes.order.filter (· != r) }

/-! ## Notices of the layer table to the loop store -/

/-- The activate notice: while the loop store streams, an empty, unprimed buffer, and the layer's refill request is raised
(R124, R121). -/
def activate (sl : Slot) (s : State) : State :=
  raiseRefill sl (s.setBuffer sl (if s.transport.streams then some ⟨[], false, false⟩ else none))

/-- The withdraw notice: the refill in flight is ended and the buffer discarded (R124). -/
def withdraw (sl : Slot) (s : State) : State :=
  (endTransferIf (fun t => match t with | .refill x _ => x == sl | _ => false) s).setBuffer sl none

/-- The slot leaves the layer stack and the redo list (R31). -/
def leaveLists (sl : Slot) (s : State) : State :=
  s.setTable { s.table with stack := s.table.stack.filter (· != sl), redo := s.table.redo.filter (· != sl) }

/-- The layer's pages return to the pool (R115). -/
def returnPages (sl : Slot) (s : State) : State :=
  s.setStore { s.store with pool := insertPages (pagesOf (s.layer sl).extents) s.store.pool }

/-- The recorder that writes out layer `sl` in its tail drain returns to IDLE with no report (R106). -/
def endTail (sl : Slot) (s : State) : State :=
  match tailRecorder s sl with
  | none => s
  | some r => resetRecorder r s

/-- A layer becomes FREE (R31) and the loop store takes the free notice (R115). -/
def freeLayer (sl : Slot) (s : State) : State :=
  let s := endTransferIf (ofLayer s sl) s
  let s := leaveLists sl s
  let s := returnPages sl s
  let s := endTail sl s
  let s := s.setBuffer sl none
  s.setLayer sl LayerRec.freed

/-- Several layers become FREE, in the order of the list. -/
def freeLayers (sls : List Slot) (s : State) : State := sls.foldl (fun s sl => freeLayer sl s) s

/-- The release of the redo list, from its head (R40, R115). -/
def releaseRedo (s : State) : State := freeLayers s.table.redo s

/-- Every layer record becomes FREE: each layer that is not FREE is freed as R31 gives (R48). -/
def freeAll (s : State) : State :=
  freeLayers (slotNumbers.filter fun sl => (s.layer sl).state != .free) s

/-! ## Layer state -/

/-- Every layer record through `f`. -/
def mapLayers (f : Slot → LayerRec → LayerRec) (s : State) : State :=
  s.setTable { s.table with layers := Vector.ofFn fun sl => f sl (s.layer sl) }

/-- A layer's layer cycle after a cycle start (R34). -/
def LayerRec.advanced (l : LayerRec) : LayerRec :=
  if l.state.cycles then { l with k := l.k.map fun k => (k + 1) % l.multiple } else l

/-- Every layer with a layer cycle is advanced at a cycle start, but for `skip` (R34). -/
def advanceCycles (skip : Option Slot) (s : State) : State :=
  mapLayers (fun sl l => if skip = some sl then l else l.advanced) s

/-- The halt notice at the layer table: k = 0 in every layer that has one (R35). -/
def haltCycles (s : State) : State :=
  mapLayers (fun _ l => if l.state.cycles then { l with k := some 0 } else l) s

/-- A layer becomes ACTIVE at the top of the layer stack and its activate notice goes to the loop store (R28, R36). -/
def joinStack (sl : Slot) (s : State) : State :=
  let s := s.setLayer sl { s.layer sl with state := .active }
  let s := s.setTable { s.table with stack := s.table.stack ++ [sl] }
  activate sl s

/-! ## Page acquisition -/

/-- The lowest free page goes to the end of a layer's extent list (R113). -/
def acquirePage (sl : Slot) (s : State) : Except AcquireFailure State :=
  match s.store.pool with
  | [] => .error .memoryFull
  | page :: rest =>
    match appendPage (s.layer sl).extents page with
    | none => .error .extentsFull
    | some extents =>
      .ok ((s.setLayer sl { s.layer sl with extents := extents }).setStore { s.store with pool := rest })

end Sys2Proof.Machine
end

