-- ==== Sys2Proof/Machine/Mixing.lean ====
section
/-! DEFINITION. The mix engine's arithmetic over the state (chapter 7): the sources of a sample period, the accumulators, the
click, and the pair of output values with its clip counts. -/

namespace Sys2Proof.Machine

/-- What a source gives one side: value times weight times side weight (R134). -/
def sourceTerm (value : Int) (weight side : Nat) : Int := value * weight * side

/-- The side weight of a source with this pan: `128 − pan` on the left, `pan` on the right (R134). -/
def sideWeight (left : Bool) (pan : Nat) : Nat := if left then 128 - pan else pan

/-- The entry that the loop store serves for a layer: the front of its buffer, nothing where it has none (R123). -/
def servedEntry (s : State) (sl : Slot) : Option Entry :=
  match s.buffer sl with
  | none => none
  | some b => b.entries.head?

/-- The term of layer slot `sl` on one side (R132, R133, R134). -/
def layerTerm (s : State) (left : Bool) (sl : Slot) : Int :=
  if s.transport.moves && audible s (s.layer sl) then
    match servedEntry s sl with
    | none => 0
    | some e =>
      match e.value with
      | none => 0
      | some v =>
        sourceTerm (v * 256) (effectiveGain (s.layer sl).gain (s.layer sl).fade (s.layer sl).len e.offset)
          (sideWeight left (s.layer sl).pan)
  else 0

/-- The trimmed value of lane `l` from its input sample (R71). -/
def laneValue (s : State) (x : Lane → Int) (l : Lane) : Int :=
  if (s.lane l).enable then trimmed (x l) (s.lane l).trim else 0

/-- The term of lane `l` on one side (R132, R134). -/
def laneTerm (s : State) (r : Lane → Int) (left : Bool) (l : Lane) : Int :=
  sourceTerm (r l) (s.lane l).send (sideWeight left (s.lane l).pan)

/-- The accumulator of one side: the sum over 24 slots and 4 lanes (R134). -/
def accumulator (s : State) (r : Lane → Int) (left : Bool) : Int :=
  (slotNumbers.map (layerTerm s left)).sum + (laneNumbers.map (laneTerm s r left)).sum

/-- A burst may sound at this sample period: the playhead moves, and nothing has ended the burst since the last one (R138, R145). -/
def burstRuns (s : State) : Bool := s.transport.moves && !s.mix.burstEnding

/-- The click value of a sample period (R138). -/
def clickValue (s : State) : Int :=
  if burstRuns s then
    match s.mix.burstPos with
    | none => 0
    | some n => if n / 24 % 2 = 0 then s.mix.burstAmp else -s.mix.burstAmp
  else 0

/-- The click burst after a sample period: it runs on while the playhead moves, and is ended by any other state, and by a HALT or an
abort of the base take behind which the playhead moves again (R138, R145, log 25). -/
def burstAfter (s : State) : Option Nat :=
  if burstRuns s then s.mix.burstPos.map (· + 1) else none

/-- The mix of one sample period: both pairs, the clip counts, and the frame that carries the pair formed before (R131, R135,
R136). -/
def formMix (r : Lane → Int) (s : State) : State :=
  let mainL := masterStage (accumulator s r true) s.mix.mainMaster
  let mainR := masterStage (accumulator s r false) s.mix.mainMaster
  let monL := masterStage (accumulator s r true) s.mix.monMaster + clickValue s
  let monR := masterStage (accumulator s r false) s.mix.monMaster + clickValue s
  s.setMix
    { s.mix with
      burstPos := burstAfter s
      burstEnding := false
      mainClips := satAdd 65535 s.mix.mainClips (clipped 24 mainL + clipped 24 mainR)
      monClips := satAdd 65535 s.mix.monClips (clipped 24 monL + clipped 24 monR)
      formed := ⟨sat24 mainL, sat24 mainR, sat24 monL, sat24 monR⟩
      frame := s.mix.formed }

/-- A boundary starts a click burst: amplitude A on beat 0, floor(A / 2) on any other beat (R137). -/
def startBurst (beat : Nat) (s : State) : State :=
  s.setMix
    { s.mix with
      burstPos := some 0
      burstAmp := if beat = 0 then s.mix.clickAmp else s.mix.clickAmp / 2
      burstEnding := false }

/-! ## PULSE -/

/-- A pulse starts (R21). -/
def Transport.pulse (t : Transport) : Transport := { t with pulseRemaining := 480, pin := true }

/-- The pulse is dropped (R22). -/
def Transport.noPulse (t : Transport) : Transport := { t with pulseRemaining := 0, pin := false }

/-- A boundary at the PULSE output: every cycle start in mode CYCLE, every beat in mode BEAT (R21). -/
def pulseAt (beat : Nat) (s : State) : State :=
  match s.transport.pulseMode with
  | .off => s
  | .cycle => if beat = 0 then s.setTransport s.transport.pulse else s
  | .beat => s.setTransport s.transport.pulse

end Sys2Proof.Machine
end

