-- ==== Sys2Proof/Machine/Takes.lean ====
section
/-! DEFINITION. The shared operations of the recorders (chapter 5): the admission tests and the admission of a take, the sample
path, the ends of a take, the drain, and the aborts; with them the cancellation of the cue queues and the transport's entry
into IDLE, which an abort of the base take brings. -/

namespace Sys2Proof.Machine

/-! ## Starting -/

/-- The admission tests of R87: the outcome of the first that fails. -/
def takeRefusal (lane : Lane) (s : State) : Option Code :=
  if !(s.lane lane).enable then some .laneOff
  else if s.store.pages = 0 then some .noStore
  else if idleRecorder s = none then some .noRecorder
  else if findSlot s (fun l => l.state == .free || l.state == .parked) = none then some .noLayerSlot
  else if countedPool s = [] then some .noMemory
  else none

/-- The slot a take or a bounce admitted now would be given: the lowest that is FREE or PARKED, since the release of the redo
list comes first (R40). -/
def slotToCome (s : State) : Nat := optNumber (findSlot s fun l => l.state == .free || l.state == .parked)

/-- The layer record of a new take (R27, R29). -/
def takeLayer (s : State) (lane : Lane) (multiple : Nat) (group : Group) (start : Nat) : LayerRec :=
  { LayerRec.freed with
    state := .recording
    origin := some (.lane lane)
    multiple := multiple
    k := some 0
    start := start
    pan := (s.lane lane).pan
    fade := s.transport.defaultFade
    group := group }

/-- The recorder record of a new take (R88). -/
def takeRecorder (lane : Lane) (sl : Slot) (base : Bool) : RecorderRec :=
  { RecorderRec.idle with state := .recording, lane := some lane, slot := some sl, base := base }

/-- The steps 2 to 4 of an admission, with the recorder and slot chosen (R88). -/
def admitWith (r : Recorder) (sl : Slot) (lane : Lane) (multiple : Nat) (group : Group) (base : Bool) (start : Nat)
    (s : State) : State :=
  let s := s.setTakes
    { recs := s.takes.recs.set r.val (takeRecorder lane sl base), order := s.takes.order ++ [r] }
  let s := s.setLayer sl (takeLayer s lane multiple group start)
  match acquirePage sl s with
  | .ok s => s
  | .error _ => s

/-- The admission of a take that has passed every test (R88). -/
def admitTake (lane : Lane) (multiple : Nat) (group : Group) (base : Bool) (start : Nat) (s : State) : State :=
  let s := releaseRedo s
  match idleRecorder s, findSlot s (fun l => l.state == .free) with
  | some r, some sl => admitWith r sl lane multiple group base start s
  | _, _ => s

/-! ## Ends of a take -/

/-- A zero-fill run of `n` goes into the FIFO and is counted as lost samples (R94, R47). -/
def fillGap (r : Recorder) (sl : Slot) (n : Nat) (s : State) : State :=
  let s := s.setRecorder r { s.recorder r with fifo := pushZeros (s.recorder r).fifo n, gap := 0 }
  s.setLayer sl { s.layer sl with lost := satAdd 8388608 (s.layer sl).lost n }

/-- An open gap is closed (R94). -/
def closeGap (r : Recorder) (sl : Slot) (s : State) : State :=
  if 0 < (s.recorder r).gap then fillGap r sl (s.recorder r).gap s else s

/-- A TAKE_END report for the layer as it stands (R108). -/
def reportTakeEnd (r : Recorder) (sl : Slot) (reason : EndReason) (s : State) : State :=
  raiseReport (.takeEnd r sl reason (s.layer sl).len (s.layer sl).lost (pageCount (s.layer sl).extents)) s

/-- A take leaves no layer: TAKE_END, the layer becomes FREE, the recorder returns to IDLE; a burst of its own is ended (R101,
R102). -/
def dropTake (r : Recorder) (sl : Slot) (reason : EndReason) (s : State) : State :=
  let s := reportTakeEnd r sl reason s
  let s := endTransferIf (ofRecorder r) s
  let s := freeLayer sl s
  resetRecorder r s

/-- The drain is finished: the layer becomes ACTIVE, TAKE_END is queued, the recorder returns to IDLE (R100). -/
def finishTake (r : Recorder) (sl : Slot) (s : State) : State :=
  let s := reportTakeEnd r sl ((s.recorder r).endReason.getD .stopped) s
  let s := joinStack sl s
  resetRecorder r s

/-- Everything a recorder recorded has reached memory (R100, R105). -/
def drained (q : RecorderRec) : Bool := q.state == .closing && q.fifo == [] && q.gap == 0 && !q.inFlight

/-- What a recorder in CLOSING does when its drain may have finished: the end of the tail drain brings it to IDLE (R105), that
of a take hands over its layer (R100), an exhausted base take waits for the closure (R107). -/
def drainDone (r : Recorder) (s : State) : State :=
  if drained (s.recorder r) then
    if (s.recorder r).tail then resetRecorder r s
    else if (s.recorder r).base then s
    else
      match (s.recorder r).slot with
      | none => s
      | some sl => finishTake r sl s
  else s

/-- A normal end of a take that is not the base take (R96), EMPTY with len = 0 (R101). -/
def endTake (reason : EndReason) (s : State) (r : Recorder) : State :=
  match (s.recorder r).slot with
  | none => s
  | some sl =>
    if (s.layer sl).len = 0 then dropTake r sl .empty s
    else
      let s := closeGap r sl s
      let s := s.setRecorder r { s.recorder r with state := .closing, endReason := some reason }
      let s := s.setLayer sl { s.layer sl with state := .closing }
      drainDone r s

/-- The abort of one take (R102). -/
def abortTake (s : State) (r : Recorder) : State :=
  match (s.recorder r).slot with
  | none => s
  | some sl => dropTake r sl .aborted s

/-! ## Cue queues and transport at an abort or a HALT -/

/-- The CANCELLED report of a removed entry (R62). -/
def reportCancelled (s : State) (e : CueEntry) : State := raiseReport (.cueFired e.tag e.kind .cancelled 255) s

/-- Both queues are emptied, with one CANCELLED report for each entry: the cycle queue's, then the beat queue's (R62, R63). -/
def cancelCues (s : State) : State :=
  (s.cues.cycle ++ s.cues.beat).foldl reportCancelled (s.setCues { cycle := [], beat := [] })

/-- The transport enters IDLE (R12, R19). -/
def Transport.enterIdle (t : Transport) : Transport :=
  { t.noPulse with
    state := .idle, length := none, p := 0, c := 0, cyclesRecorded := 0, closePending := false, beatDue := false }

/-- The abort of the base take: every take in progress is aborted, the base take's TAKE_END first, every layer becomes FREE, both
queues are cancelled, the transport enters IDLE, and the next sample period ends the burst (R103, R63, R12, R143). -/
def abortBase (r : Recorder) (s : State) : State :=
  let others := s.takes.order.filter (· != r)
  let s := abortTake s r
  let s := others.foldl abortTake s
  let s := freeAll s
  let s := cancelCues s
  stopBurst (s.setTransport s.transport.enterIdle)

/-! ## The sample path -/

/-- A lost sample is counted in the gap; a gap at 65535 is filled first (R94). -/
def loseSample (r : Recorder) (sl : Slot) (s : State) : State :=
  let s := if (s.recorder r).gap = 65535 then fillGap r sl 65535 s else s
  s.setRecorder r { s.recorder r with gap := (s.recorder r).gap + 1 }

/-- A stored value joins the FIFO, and the head copy for the base take's offsets 0..255 (R92, R104). -/
def storeSample (r : Recorder) (o : Nat) (v : Int) (s : State) : State :=
  s.setRecorder r
    { s.recorder r with
      fifo := (s.recorder r).fifo ++ [.sample v]
      head := if (s.recorder r).base ∧ o < 256 then (s.recorder r).head ++ [v] else (s.recorder r).head }

/-- The steps 2 to 4 of R92 for storage offset `o`, whose page the layer holds. -/
def takeSample (r : Recorder) (sl : Slot) (o : Nat) (v : Int) (s : State) : State :=
  let s := if storedCount (s.recorder r).fifo < 512 then storeSample r o v (closeGap r sl s) else loseSample r sl s
  s.setLayer sl { s.layer sl with len := o + 1 }

/-- Storage offset `o` opens a new page (R92). -/
def opensPage (o : Nat) : Bool := decide (0 < o) && decide (o % 4096 = 0)

/-- The end reason of a failed acquisition (R93). -/
def AcquireFailure.reason : AcquireFailure → EndReason
  | .memoryFull => .memoryFull
  | .extentsFull => .extentsFull

/-- A base take that has run out enters CLOSING with its layer in RECORDING (R107). -/
def exhaustRecorder (r : Recorder) (sl : Slot) (reason : EndReason) (s : State) : State :=
  let s := closeGap r sl s
  s.setRecorder r { s.recorder r with state := .closing, endReason := some reason }

/-- The transport takes the exhaustion notice in GRID DEFINING: close pending is set (R13). -/
def exhaustGrid (s : State) : State := s.setTransport { s.transport with closePending := true }

/-- One recorder takes one sample period (R92), outside FREE DEFINING's exhaustion, which is settled before. -/
def recordSample (value : Lane → Int) (s : State) (r : Recorder) : State :=
  match (s.recorder r).state, (s.recorder r).lane, (s.recorder r).slot with
  | .recording, some lane, some sl =>
    let o := (s.layer sl).len
    if opensPage o then
      match acquirePage sl s with
      | .ok s => takeSample r sl o (stored16 (value lane)) s
      | .error e => if (s.recorder r).base then exhaustGrid (exhaustRecorder r sl e.reason s) else endTake e.reason s r
    else takeSample r sl o (stored16 (value lane)) s
  | _, _, _ => s

/-- A recorder whose next sample opens a page (R92). -/
def needsPage (s : State) (r : Recorder) : Bool :=
  match (s.recorder r).state, (s.recorder r).slot with
  | .recording, some sl => opensPage (s.layer sl).len
  | _, _ => false

/-- All recorders take one sample period. Which of two acquisitions is taken first is open (R93, log 5). -/
def recordAll (value : Lane → Int) (s : State) : State :=
  let claims := openOrder (recorderNumbers.filter (needsPage s)) s
  (claims.1 ++ recorderNumbers.filter fun r => !needsPage s r).foldl (recordSample value) claims.2

end Sys2Proof.Machine
end

