-- ==== Sys2Proof/Machine/Bouncing.lean ====
section
/-! DEFINITION. The shared operations of the bounce engine (chapter 8): the admission tests, the reservation and the job record,
the alignment of the sources, the chunks of the walk, completion and abort. -/

namespace Sys2Proof.Machine

/-! ## Alignment and pieces -/

/-- The timeline index of a source when the anchor stands at index `t` (R150). -/
def sourceIndex (s : State) (j : Job) (src : Source) (t : Nat) : Nat :=
  backMod (src.k + t / s.transport.cycleLength) j.anchorK src.multiple * s.transport.cycleLength +
    t % s.transport.cycleLength

/-- The storage offset of a source when the anchor stands at index `t` (R150). -/
def sourceOffset (s : State) (j : Job) (src : Source) (t : Nat) : Nat :=
  backMod (sourceIndex s j src t) (s.layer src.slot).start (src.multiple * s.transport.cycleLength)

/-- The effective gain of a source at storage offset `o`, with the latched gain and fade (R133, R153). -/
def sourceGain (s : State) (src : Source) (o : Nat) : Nat :=
  effectiveGain src.gain src.fade (s.layer src.slot).len o

/-- What storage offset `o` of a source adds to a partial sum (R153). -/
def sourceValue (s : State) (src : Source) (o : Nat) : Int := readOffset s src.slot o * sourceGain s src o

/-- The places of a chunk whose sample of this source is read from memory, with their storage offsets (R152, R153). -/
def sourceReads (s : State) (j : Job) (src : Source) (ch : Chunk) : List (Nat × Nat) :=
  (List.range ch.length).filterMap fun i =>
    let o := sourceOffset s j src (ch.start + i)
    if o < (s.layer src.slot).len ∧ fromFifo s src.slot o = false then some (i, o) else none

/-- What each place of a chunk takes at once from the FIFO of the base layer's tail drain (R153). -/
def sourceFifo (s : State) (j : Job) (src : Source) (ch : Chunk) : List Int :=
  (List.range ch.length).map fun i =>
    let o := sourceOffset s j src (ch.start + i)
    if o < (s.layer src.slot).len ∧ fromFifo s src.slot o = true then sourceValue s src o else 0

/-- The sources from place `n` on are taken in hand in turn, until one has a piece to read; after the last the chunk is in phase
WRITE (R152). -/
def takeInHand (s : State) (j : Job) : List Source → Nat → Chunk → Chunk
  | [], n, ch => { ch with source := n - 1, pieces := [], phase := .write }
  | src :: rest, n, ch =>
    let ch := { ch with source := n, pieces := piecesOf (sourceReads s j src ch),
                        sums := List.zipWith (· + ·) ch.sums (sourceFifo s j src ch) }
    if ch.pieces = [] then takeInHand s j rest (n + 1) ch else ch

/-- How many sums of a chunk are changed by their saturation (R154). -/
def sumClips (ch : Chunk) : Nat := (ch.sums.map fun x => clipped 16 (bounceRounded x)).sum

/-- The job with its chunk in hand; at the entry into phase WRITE the clips of its sums are counted (R154). -/
def setChunk (ch : Chunk) (s : State) : State :=
  s.setJob
    { s.job with
      chunk := some ch
      clips := if ch.phase = .write then satAdd 65535 s.job.clips (sumClips ch) else s.job.clips }

/-- A chunk is set up at the job's progress (R152). -/
def setUpChunk (s : State) : State :=
  let n := min 128 (s.job.total - s.job.progress)
  setChunk (takeInHand s s.job s.job.sources 0 ⟨s.job.progress, n, List.replicate n 0, 0, [], .read⟩) s

/-- The sums of a chunk with the values `vs` added from place `n` on. -/
def addFrom : Nat → List Int → List Int → List Int
  | _, _, [] => []
  | _, [], xs => xs
  | 0, v :: vs, x :: xs => (x + v) :: addFrom 0 vs xs
  | n + 1, vs, x :: xs => x :: addFrom n vs xs

/-- A read has completed: its piece adds to the partial sums, and after the last piece the next source is taken in hand (R152,
R153). -/
def addPiece (ch : Chunk) (s : State) : State :=
  match s.job.sources[ch.source]?, ch.pieces with
  | some src, q :: rest =>
    let vs := (List.range q.count).map fun i => sourceValue s src (q.off + i)
    let ch := { ch with sums := addFrom q.rel vs ch.sums, pieces := rest }
    if rest = [] then
      setChunk (takeInHand s s.job (s.job.sources.drop (ch.source + 1)) (ch.source + 1) ch) s
    else setChunk ch s
  | _, _ => s

/-! ## Admission -/

/-- The largest multiple among the named slots (R148). -/
def largestMultiple (s : State) (slots : List Slot) : Nat := slots.foldl (fun m sl => max m (s.layer sl).multiple) 1

/-- The pages a bounce of largest multiple `m` needs (R116). -/
def bouncePages (s : State) (m : Nat) : Nat := ceilDiv (m * s.transport.cycleLength) 4096

/-- The tests 2 to 8 of R148: the outcome and the slot at fault, 255 where the outcome names none (R147). -/
def bounceTest (slots : List Slot) (s : State) : Code × Nat :=
  if s.transport.state ≠ .running ∧ s.transport.state ≠ .halted then (.wrongState, 255)
  else if s.job.running then (.busy, 255)
  else
    match slots.find? fun sl => (s.layer sl).state != .active with
    | some sl => (.noSuchLayer, sl.val)
    | none =>
      match slots.find? fun sl => decide (largestMultiple s slots % (s.layer sl).multiple ≠ 0) with
      | some sl => (.multipleMismatch, sl.val)
      | none =>
        if findSlot s (fun l => l.state == .free || l.state == .parked) = none then (.noLayerSlot, 255)
        else if (countedPool s).length < bouncePages s (largestMultiple s slots) then (.noMemory, 255)
        else if 16 < (runsOf ((countedPool s).take (bouncePages s (largestMultiple s slots)))).length then (.extents, 255)
        else (.ok, 255)

/-- The anchor's place: the first source whose multiple is the largest (R149). -/
def anchorPlace (s : State) (slots : List Slot) : Nat :=
  slots.findIdx fun sl => (s.layer sl).multiple == largestMultiple s slots

/-- The newest source: the one that stands nearest the top of the stack (R30). -/
def newestSource (s : State) (slots : List Slot) : Option Slot := s.table.stack.reverse.find? (slots.contains ·)

/-- A source record with the values as they stand (R146, R149). -/
def latchSource (s : State) (sl : Slot) : Source :=
  ⟨sl, (s.layer sl).multiple, (s.layer sl).k.getD 0, (s.layer sl).gain, (s.layer sl).fade⟩

/-- The record of a BUILDING layer (R30). -/
def buildingLayer (s : State) (slots : List Slot) (m : Nat) (extents : List Extent) : LayerRec :=
  { LayerRec.freed with
    state := .building
    origin := some .bounce
    multiple := m
    len := m * s.transport.cycleLength
    extents := extents
    group := ((newestSource s slots).map fun sl => (s.layer sl).group).getD 0 }

/-- The held flags of the slots (R30, R151). -/
def setHeld (slots : List Slot) (held : Bool) (s : State) : State :=
  mapLayers (fun sl l => if slots.contains sl then { l with held := held } else l) s

/-- The job record of an admitted bounce, before its first chunk (R149). -/
def newJob (s : State) (slots : List Slot) (result : Slot) : Job :=
  { Job.idle with
    running := true
    result := some result
    sources := slots.map (latchSource s)
    anchor := some (anchorPlace s slots)
    anchorK := ((slots[anchorPlace s slots]?).map fun sl => (s.layer sl).k.getD 0).getD 0
    multiple := largestMultiple s slots
    total := largestMultiple s slots * s.transport.cycleLength }

/-- The admission of a bounce that has passed every test (R149). -/
def admitBounce (slots : List Slot) (s : State) : State :=
  let s := releaseRedo s
  match findSlot s (fun l => l.state == .free) with
  | none => s
  | some result =>
    let m := largestMultiple s slots
    let n := bouncePages s m
    let extents := runsOf (s.store.pool.take n)
    let s := s.setStore { s.store with pool := s.store.pool.drop n }
    let s := s.setLayer result (buildingLayer s slots m extents)
    let s := setHeld slots true s
    setUpChunk (s.setJob (newJob s slots result))

/-! ## Completion and abort -/

/-- A BOUNCE_END report with `progress` indices written (R159). -/
def reportBounceEnd (result : BounceResult) (sl : Slot) (progress : Nat) (s : State) : State :=
  raiseReport (.bounceEnd result sl s.job.multiple (pageCount (s.layer sl).extents) progress s.job.clips) s

/-- The stack with the result in the place of the newest source and without the other sources (R30, R156). -/
def mergedStack (stack slots : List Slot) (newest : Option Slot) (result : Slot) : List Slot :=
  stack.filterMap fun sl => if newest = some sl then some result else if slots.contains sl then none else some sl

/-- The result of a completed bounce becomes ACTIVE with the anchor's layer cycle `k` (R30). -/
def activateResult (result : Slot) (k : Nat) (s : State) : State :=
  activate result (s.setLayer result { s.layer result with state := .active, k := some k })

/-- The completion of a job (R156). -/
def completeBounce (result : Slot) (s : State) : State :=
  let slots := s.job.sources.map Source.slot
  let k := (((s.job.anchor.bind fun a => slots[a]?).map fun sl => (s.layer sl).k.getD 0)).getD 0
  let s := s.setTable
    { s.table with stack := mergedStack s.table.stack slots (newestSource s slots) result }
  let s := freeLayers slots s
  let s := activateResult result k s
  let s := reportBounceEnd .done result s.job.total s
  primingCheck (s.setJob Job.idle)

/-- The abort of a running job by a HALT from RUNNING (R157). -/
def abortBounce (s : State) : State :=
  match s.job.result with
  | none => s
  | some result =>
    let slots := s.job.sources.map Source.slot
    let s := endTransferIf isBounce s
    let s := reportBounceEnd .halted result s.job.progress s
    let s := freeLayer result s
    let s := setHeld slots false s
    s.setJob Job.idle

/-- The write of a chunk has completed (R155). -/
def writeChunk (ch : Chunk) (result : Slot) (s : State) : State :=
  let values := ch.sums.map fun x => sat16 (bounceRounded x)
  let s :=
    match offsetAddress (s.layer result).extents ch.start with
    | none => s
    | some a => s.setMem (writeSamples s.mem a values)
  let s := s.setJob { s.job with progress := s.job.progress + ch.length, chunk := none }
  if s.job.progress = s.job.total then completeBounce result s else setUpChunk s

end Sys2Proof.Machine
end

