-- ==== Sys2Proof/Machine/Cueing.lean ====
section
/-! DEFINITION. Cues (chapter 3): the state test, the outcome of each kind, the effect of each kind, the firing of the queues at
a boundary, the boundary event itself (R15), and the closure of the base take (R11). -/

namespace Sys2Proof.Machine

/-! ## Outcomes -/

/-- The state test of R52: the outcome where the kind may not act, none where its owner decides. -/
def stateRefusal (kind : CueKind) (t : Transport) : Option Code :=
  match kind with
  | .startBase => if t.state = .idle then none else some .wrongState
  | .closeBase => if t.state = .defining then none else some .wrongState
  | .startTake => if t.moves then none else some .wrongState
  | .play => if t.state = .halted then none else some .wrongState
  | .halt => if t.state = .priming ∨ t.state = .running then none else some .nothing
  | .stopTake => if t.state = .idle then some .wrongState else none
  | .mute => if t.state = .idle then some .wrongState else none
  | .unmute => if t.state = .idle then some .wrongState else none
  | .undo => if t.state = .idle then some .wrongState else none
  | .redo => if t.state = .idle then some .wrongState else none

/-- The outcome of MUTE and UNMUTE (R41, R42), with the affected slot. -/
def muteResult (p1 p2 : Byte) (s : State) : Code × Nat :=
  if p1 = 1 then (.ok, 255)
  else if (s.layer (byteFin 24 p2)).state.cycles then (.ok, (byteFin 24 p2).val)
  else (.noSuchLayer, 255)

/-- The outcome of UNDO, with the affected slot (R38, R102). -/
def undoResult (s : State) : Code × Nat :=
  if takeInProgress s then (.ok, optNumber ((newestTake s).bind fun r => (s.recorder r).slot))
  else
    match s.table.stack.getLast? with
    | none => (.nothing, 255)
    | some sl => if (s.layer sl).held then (.layerHeld, 255) else (.ok, sl.val)

/-- The outcome of a start, with the affected slot (R87, R53). -/
def startResult (p1 : Byte) (s : State) : Code × Nat :=
  match takeRefusal (byteFin 4 p1) s with
  | some code => (code, 255)
  | none => (.ok, slotToCome s)

/-- The outcome of a cue evaluated now and its affected field (R51, R52, R53). -/
def cueResult (kind : CueKind) (p1 p2 : Byte) (s : State) : Code × Nat :=
  match stateRefusal kind s.transport with
  | some code => (code, 255)
  | none =>
    match kind with
    | .startBase => startResult p1 s
    | .closeBase => if s.transport.mode = .free ∧ s.transport.p < 4800 then (.tooShort, 255) else (.ok, 255)
    | .startTake => startResult p1 s
    | .stopTake =>
      match stopTarget s p1 with
      | none => (.nothing, 255)
      | some r => (.ok, r.val)
    | .mute => muteResult p1 p2 s
    | .unmute => muteResult p1 p2 s
    | .undo => undoResult s
    | .redo =>
      match s.table.redo with
      | [] => (.nothing, 255)
      | sl :: _ => (.ok, sl.val)
    | .halt => (.ok, 255)
    | .play => (.ok, 255)

/-! ## Effects of the kinds that can wait in a queue -/

/-- MUTE (`on`) and UNMUTE of a layer or a group (R41, R42). -/
def applyMute (on : Bool) (p1 p2 : Byte) (s : State) : State :=
  if p1 = 1 then
    s.setTable { s.table with groupMutes := s.table.groupMutes.set (byteFin 4 p2).val on }
  else s.setLayer (byteFin 24 p2) { s.layer (byteFin 24 p2) with muted := on }

/-- UNDO parks the layer at the top of the stack (R38). -/
def parkLayer (sl : Slot) (s : State) : State :=
  let s := s.setTable { s.table with stack := s.table.stack.filter (· != sl), redo := sl :: s.table.redo }
  let s := s.setLayer sl { s.layer sl with state := .parked }
  primingCheck (withdraw sl s)

/-- The effect of an UNDO whose outcome is OK (R38, R102, R103). -/
def applyUndo (s : State) : State :=
  if takeInProgress s then
    match newestTake s with
    | none => s
    | some r => if (s.recorder r).base then abortBase r s else abortTake s r
  else
    match s.table.stack.getLast? with
    | none => s
    | some sl => parkLayer sl s

/-- The effect of a REDO whose outcome is OK (R39). -/
def applyRedo (s : State) : State :=
  match s.table.redo with
  | [] => s
  | sl :: rest => joinStack sl (s.setTable { s.table with redo := rest })

/-- The blocks that raise reports on a halt notice. -/
inductive HaltBlock where
  | cues
  | recorders
  | bounce
deriving DecidableEq, Repr

/-- The takes that a HALT from RUNNING ends, in take order (R99). -/
def haltedTakes (s : State) : List Recorder := s.takes.order.filter fun r => stoppable (s.recorder r)

/-- The blocks on which a halt notice acts: the cue queues with an entry, and from RUNNING the recorders with a take and the
bounce engine with a job (R62, R99, R157). -/
def haltBlocks (fromRunning : Bool) (s : State) : List HaltBlock :=
  (if s.cues.cycle ++ s.cues.beat = [] then [] else [.cues]) ++
    (if fromRunning && haltedTakes s != [] then [.recorders] else []) ++
    (if fromRunning && s.job.running then [.bounce] else [])

/-- One block takes the halt notice. -/
def takeHalt (s : State) : HaltBlock → State
  | .cues => cancelCues s
  | .recorders =>
    let takes := openOrder (haltedTakes s) s
    takes.1.foldl (endTake .halted) takes.2
  | .bounce => abortBounce s

/-- The halt notice at the loop store: refills are ended, buffers discarded (R126). -/
def haltBuffers (s : State) : State :=
  let s := endTransferIf isRefill s
  s.setStore { s.store with buffers := Vector.replicate 24 none }

/-- The transport enters HALTED (R16). -/
def Transport.enterHalted (t : Transport) : Transport := { t.noPulse with state := .halted, p := 0, beatDue := false }

/-- A HALT that takes effect (R16); the next sample period ends the burst (R143). The blocks that raise reports take the notice in an
order the spec leaves open (R61, R108, R157, log 5). -/
def applyHalt (s : State) : State :=
  let fromRunning := s.transport.state == .running
  let s := s.setTransport s.transport.enterHalted
  let s := haltBuffers (haltCycles (stopBurst s))
  let blocks := openOrder (haltBlocks fromRunning s) s
  blocks.1.foldl takeHalt blocks.2

/-- The effect of a cue whose outcome is OK, for the kinds that can wait in a queue (R60). A START_TAKE starts at the playhead,
which at a boundary is the beat start or 0 (R89). -/
def applyQueued (kind : CueKind) (p1 p2 p3 : Byte) (s : State) : State :=
  match kind with
  | .startTake => admitTake (byteFin 4 p1) p2.toNat (byteFin 4 p3) false s.transport.p s
  | .stopTake =>
    match stopTarget s p1 with
    | none => s
    | some r => endTake .stopped s r
  | .mute => applyMute true p1 p2 s
  | .unmute => applyMute false p1 p2 s
  | .undo => applyUndo s
  | .redo => applyRedo s
  | .halt => applyHalt s
  | .startBase => s
  | .closeBase => s
  | .play => s

/-! ## Firing -/

/-- An entry fires: CUE_FIRED with its outcome, then its effect (R60, R61). -/
def fireEntry (e : CueEntry) (s : State) : State :=
  let result := cueResult e.kind e.p1 e.p2 s
  let s := raiseReport (.cueFired e.tag e.kind result.1 result.2) s
  if result.1 = .ok then applyQueued e.kind e.p1 e.p2 e.p3 s else s

/-- The due test of R57. -/
def isDue (c : Nat) (e : CueEntry) : Bool :=
  match e.target with
  | none => true
  | some t => decide (backMod c t 65536 < 32768)

/-- A boundary event (R15): the beat number, 0 for a cycle start, the cycle counter as it stands after the event, and whether
it is the closure of a FREE base take (R59). -/
structure Boundary where
  beat : Nat
  c : Nat
  freeClosure : Bool
deriving DecidableEq, Repr

/-- An entry of the cycle queue fires at this cycle start (R57, R59). -/
def dueAt (b : Boundary) (e : CueEntry) : Bool := b.freeClosure || isDue b.c e

/-- The walk of the cycle queue (R57): `kept` are the entries passed over, the list those not yet judged. At the closure of a FREE
base take every entry is due (R59). A walk in which an entry's effect has emptied the queues ends there. -/
def walkCycle (b : Boundary) : List CueEntry → List CueEntry → State → State
  | _, [], s => s
  | kept, e :: rest, s =>
    if dueAt b e then
      let s := fireEntry e (s.setCues { s.cues with cycle := kept ++ rest })
      if s.cues.cycle = [] then s else walkCycle b kept rest s
    else walkCycle b (kept ++ [e]) rest s

/-- The firing of the beat queue (R58), ended where an entry's effect has emptied the queues. -/
def fireBeats : List CueEntry → State → State
  | [], s => s
  | e :: rest, s =>
    let s := fireEntry e (s.setCues { s.cues with beat := rest })
    if s.cues.beat = [] then s else fireBeats rest s

/-- The cue queues take a boundary event whole (R56): at a cycle start the cycle queue, then the beat queue. -/
def cuesTake (b : Boundary) (s : State) : State :=
  let s := if b.beat = 0 then walkCycle b [] s.cues.cycle s else s
  fireBeats s.cues.beat s

/-- The control link raises the BOUNDARY report; queued, it takes the clip counts and the omitted count (R136, R172, R173). -/
def linkTakes (b : Boundary) (s : State) : State :=
  if s.link.outQ.length < 24 then
    let view : BoundaryView :=
      { c := b.c, beat := b.beat, state := s.transport.state, bands := laneNumbers.map fun l => (s.lane l).band,
        busyMask := busyMask s, bouncing := s.job.running, mainClips := s.mix.mainClips, monClips := s.mix.monClips,
        omitted := s.link.omitted }
    let s := reply (.boundary view) s
    let s := s.setMix { s.mix with mainClips := 0, monClips := 0 }
    s.setLink { s.link with omitted := 0 }
  else s.setLink { s.link with omitted := satAdd 255 s.link.omitted 1 }

/-- The receivers of a boundary event that raise reports. -/
inductive Receiver where
  | link
  | cues
deriving DecidableEq, Repr

/-- Some entry would fire at this boundary (R57, R58). -/
def anyFires (b : Boundary) (s : State) : Bool :=
  s.cues.beat != [] || (b.beat == 0 && s.cues.cycle.any (dueAt b))

/-- The control link raises a BOUNDARY report for this boundary (R173). -/
def linkRaises (b : Boundary) (s : State) : Bool := b.beat == 0 || s.link.beatReports

/-- The receivers that do something at this boundary. -/
def receivers (b : Boundary) (s : State) : List Receiver :=
  (if linkRaises b s then [.link] else []) ++ (if anyFires b s then [.cues] else [])

/-- One receiver takes the boundary event. -/
def takeBoundary (b : Boundary) (s : State) : Receiver → State
  | .link => linkTakes b s
  | .cues => cuesTake b s

/-- A boundary event goes to its receivers (R15). The layer table (`skip` is not advanced), the mix engine and PULSE come first;
whether the control link or the cue queues come next is open (R61, log 5). -/
def raiseBoundary (beat : Nat) (freeClosure : Bool) (skip : Option Slot) (s : State) : State :=
  let b : Boundary := ⟨beat, s.transport.c, freeClosure⟩
  let s := if beat = 0 then advanceCycles skip s else s
  let s := pulseAt beat (startBurst beat s)
  let order := openOrder (receivers b s) s
  order.1.foldl (takeBoundary b) order.2

/-! ## The closure of the base take -/

/-- The recorder of the base take, not yet in its tail drain. -/
def baseRecorder (s : State) : Option Recorder :=
  recorderNumbers.find? fun r => (s.recorder r).base && !(s.recorder r).tail

/-- The 256 entries loaded from the head copy (R124). -/
def headEntries (q : RecorderRec) (l : LayerRec) : List Entry :=
  (List.range 256).map fun i => ⟨i, i, if i < l.len then q.head[i]? else none⟩

/-- The base layer's record at the closure (R29). -/
def closedBase (l : LayerRec) (multiple : Nat) : LayerRec := { l with state := .active, multiple := multiple, k := some 0 }

/-- The base recorder at the closure (R105, R107): TAKE_END at once, then IDLE or the tail drain. In the tail drain the end reason
stays as it was, that of an exhausted base take or none, until the recorder is IDLE again: DESIGN CHOICE, log 22, since R85 says
only that it is kept until TAKE_END. The base flag stays set in the tail drain: DESIGN CHOICE, log 26, since R105 does not clear
it while R12 no longer calls the take the base take. -/
def closeRecorder (r : Recorder) (sl : Slot) (s : State) : State :=
  let s := reportTakeEnd r sl ((s.recorder r).endReason.getD .closed) s
  let s := s.setRecorder r { s.recorder r with state := .closing, tail := true }
  if drained (s.recorder r) then resetRecorder r s else s

/-- The closure notice at the layer table, the loop store and the recorders (R11, R29, R105, R124). -/
def closeBaseTake (multiple : Nat) (r : Recorder) (sl : Slot) (s : State) : State :=
  let s := closeGap r sl s
  let s := s.setLayer sl (closedBase (s.layer sl) multiple)
  let s := s.setTable { s.table with stack := s.table.stack ++ [sl] }
  let s := s.setBuffer sl (some ⟨headEntries (s.recorder r) (s.layer sl), true, false⟩)
  closeRecorder r sl s

/-- The transport at the closure; in FREE mode c is 0, in GRID mode it keeps the value of the closing wrap (R11). -/
def Transport.enterClosed (t : Transport) (length : Nat) : Transport :=
  { t with
    state := .running
    length := some length
    p := 0
    c := if t.mode = .free then 0 else t.c
    cyclesRecorded := 0
    closePending := false
    beatDue := false }

/-- The closure in either mode: the closure notice, then the cycle start at which every other layer is advanced (R11, R34). That the
notice comes before that cycle start, so that its TAKE_END stands before the BOUNDARY and every CUE_FIRED of the cycle start, and the
BOUNDARY's busy mask shows the recorder as the notice has left it, is the model's: DESIGN CHOICE, log 24, since R11, R61 and R105 give
the two no order. -/
def closure (multiple length : Nat) (s : State) : State :=
  let free := s.transport.mode == .free
  let s := s.setTransport (s.transport.enterClosed length)
  match baseRecorder s with
  | none => raiseBoundary 0 free none s
  | some r =>
    match (s.recorder r).slot with
    | none => raiseBoundary 0 free none s
    | some sl => raiseBoundary 0 free (some sl) (closeBaseTake multiple r sl s)

/-- The wrap of p at L (R9, R14): p = 0, c advances, and the cycle start is the closure or an ordinary one. -/
def wrapCycle (s : State) : State :=
  let t := { s.transport with p := 0, c := (s.transport.c + 1) % 65536 }
  if t.state = .defining then
    let t := { t with cyclesRecorded := t.cyclesRecorded + 1 }
    if t.closePending ∨ t.cyclesRecorded = 8 then closure t.cyclesRecorded t.cycleLength (s.setTransport t)
    else raiseBoundary 0 false none (s.setTransport t)
  else raiseBoundary 0 false none (s.setTransport t)

/-- A beat start other than 0 has been reached (R15). -/
def takeBeat (s : State) : State :=
  let s := s.setTransport { s.transport with beatDue := false }
  raiseBoundary (currentBeat s.transport.cycleLength s.transport.beats s.transport.p) false none s

/-! ## The kinds that are taken with NONE only -/

/-- A START_BASE that passes its tests (R5, R6, R90). -/
def applyStartBase (p1 : Byte) (s : State) : State :=
  let grid := s.transport.mode == .grid
  let s := admitTake (byteFin 4 p1) (if grid then 8 else 1) 0 true 0 s
  let s := s.setLanes (Vector.ofFn fun l => { s.lane l with armed := false })
  let t := { s.transport with state := .defining, p := 0, c := 0, cyclesRecorded := 0, closePending := false, beatDue := false }
  if grid then
    raiseBoundary 0 false ((findSlot s fun l => l.state == .recording))
      (s.setTransport { t with length := some (t.beats * samplesPerBeat t.tempo) })
  else s.setTransport t

/-- A CLOSE_BASE whose outcome is OK (R8, R10). -/
def applyCloseBase (s : State) : State :=
  if s.transport.mode = .free then closure 1 s.transport.p s
  else s.setTransport { s.transport with closePending := true }

/-- A PLAY whose outcome is OK: PRIMING, an empty buffer for every ACTIVE layer, and its refill request raised (R17, R125,
R121). -/
def applyPlay (s : State) : State :=
  let s := s.setTransport { s.transport with state := .priming, p := 0, beatDue := false }
  let s := s.setStore
    { s.store with
      buffers := Vector.ofFn fun sl => if (s.layer sl).state = .active then some ⟨[], false, false⟩ else none }
  primingCheck (placeAll s)

/-- The effect of any cue whose outcome is OK (R51). -/
def applyCue (kind : CueKind) (p1 p2 p3 : Byte) (s : State) : State :=
  match kind with
  | .startBase => applyStartBase p1 s
  | .closeBase => applyCloseBase s
  | .play => applyPlay s
  | .startTake => applyQueued .startTake p1 p2 p3 s
  | .stopTake => applyQueued .stopTake p1 p2 p3 s
  | .mute => applyQueued .mute p1 p2 p3 s
  | .unmute => applyQueued .unmute p1 p2 p3 s
  | .undo => applyQueued .undo p1 p2 p3 s
  | .redo => applyQueued .redo p1 p2 p3 s
  | .halt => applyQueued .halt p1 p2 p3 s

end Sys2Proof.Machine
end

