-- ==== Sys2Proof/Machine/Streaming.lean ====
section
/-! DEFINITION. The memory port (chapter 6): the requests and their slack, the grant, and the
completions of the four kinds of transfer. -/

namespace Sys2Proof.Machine

/-! ## Requests -/

/-- A request of the port (R118): a drain, a refill with its entries, or the bounce engine's. -/
inductive PortRequest where
  | drain (rec : Recorder)
  | refill (slot : Slot)
  | bounce
deriving DecidableEq, Repr

/-- The slack of a real-time request (R118). -/
def slackOf (s : State) : PortRequest → Nat
  | .drain r => 512 - storedCount (s.recorder r).fifo
  | .refill sl =>
    match s.buffer sl with
    | none => 0
    | some b => b.entries.length
  | .bounce => 0

/-- The pending real-time requests, recorders before layers and each in increasing number (R118). -/
def realTimeRequests (s : State) : List PortRequest :=
  (recorderNumbers.filter fun r => drainPending (s.recorder r)).map .drain ++
    (slotNumbers.filter (refillPending s)).map .refill

/-- The first of the requests of least slack (R118). -/
def leastSlack (s : State) : List PortRequest → Option PortRequest
  | [] => none
  | q :: rest =>
    match leastSlack s rest with
    | none => some q
    | some x => if slackOf s x < slackOf s q then some x else some q

/-- The request a decision chooses: the real-time request of least slack, the bounce engine's where none is pending (R118). -/
def chosenRequest (s : State) : Option PortRequest :=
  match leastSlack s (realTimeRequests s) with
  | some q => some q
  | none => if bouncePending s.job then some .bounce else none

/-- The credit a request costs: one, or the reads of a refill (R117, R121). -/
def creditCost (s : State) : PortRequest → Nat
  | .drain _ => 1
  | .refill sl => refillReads s sl (composedEntries s sl)
  | .bounce => 1

/-- The transfer of a request, complete 3 sample periods after its grant, for a refill 3 for each of its reads (R119). -/
def transferOf (s : State) : PortRequest → Transfer
  | .drain r => ⟨.drain r (burstLength (s.recorder r)), 3⟩
  | .refill sl => ⟨.refill sl (composedEntries s sl), 3 * refillReads s sl (composedEntries s sl)⟩
  | .bounce =>
    ⟨match s.job.chunk with
      | none => .bounceRead
      | some ch => if ch.phase = .write then .bounceWrite else .bounceRead, 3⟩

/-- The flag of the requester whose transfer is granted is set (R85, R120, R146). -/
def setFlight (q : PortRequest) (s : State) : State :=
  match q with
  | .drain r => s.setRecorder r { s.recorder r with inFlight := true }
  | .refill sl => s.setBuffer sl ((s.buffer sl).map fun b => { b with inFlight := true })
  | .bounce => s.setJob { s.job with inFlight := true }

/-- A request is granted: the port becomes BUSY and the credit is spent (R117, R119). -/
def grant (q : PortRequest) (s : State) : State :=
  let s' := s.setStore { s.store with transfer := some (transferOf s q), credit := s.store.credit - creditCost s q }
  setFlight q s'

/-- The chosen request costs more than the credit left: nothing is granted until the next window (R118, log 18). -/
def stall (s : State) : State := s.setStore { s.store with stalled := true }

/-- The decision over a chosen request: it is granted if the credit covers its cost (R118). -/
def grantOrStall (q : PortRequest) (s : State) : State :=
  if creditCost s q ≤ s.store.credit then grant q s else stall s

/-- A grant can be decided: the port FREE, credit left, and no request that waits for the next window (R118). -/
def mayDecide (s : State) : Bool := s.store.transfer.isNone && decide (0 < s.store.credit) && !s.store.stalled

/-- The arbiter's choice, where one can be made (R118). -/
def arbitrate (s : State) : State :=
  if mayDecide s then
    match chosenRequest s with
    | none => s
    | some q => grantOrStall q s
  else s

/-- The arbiter's decision: a refill still waiting that by now needs no read is placed, and one request is granted where that can
be done (R118, R121). -/
def decidePort (s : State) : State := arbitrate (placeAll s)

/-! ## Completions -/

/-- A drain burst of `n` offsets completes: they are written at the write cursor, leave the FIFO, and the cursor advances
(R95). -/
def completeDrain (r : Recorder) (n : Nat) (s : State) : State :=
  let q := s.recorder r
  let s :=
    match q.slot.bind fun sl => offsetAddress (s.layer sl).extents q.cursor with
    | none => s
    | some a => s.setMem (writeSamples s.mem a (fifoTake n q.fifo))
  let s := s.setRecorder r { q with fifo := fifoDrop n q.fifo, cursor := q.cursor + n }
  drainDone r (releasePort s)

/-- A refill lands, and with 128 or fewer entries left the layer's next request is raised (R122, R121). -/
def completeRefill (sl : Slot) (entries : List Entry) (s : State) : State :=
  raiseRefill sl (landEntries sl entries (releasePort s))

/-- A bounce read completes (R153). -/
def completeRead (s : State) : State :=
  let s := releasePort s
  match s.job.chunk with
  | none => s
  | some ch => addPiece ch s

/-- A bounce chunk write completes (R155). -/
def completeWrite (s : State) : State :=
  let s := releasePort s
  match s.job.chunk, s.job.result with
  | some ch, some result => writeChunk ch result s
  | _, _ => s

/-- The completion of a transfer (R119). -/
def complete (t : Transfer) (s : State) : State :=
  match t.kind with
  | .drain r n => completeDrain r n s
  | .refill sl entries => completeRefill sl entries s
  | .bounceRead => completeRead s
  | .bounceWrite => completeWrite s

/-- A transfer whose sample periods are over completes. -/
def completeDue (s : State) : State :=
  match s.store.transfer with
  | none => s
  | some t => if t.left = 0 then complete t s else s

/-! ## Serving -/

/-- A layer's buffer after a sample period at which the playhead moves: its front entry has left it (R123). -/
def servedBuffer (s : State) (sl : Slot) : Option Stream :=
  if (s.layer sl).state = .active then (s.buffer sl).map fun b => { b with entries := b.entries.tail } else s.buffer sl

/-- A layer record after that sample period: a primed layer with an empty buffer has a dropout (R123, R47). -/
def servedLayer (s : State) (sl : Slot) (l : LayerRec) : LayerRec :=
  if l.state = .active then
    match s.buffer sl with
    | none => l
    | some b => if b.primed && b.entries.isEmpty then { l with dropouts := satAdd 65535 l.dropouts 1 } else l
  else l

/-- The loop store serves every ACTIVE layer while the playhead moves (R123). -/
def serveLayers (s : State) : State :=
  if s.transport.moves then
    (mapLayers (servedLayer s) s).setStore { s.store with buffers := Vector.ofFn (servedBuffer s) }
  else s

/-- The port at a sample period: the transfer in flight has one period less to run, the window one period more behind it
(R117, R119). -/
def tickPort (s : State) : State :=
  s.setStore
    { s.store with
      windowPos := min 128 (s.store.windowPos + 1)
      transfer := s.store.transfer.map fun t => { t with left := t.left - 1 } }

/-- A port window begins: the credit becomes 40, and a request that waited for it may be granted (R117, R118). -/
def beginWindow (s : State) : State := s.setStore { s.store with windowPos := 0, credit := 40, stalled := false }

end Sys2Proof.Machine
end

