-- ==== Sys2Proof/Machine/Sampling.lean ====
section
/-! DEFINITION. The sample period (the step SAMPLE_PERIOD of 95_what_each_step_holds.md) and the level monitor's window end
(chapter 4). -/

namespace Sys2Proof.Machine

/-! ## Lanes -/

/-- The level monitor of a lane takes the magnitude of its trimmed value (R75). -/
def LaneRec.measured (l : LaneRec) (r : Int) : LaneRec :=
  if l.enable then { l with peak := max l.peak r.natAbs, pos := l.pos + 1 } else l

/-- All lanes measure one sample period (R75). -/
def measureLanes (r : Lane → Int) (s : State) : State := s.setLanes (Vector.ofFn fun l => (s.lane l).measured (r l))

/-- The band of a window (R76). -/
def windowBand (l : LaneRec) : Band :=
  if 8388607 ≤ l.peak then .clip else if l.tNom ≤ l.peak then .nominal else if l.tLow ≤ l.peak then .low else .silent

/-- The current band and the below-count after a window of band `w` (R77). -/
def judged (band : Band) (below : Nat) (w : Band) : Band × Nat :=
  if band.number < w.number then (w, 0)
  else if w = band then (band, 0)
  else if below = 7 then (w, 0)
  else (band, below + 1)

/-- The mask for the direction of a band change has the bit of the new band (R78). -/
def levelReported (l : LaneRec) (old new : Band) : Bool :=
  (if old.number < new.number then l.riseMask else l.fallMask).testBit new.number

/-- A change of a lane's band is a level event (R78). -/
def levelEvent (n : Lane) (old new : Band) (s : State) : State :=
  if old ≠ new ∧ levelReported (s.lane n) old new = true then raiseLevel (.level n old new) s else s

/-- An armed lane's rise starts the base take, with a CUE_FIRED of tag 255 (R80). -/
def autoStart (n : Lane) (s : State) : State :=
  let result := cueResult .startBase (byte n.val) 0 s
  let s := raiseReport (.cueFired 255 .startBase result.1 result.2) s
  if result.1 = .ok then applyCue .startBase (byte n.val) 0 0 s else s

/-- The band rises, the lane is armed, the new band is NOMINAL or CLIP and the transport is IDLE (R80). -/
def autoStarts (n : Lane) (old new : Band) (s : State) : Bool :=
  decide (old.number < new.number) && decide (2 ≤ new.number) && (s.lane n).armed && s.transport.state == .idle

/-- A window ends: the band is judged, the window begins anew, the change is reported and may start the base take (R75 to
R80). -/
def endWindow (n : Lane) (s : State) : State :=
  let l := s.lane n
  let old := l.band
  let result := judged old l.below (windowBand l)
  let s := s.setLane n { l with band := result.1, below := result.2, peak := 0, pos := 0 }
  let s := levelEvent n old result.1 s
  if autoStarts n old result.1 s then autoStart n s else s

/-! ## The playhead -/

/-- p one position on; a beat start other than 0 makes a boundary due (R9, R14). -/
def Transport.advanced (t : Transport) : Transport :=
  { t with
    p := t.p + 1
    beatDue := decide (t.p + 1 < t.cycleLength) && atBeatStart t.cycleLength t.beats (t.p + 1) }

/-- The playhead at a sample period: it moves in RUNNING and GRID DEFINING, counts the base take's samples in FREE DEFINING, and
stays at 0 elsewhere (R7, R9, R14). -/
def advancePlayhead (s : State) : State :=
  if s.transport.moves then s.setTransport s.transport.advanced
  else if s.transport.freeDefining then s.setTransport { s.transport with p := s.transport.p + 1 }
  else s

/-- Pulse remaining at a sample period (R21). -/
def countPulse (s : State) : State :=
  s.setTransport { s.transport with pulseRemaining := s.transport.pulseRemaining - 1 }

/-! ## Exhaustion in FREE DEFINING -/

/-- The base take's next sample opens a page that it cannot acquire (R92, R93). -/
def baseFails (s : State) (r : Recorder) (sl : Slot) : Option AcquireFailure :=
  if (s.recorder r).state = .recording ∧ opensPage (s.layer sl).len = true then
    match acquirePage sl s with
    | .ok _ => none
    | .error e => some e
  else none

/-- A FREE base take that runs out: with p at 4,800 or more the cycle closes at once, below it the take is aborted (R13, R107).
It comes before the sample period's other parts, so a sample period at which the cycle closes is the first of the running cycle
(log 10). -/
def exhaustFree (s : State) : State :=
  if s.transport.freeDefining then
    match baseRecorder s with
    | none => s
    | some r =>
      match (s.recorder r).slot with
      | none => s
      | some sl =>
        match baseFails s r sl with
        | none => s
        | some e =>
          let s := exhaustRecorder r sl e.reason s
          if 4800 ≤ s.transport.p then closure 1 s.transport.p s else abortBase r s
  else s

/-! ## The sample period -/

/-- One sample period from the four input samples: the lanes trim and measure, the recorders store, the mix is formed from the
entries at the fronts of the buffers, the loop store serves them, the counts run, and the refill requests that this raises are
placed where they need no read (R69, R92, R123, R131, R14, R121). -/
def tick (x : Lane → Int) (s : State) : State :=
  let r := laneValue s x
  let s := measureLanes r s
  let s := exhaustFree s
  let s := recordAll r s
  let s := formMix r s
  let s := serveLayers s
  let s := countPulse s
  let s := advancePlayhead s
  tickPort (placeAll s)

/-- The input sample of each lane: IN-A left and right, IN-B left and right (R69). -/
def inputs (x0 x1 x2 x3 : BitVec 24) (l : Lane) : Int :=
  if l = 0 then x0.toInt else if l = 1 then x1.toInt else if l = 2 then x2.toInt else x3.toInt

end Sys2Proof.Machine
end

