-- ==== Sys2Proof/Machine/Linking.lean ====
section
/-! DEFINITION. The control link's receive side and transmitter (chapter 9) and the run states (chapter 10). -/

namespace Sys2Proof.Machine

/-! ## Run states -/

/-- Every block takes its values after power-on and STARTING begins with this cause; what lies outside the part stays: the loop
memory, the HOLD and WAKE inputs, the queue of commands (R179, R180, log 8). -/
def powerOn (cause : WakeCause) (s : State) : State :=
  { State.reset with
    mem := s.mem
    link := { State.reset.link with hold := s.link.hold }
    rest := { State.reset.rest with cause := cause, wake := s.rest.wake }
    openOrders := s.openOrders
    pending := s.pending }

/-- STARTING is entered from REST (R178, R184). -/
def startWake (cause : WakeCause) (s : State) : State :=
  s.setRest { s.rest with run := .starting, cause := cause, discarded := 0, linkActivity := false, probing := false }

/-- The port windows stand still, the port FREE and the credit 0, and the next window is the first (R117, R183). -/
def stopWindows (s : State) : State :=
  s.setStore { s.store with windowPos := 128, credit := 0, stalled := false, transfer := none }

/-- No frame is clocked: nothing is formed that a first frame could carry (R131, R183). -/
def silenceOutputs (s : State) : State := s.setMix { s.mix with formed := OutPair.zero, frame := OutPair.zero }

/-- Entry into REST, with no burst in progress (R183, R144, log 25); a WAKE line that is high starts STARTING at once (R184). -/
def enterRest (s : State) : State :=
  let s := silenceOutputs (stopWindows s)
  let s := s.setMix s.mix.noBurst
  let s := s.setLink { s.link with rdy := false }
  let s := s.setRest { s.rest with run := .rest }
  if s.rest.wake then startWake .wakeLine s else s

/-- The end of STARTING with the part AWAKE: RDY asserted, WOKE queued (R179, R184, R185). -/
def becomeAwake (s : State) : State :=
  let s := silenceOutputs (stopWindows s)
  let s := s.setRest { s.rest with run := .awake, probing := false }
  let s := s.setLink { s.link with rdy := true }
  raiseReport (.woke s.rest.cause s.rest.discarded s.store.pages) s

/-- The decision when the outgoing queue becomes empty in DRAINING (R182). -/
def drainDecision (s : State) : State :=
  if receivedBytes s.link ≠ 0 ∨ s.rest.linkActivity = true then
    raiseReport (.woke .linkActivity 0 s.store.pages) (s.setRest { s.rest with run := .awake })
  else if (s.transport.state ≠ .idle ∧ s.transport.state ≠ .halted) ∨ busyMask s ≠ 0 then
    s.setRest { s.rest with run := .awake }
  else enterRest s

/-! ## Receiving -/

/-- The KIND of a frame in RECEIVING, 0 if it has not been taken (R165). -/
def heldKind (held : List Byte) : Byte := (held[2]?).getD 0

/-- The frame in RECEIVING leaves the receive buffer, and FRAME_FAULT is raised (R165). -/
def discardFrame (reason : FaultReason) (kind : Byte) (s : State) : State :=
  raiseReport (.frameFault reason kind) (s.setLink (rdyAfterLeave { s.link with parser := .hunting }))

/-- The byte to come stands at the CHECK position (R164). -/
def atCheck (held : List Byte) : Bool :=
  match held[1]? with
  | none => false
  | some len => decide (held.length = len.toNat + 3)

/-- A byte taken in RECEIVING (R164). A byte with a stop-bit fault is taken into the frame that it spoils, so the report carries the
KIND even where the faulty byte is the KIND (R165). A byte with a stop-bit fault and a LEN above 96 leave the frame without having
counted among the bytes of the receive buffer, a failing CHECK after having counted: DESIGN CHOICE, log 23, since R164 says "held" of
the last alone. -/
def receiveByte (held : List Byte) (b : Byte) (fault : Bool) (s : State) : State :=
  if fault then discardFrame .line (heldKind (held ++ [b])) s
  else if 256 ≤ receivedBytes s.link then discardFrame .overrun (heldKind held) s
  else if held.length = 1 ∧ 96 < b.toNat then discardFrame .length 0 s
  else
    let s := s.setLink (rdyAfterByte { s.link with parser := .receiving (held ++ [b]) })
    if atCheck held then
      if byteSum ((held ++ [b]).drop 1) = 0 then
        s.setLink
          { s.link with
            parser := .hunting
            frames := s.link.frames ++ [⟨heldKind held, held.drop 3⟩] }
      else discardFrame .check (heldKind held) s
    else s

/-- A byte taken in HUNTING (R164). -/
def huntByte (b : Byte) (fault : Bool) (s : State) : State :=
  if b = syncByte ∧ fault = false then
    if 256 ≤ receivedBytes s.link then raiseReport (.frameFault .overrun 0) s
    else s.setLink (rdyAfterByte { s.link with parser := .receiving [b] })
  else s

/-- The parser takes a byte (R164). -/
def parseByte (b : Byte) (fault : Bool) (s : State) : State :=
  match s.link.parser with
  | .hunting => huntByte b fault s
  | .receiving held => receiveByte held b fault s

/-- A byte whose stop bit is taken in STARTING is counted and not parsed (R178). -/
def discardByte (s : State) : State := s.setRest { s.rest with discarded := satAdd 255 s.rest.discarded 1 }

/-- A byte taken from RXD according to the run state (R162, R178, R181, R184). In REST its start bit has woken the part. -/
def takeByte (b : Byte) (fault : Bool) (s : State) : State :=
  if s.rest.nrst then
    match s.rest.run with
    | .starting => discardByte s
    | .rest => discardByte (startWake .linkActivity s)
    | .awake => parseByte b fault s
    | .draining => parseByte b fault (s.setRest { s.rest with linkActivity := true })
  else s

/-- The inter-byte timeout expires (R166). -/
def expireGap (s : State) : State :=
  match s.link.parser with
  | .hunting => s
  | .receiving held => discardFrame .timeout (heldKind held) s

/-! ## Sending -/

/-- The transmitter starts the oldest frame (R171). -/
def startFrame (s : State) : State :=
  match s.link.outQ with
  | [] => s
  | m :: _ => s.setLink { s.link with tx := .sending m.bytes }

/-- The transmitter starts a frame if it can (R171). -/
def startFrameDue (s : State) : State := if frameStartDue s then startFrame s else s

/-- The reply of the RESTART that is pending (R180). -/
def isRestartReply (m : Message) : Bool := m == .accepted 0x0B

/-- The stop bit of a frame's CHECK has been sent: the frame leaves the queue, and what waited for it follows (R171, R180,
R182). -/
def finishFrame (s : State) : State :=
  match s.link.tx, s.link.outQ with
  | .sending _, m :: rest =>
    let s := s.setLink { s.link with outQ := rest, tx := .idle }
    if s.rest.restartPending && isRestartReply m then powerOn .restart s
    else if s.rest.run = .draining ∧ rest = [] then drainDecision s
    else s
  | _, _ => s

end Sys2Proof.Machine
end

