-- ==== Sys2Proof/Machine/Requests.lean ====
section
/-! DEFINITION. What each request does when the dispatcher takes it (R169): its checks, its reply, its effect. Each handler is
given the state from which the request's frame has left the receive buffer. -/

namespace Sys2Proof.Machine

/-! ## HELLO and the answers to frames that no owner sees -/

/-- HELLO (R174). -/
def doHello (s : State) : State :=
  reply (.hello s.store.pages s.link.omitted s.link.outQ.length (receivedBytes s.link)) s

/-- A frame of unknown kind (R170). -/
def doUnknownKind (kind : Byte) (s : State) : State := reply (.unknownKind kind) s

/-- A request of the wrong length (R170). -/
def doBadLength (kind : Byte) (s : State) : State := reply (.refused kind.toNat .badLength) s

/-! ## LANE_SETUP -/

/-- The settings of R72 that are plain values, written together; T_low is pulled down to T_nom at the end. -/
def laneSettings (q : LaneSetup) (l : LaneRec) : LaneRec :=
  let tNom := ifNamed q.mask 5 (clampTo 8388607 q.tNom.toNat) l.tNom
  let tLow := ifNamed q.mask 4 (clampTo 8388607 q.tLow.toNat) l.tLow
  { l with
    trim := ifNamed q.mask 1 (clampTo 8191 q.trim.toNat) l.trim
    send := ifNamed q.mask 2 (clampTo 8191 q.send.toNat) l.send
    pan := ifNamed q.mask 3 (clampTo 128 q.pan.toNat) l.pan
    tNom := tNom
    tLow := min tLow tNom
    riseMask := ifNamed q.mask 6 q.rise.toNat l.riseMask
    fallMask := ifNamed q.mask 6 q.fall.toNat l.fallMask }

/-- Enable written as R74 gives. -/
def laneEnable (on : Bool) (l : LaneRec) : LaneRec :=
  if l.enable && !on then { l with enable := false, peak := 0, pos := 0, below := 0, band := .silent }
  else if !l.enable && on then { l with enable := true, peak := 0, pos := 0 }
  else l

/-- Armed written as R79 gives: 1 sets the flag in IDLE only. -/
def laneArmed (idle : Bool) (on : Bool) (l : LaneRec) : LaneRec := { l with armed := on && idle }

/-- The lane record after an accepted LANE_SETUP (R72). -/
def laneAfter (q : LaneSetup) (idle : Bool) (l : LaneRec) : LaneRec :=
  let l := laneSettings q l
  let l := ifNamed q.mask 0 (laneEnable (q.enable == 1) l) l
  ifNamed q.mask 7 (laneArmed idle (q.armed == 1) l) l

/-- LANE_SETUP (R72). The fall of the band at a disable is reported after the reply, under the masks as they then stand
(R74, R78, log 12). -/
def doLaneSetup (q : LaneSetup) (s : State) : State :=
  if laneValid q then
    let n := byteFin 4 q.lane
    let old := s.lane n
    let new := laneAfter q (s.transport.state == .idle) old
    levelEvent n old.band new.band (reply (.laneSet new) (s.setLane n new))
  else reply (.refused 0x02 .badValue) s

/-! ## GRID_SETUP -/

/-- The cycle length that the reply to GRID_SETUP carries (R2, R3). -/
def gridLength (q : GridSetup) : Nat :=
  if q.mode = 1 then q.beats.toNat * samplesPerBeat (clampTempo q.tempo.toNat) else 0

/-- The transport after an accepted GRID_SETUP (R2). -/
def Transport.setGrid (t : Transport) (q : GridSetup) : Transport :=
  { t with
    mode := if q.mode = 1 then .grid else .free
    beats := q.beats.toNat
    tempo := clampTempo q.tempo.toNat
    defaultFade := q.fade.toNat }

/-- GRID_SETUP (R2). -/
def doGridSetup (q : GridSetup) (s : State) : State :=
  if gridValid q then
    if s.transport.state = .idle then
      reply (.gridSet (clampTempo q.tempo.toNat) (gridLength q)) (s.setTransport (s.transport.setGrid q))
    else reply (.refused 0x03 .wrongState) s
  else reply (.refused 0x03 .badValue) s

/-! ## OUTPUT_SETUP -/

/-- The mix record after an accepted OUTPUT_SETUP; a new click amplitude of 0 ends a burst (R139, R140). -/
def mixAfter (q : OutputSetup) (m : Mix) : Mix :=
  { m with
    mainMaster := ifNamed q.mask 0 (clampTo 8191 q.main.toNat) m.mainMaster
    monMaster := ifNamed q.mask 1 (clampTo 8191 q.mon.toNat) m.monMaster
    clickAmp := ifNamed q.mask 2 (clampTo 8388607 q.click.toNat) m.clickAmp
    burstPos := if named q.mask 2 = true ∧ q.click = 0 then none else m.burstPos }

/-- The transport with its pulse mode written; a change to OFF drops the pulse (R22, R139). -/
def Transport.setPulseMode (t : Transport) (m : PulseMode) : Transport :=
  if m = .off then { t.noPulse with pulseMode := .off } else { t with pulseMode := m }

/-- The state after an accepted OUTPUT_SETUP (R139). -/
def outputAfter (q : OutputSetup) (s : State) : State :=
  let s := s.setMix (mixAfter q s.mix)
  let s := s.setTransport (ifNamed q.mask 3 (s.transport.setPulseMode (pulseModeOf q.pulseMode.toNat)) s.transport)
  s.setLink { s.link with beatReports := ifNamed q.mask 4 (q.beatReports == 1) s.link.beatReports }

/-- The reply to OUTPUT_SETUP: the five settings and both clip counts as they stand (R139). -/
def outputReply (s : State) : Message :=
  .outputSet s.mix.mainMaster s.mix.monMaster s.mix.clickAmp s.transport.pulseMode s.link.beatReports s.mix.mainClips
    s.mix.monClips

/-- OUTPUT_SETUP (R139). -/
def doOutputSetup (q : OutputSetup) (s : State) : State :=
  if outputValid q then reply (outputReply (outputAfter q s)) (outputAfter q s)
  else reply (.refused 0x04 .badValue) s

/-! ## CUE -/

/-- The reply to a CUE: the lengths of both queues are those after the request (R51). -/
def cueReply (code : Code) (tag : Byte) (affected : Nat) (after : State) : Message :=
  .cue code tag affected after.cues.cycle.length after.cues.beat.length

/-- A cue with quantisation NONE: its reply, then its effect (R51). -/
def cueNow (q : Cue) (kind : CueKind) (s : State) : State :=
  let result := cueResult kind q.p1 q.p2 s
  if result.1 = .ok then
    applyCue kind q.p1 q.p2 q.p3 (reply (cueReply .ok q.tag result.2 (applyCue kind q.p1 q.p2 q.p3 s)) s)
  else reply (cueReply result.1 q.tag result.2 s) s

/-- The entry of an admitted cue (R54). -/
def cueEntry (q : Cue) (kind : CueKind) : CueEntry :=
  ⟨q.tag, kind, if q.targeted then some q.target.toNat else none, q.p1, q.p2, q.p3⟩

/-- Admission to a queue (R55). -/
def cueAdmit (q : Cue) (kind : CueKind) (w : WaitQuant) (s : State) : State :=
  if s.transport.state = .idle then reply (cueReply .wrongState q.tag 255 s) s
  else
    match w with
    | .cycle =>
      if 8 ≤ s.cues.cycle.length then reply (cueReply .queueFull q.tag 255 s) s
      else
        let s := s.setCues { s.cues with cycle := s.cues.cycle ++ [cueEntry q kind] }
        reply (cueReply .queued q.tag 255 s) s
    | .beat =>
      if 8 ≤ s.cues.beat.length then reply (cueReply .queueFull q.tag 255 s) s
      else
        let s := s.setCues { s.cues with beat := s.cues.beat ++ [cueEntry q kind] }
        reply (cueReply .queued q.tag 255 s) s

/-- CUE (R50, R51, R55). -/
def doCue (q : Cue) (s : State) : State :=
  match cueForm q with
  | none => reply (cueReply .badValue q.tag 255 s) s
  | some (kind, .now) => cueNow q kind s
  | some (kind, .wait w) => cueAdmit q kind w s

/-! ## LAYER_SETUP -/

/-- The layer record after an accepted LAYER_SETUP (R44). -/
def layerAfter (q : LayerSetup) (l : LayerRec) : LayerRec :=
  { l with
    gain := ifNamed q.mask 0 (clampTo 8191 q.gain.toNat) l.gain
    pan := ifNamed q.mask 1 (clampTo 128 q.pan.toNat) l.pan
    fade := ifNamed q.mask 2 q.fade.toNat l.fade
    group := ifNamed q.mask 3 (byteFin 4 q.group) l.group }

/-- LAYER_SETUP (R44). -/
def doLayerSetup (q : LayerSetup) (s : State) : State :=
  if layerValid q then
    let sl := byteFin 24 q.slot
    let l := s.layer sl
    if l.state = .free ∨ l.state = .building then reply (.refused 0x06 .noSuchLayer) s
    else if l.held then reply (.refused 0x06 .layerHeld) s
    else
      let new := layerAfter q l
      reply (.layerSet new.gain new.pan new.fade new.group) (s.setLayer sl new)
  else reply (.refused 0x06 .badValue) s

/-! ## BOUNCE -/

/-- The reply to a refused BOUNCE (R147). -/
def bounceRefusal (code : Code) (fault : Nat) : Message := .bounce code 255 0 255 0 fault

/-- BOUNCE (R147, R148, R149). -/
def doBounce (n : Byte) (bytes : List Byte) (s : State) : State :=
  if bounceValid n bytes then
    let slots : List Slot := bytes.map (byteFin 24)
    let result := bounceTest slots s
    if result.1 = .ok then
      let m := largestMultiple s slots
      reply
        (.bounce .ok (slotToCome s) m (optNumber (slots[anchorPlace s slots]?)) (bouncePages s m) 255)
        (admitBounce slots s)
    else reply (bounceRefusal result.1 result.2) s
  else reply (bounceRefusal .badValue 255) s

/-! ## FLUSH -/

/-- The entries that stay (R65). -/
def flushKeep (mode tag : Byte) (xs : List CueEntry) : List CueEntry :=
  if mode = 0 then [] else xs.filter fun e => e.tag != tag

/-- FLUSH (R65). -/
def doFlush (mode tag : Byte) (s : State) : State :=
  if 1 < mode.toNat then reply (.refused 0x08 .badValue) s
  else
    let cycle := flushKeep mode tag s.cues.cycle
    let beat := flushKeep mode tag s.cues.beat
    reply
      (.flushed (s.cues.cycle.length + s.cues.beat.length - (cycle.length + beat.length)) cycle.length beat.length)
      (s.setCues { cycle := cycle, beat := beat })

/-! ## QUERY -/

/-- The transport record as QUERY shows it (R23). -/
def transportView (s : State) : TransportView :=
  let t := s.transport
  { state := t.state, mode := t.mode, beats := t.beats, tempo := t.tempo,
    spb := if t.mode = .grid then samplesPerBeat t.tempo else 0, defaultFade := t.defaultFade, length := t.cycleLength,
    p := t.p, c := t.c, beat := if t.length = none then 0 else currentBeat t.cycleLength t.beats t.p,
    cyclesRecorded := t.cyclesRecorded, closePending := t.closePending, pulseMode := t.pulseMode, pin := t.pin }

/-- A layer record as QUERY shows it (R46). -/
def layerView (sl : Slot) (s : State) : LayerView :=
  { slot := sl, layer := s.layer sl, groupMutes := s.table.groupMutes, stackPos := listPosition s.table.stack sl,
    redoPos := listPosition s.table.redo sl, pagesHeld := pageCount (s.layer sl).extents }

/-- The transfer that QUERY STORE names (R127). -/
def portView (s : State) : PortView :=
  match s.store.transfer with
  | none => .free
  | some t =>
    match t.kind with
    | .drain r _ => .drain r
    | .refill sl _ => .refill sl
    | .bounceRead => .bounce
    | .bounceWrite => .bounce

/-- An ACTIVE layer whose primed flag is clear (R127). -/
def unprimed (s : State) (sl : Slot) : Bool :=
  (s.layer sl).state == .active &&
    (match s.buffer sl with
      | none => true
      | some b => !b.primed)

/-- The loop store as QUERY shows it (R127). -/
def storeView (s : State) : StoreView :=
  { present := s.store.present, pages := s.store.pages, freePages := s.store.pool.length,
    recordingPages := heldPages s LState.inProgress, activePages := heldPages s (· == .active),
    parkedPages := heldPages s (· == .parked), buildingPages := heldPages s (· == .building),
    freeRuns := (runsOf s.store.pool).length, longestRun := ((runsOf s.store.pool).map Extent.count).foldl max 0,
    lowestFree := s.store.pool.headD 65535, port := portView s, credit := s.store.credit,
    drains := (recorderNumbers.filter fun r => drainPending (s.recorder r)).length,
    refills := (slotNumbers.filter (refillPending s)).length, bouncePending := bouncePending s.job,
    unprimed := (slotNumbers.filter (unprimed s)).length }

/-- A recorder as QUERY BUSY shows it (R175). -/
def recorderView (q : RecorderRec) : RecorderView := ⟨q.state, q.tail, q.lane, q.slot, storedCount q.fifo⟩

/-- The state a host checks, as QUERY BUSY shows it (R175). -/
def busyView (s : State) : BusyView :=
  { state := s.transport.state, cycleLen := s.cues.cycle.length, beatLen := s.cues.beat.length,
    recorders := recorderNumbers.map fun r => recorderView (s.recorder r), busyMask := busyMask s, running := s.job.running,
    result := optNumber s.job.result, progress := s.job.progress, total := s.job.total, clips := s.job.clips,
    frames := s.link.outQ.length, bytes := receivedBytes s.link, omitted := s.link.omitted }

/-- QUERY (R175, R23, R46, R82, R127). -/
def doQuery (form n : Byte) (s : State) : State :=
  match form.toNat with
  | 0 => reply (.transport (transportView s)) s
  | 1 => if n.toNat ≤ 23 then reply (.layer (layerView (byteFin 24 n) s)) s else reply (.refused 0x09 .badValue) s
  | 2 => if n.toNat ≤ 3 then reply (.lane (byteFin 4 n) (s.lane (byteFin 4 n))) s else reply (.refused 0x09 .badValue) s
  | 3 => reply (.store (storeView s)) s
  | 4 => reply (.busy (busyView s)) s
  | _ => reply (.refused 0x09 .badValue) s

/-! ## CLEAR, RESTART, REST -/

/-- The song is discarded: the clear notice at every block (R19, R48, R64, R109, R128, R142, R158). -/
def clearSong (s : State) : State :=
  let s := s.setTransport s.transport.enterIdle
  let s := s.setCues { cycle := [], beat := [] }
  let s := s.setTable
    { layers := Vector.replicate 24 LayerRec.freed, stack := [], redo := [], groupMutes := Vector.replicate 4 false }
  let s := s.setTakes { recs := Vector.replicate 4 RecorderRec.idle, order := [] }
  let s := s.setStore
    { s.store with pool := List.range s.store.pages, transfer := none, buffers := Vector.replicate 24 none }
  let s := s.setMix { s.mix.noBurst with mainClips := 0, monClips := 0 }
  s.setJob Job.idle

/-- CLEAR (R19). -/
def doClear (s : State) : State := clearSong (reply (.accepted 0x0A) s)

/-- RESTART (R180). -/
def doRestart (s : State) : State := (reply (.accepted 0x0B) s).setRest { s.rest with restartPending := true }

/-- The conditions of R181. -/
def mayRest (s : State) : Bool :=
  (s.transport.state == .idle || s.transport.state == .halted) && busyMask s == 0 && !s.job.running

/-- REST (R181). -/
def doRest (s : State) : State :=
  if mayRest s then (reply (.accepted 0x0C) s).setRest { s.rest with run := .draining, linkActivity := false }
  else reply (.refused 0x0C .busy) s

/-! ## The dispatcher -/

/-- A request is handed to its owner (R169, R170). -/
def handle (q : Request) (s : State) : State :=
  match q with
  | .hello => doHello s
  | .laneSetup q => doLaneSetup q s
  | .gridSetup q => doGridSetup q s
  | .outputSetup q => doOutputSetup q s
  | .cue q => doCue q s
  | .layerSetup q => doLayerSetup q s
  | .bounce n slots => doBounce n slots s
  | .flush mode tag => doFlush mode tag s
  | .query form n => doQuery form n s
  | .clear => doClear s
  | .restart => doRestart s
  | .rest => doRest s
  | .badLength kind => doBadLength kind s
  | .unknownKind kind => doUnknownKind kind s

/-- The oldest complete frame leaves the receive buffer (R167, R168). -/
def popFrame (s : State) : State := s.setLink (rdyAfterLeave { s.link with frames := s.link.frames.tail })

/-- The request of a complete frame. -/
def Frame.request (f : Frame) : Request := requestOf f.kind f.payload

/-- The dispatcher takes the oldest complete frame, if it may (R169). -/
def dispatch (s : State) : State :=
  match s.link.frames with
  | [] => s
  | f :: _ => if canTake s then handle f.request (popFrame s) else s

end Sys2Proof.Machine
end

