-- ==== Sys2Proof/Machine/Urgent.lean ====
section
/-! DEFINITION. When the part's own events come about between the commands (log 1), and how a request row is taken (log 2).
An event is due as soon as its condition holds. A command that is not an event row finds every due event already taken. -/

namespace Sys2Proof.Machine

/-! ## Events that are due -/

/-- TAKE_FULL at one recorder (R98). -/
def takeFullAt (s : State) (r : Recorder) : State := if takeFullDue s r then endTake .full s r else s

/-- TAKE_FULL at every recorder (R98). -/
def takeFulls (s : State) : State := recorderNumbers.foldl takeFullAt s

/-- PULSE is driven low (R21). -/
def endPulse (s : State) : State := s.setTransport { s.transport with pin := false }

/-- PULSE_END if it is due. -/
def pulseEndIfDue (s : State) : State := if pulseEndDue s then endPulse s else s

/-- The click burst ends (R138). -/
def endClick (s : State) : State := s.setMix { s.mix with burstPos := none }

/-- CLICK_BURST_END if it is due. -/
def clickEndIfDue (s : State) : State := if clickEndDue s then endClick s else s

/-- The FREE base take closes itself (R7, R11). -/
def selfClose (s : State) : State := closure 1 2304000 s

/-- FREE_SELF_CLOSE if it is due. -/
def selfCloseIfDue (s : State) : State := if selfCloseDue s then selfClose s else s

/-- WINDOW_END at one lane if it is due. -/
def windowEndAt (s : State) (l : Lane) : State := if windowEndDue s l then endWindow l s else s

/-- The boundary that is due: the wrap at L, or a beat start other than 0 (R14, R15). -/
def boundaryIfDue (s : State) : State :=
  if cycleStartDue s then wrapCycle s else if beatDue s then takeBeat s else s

/-- Every event that is due while the part runs, but for the start of a port window, which comes with a sample period (R117):
the ends of takes that are full before the boundary that fills them, the window ends in lane order, then the boundary, the
completion of the transfer in flight, the arbiter's decision and the start of a frame (log 1, 14, 15). -/
def urgent (s : State) : State :=
  if isRunning s then
    let s := takeFulls s
    let s := pulseEndIfDue s
    let s := clickEndIfDue s
    let s := selfCloseIfDue s
    let s := laneNumbers.foldl windowEndAt s
    let s := boundaryIfDue s
    let s := completeDue s
    let s := decidePort s
    startFrameDue s
  else s

/-! ## Frames that wait -/

/-- The dispatcher takes up to `n` complete frames, the events that each makes due behind it (R169). -/
def dispatchAll : Nat → State → State
  | 0, s => s
  | n + 1, s => if s.link.frames ≠ [] ∧ canTake s = true then dispatchAll n (urgent (dispatch s)) else s

/-- The events that are due, then every complete frame that the dispatcher may take (R169). -/
def settle (s : State) : State := dispatchAll (urgent s).link.frames.length (urgent s)

/-! ## Request rows -/

/-- The request `q` is handed to its owner if the dispatcher may take a request now; otherwise nothing comes about (R169,
log 2). -/
def handleIfFree (q : Request) (s : State) : State := if canTake s then handle q s else s

/-- The dispatcher takes the complete frames in turn until it comes to the one that is `q`. With no frame left, `q` is a request
whose bytes the sender does not spell out (log 2). -/
def takeInTurn (q : Request) : Nat → State → State
  | 0, s => handleIfFree q s
  | n + 1, s =>
    match s.link.frames with
    | [] => handleIfFree q s
    | f :: _ =>
      if canTake s then
        if f.request = q then handle q (popFrame s) else takeInTurn q n (urgent (dispatch s))
      else s

/-- A request row: the dispatcher's taking of `q` (R169). -/
def takeRequest (q : Request) (s : State) : State := takeInTurn q (urgent s).link.frames.length (urgent s)

/-! ## Event rows -/

/-- An event row: `f` where the event is due, otherwise nothing comes about (log 4). -/
def takeEvent (due : Bool) (f : State → State) (s : State) : State := if isRunning s && due then f s else s

/-- The transfer in flight can complete: its sample periods are over, or the last of them comes together with the completion
(R119, log 13). -/
def completionDue (mine : TransferKind → Bool) (s : State) : Bool :=
  match s.store.transfer with
  | none => false
  | some t => mine t.kind && decide (t.left ≤ 1)

/-- The transfer in flight completes. -/
def completeNow (s : State) : State :=
  match s.store.transfer with
  | none => s
  | some t => complete t s

/-- A completion row for the transfers that `mine` holds of (R119). -/
def takeCompletion (mine : TransferKind → Bool) (s : State) : State := takeEvent (completionDue mine s) completeNow s

/-- Any drain. -/
def isDrain : TransferKind → Bool
  | .drain _ _ => true
  | _ => false

/-- A bounce read. -/
def isBounceRead : TransferKind → Bool
  | .bounceRead => true
  | _ => false

/-- A bounce write. -/
def isBounceWrite : TransferKind → Bool
  | .bounceWrite => true
  | _ => false

end Sys2Proof.Machine
end

