-- ==== Sys2Proof/Machine/Clock.lean ====
section
/-! DEFINITION. The meanings of the rows of the sample clock: the sample period, and the events of the transport, the recorders,
the mix engine and the lanes that it brings. -/

namespace Sys2Proof.Machine

/-- The port window that begins with a sample period, and the arbiter's decision under its credit (R117, R118). -/
def startWindowIfDue (s : State) : State := if portWindowDue s then decidePort (beginWindow s) else s

/-- SAMPLE_PERIOD (R14, and the lines of 95_what_each_step_holds.md). It reaches the blocks in AWAKE and DRAINING only (R178). -/
def execSamplePeriod (x0 x1 x2 x3 : BitVec 24) (s : State) : Host.Outcome State Fault Refusal :=
  let s := settle s
  .next (if isRunning s then tick (inputs x0 x1 x2 x3) (startWindowIfDue s) else s)

/-- TAKE_FULL (R98). -/
def execTakeFull (r : Recorder) (s : State) : Host.Outcome State Fault Refusal :=
  .next (takeEvent (takeFullDue s r) (fun s => endTake .full s r) s)

/-- FREE_SELF_CLOSE (R7, R11). -/
def execFreeSelfClose (s : State) : Host.Outcome State Fault Refusal := .next (takeEvent (selfCloseDue s) selfClose s)

/-- CYCLE_START (R9, R14). The takes that the wrap finds full end before it (R98, log 15). -/
def execCycleStart (s : State) : Host.Outcome State Fault Refusal :=
  .next (takeEvent (cycleStartDue s) (fun s => wrapCycle (takeFulls s)) s)

/-- BEAT_BOUNDARY (R15). The takes that it finds full end before it (R98, log 15). -/
def execBeatBoundary (s : State) : Host.Outcome State Fault Refusal :=
  .next (takeEvent (beatDue s) (fun s => takeBeat (takeFulls s)) s)

/-- PULSE_END (R21). -/
def execPulseEnd (s : State) : Host.Outcome State Fault Refusal := .next (takeEvent (pulseEndDue s) endPulse s)

/-- CLICK_BURST_END (R138). -/
def execClickBurstEnd (s : State) : Host.Outcome State Fault Refusal := .next (takeEvent (clickEndDue s) endClick s)

/-- WINDOW_END (R75 to R80). -/
def execWindowEnd (lane : Lane) (s : State) : Host.Outcome State Fault Refusal :=
  .next (takeEvent (windowEndDue s lane) (endWindow lane) s)

end Sys2Proof.Machine
end

