-- ==== Sys2Proof/WellFormed.lean ====
section
/-! DEFINITION. Which commands the spec gives a meaning as written. Operand values that a request may carry and the part
refuses (BAD_VALUE) are well formed: refusing them is the request's own meaning. -/

namespace Sys2Proof

/-- The request kinds 0x01..0x0C of R163. -/
def isRequestKind (kind : Byte) : Bool := decide (1 ≤ kind.toNat) && decide (kind.toNat ≤ 12)

/-- A command is well formed unless it is an UNKNOWN_KIND that names a request kind: R170 speaks of a KIND that lies
outside 0x01..0x0C. -/
def Instr.wellFormed : Instr → Bool
  | .unknownKind kind => !isRequestKind kind
  | _ => true

end Sys2Proof
end

