-- ==== Sys2Proof/Machine/Control.lean ====
section
/-! DEFINITION. The meanings of BOUNCE, QUERY, CLEAR, RESTART and REST, and of a frame of unknown kind. -/

namespace Sys2Proof.Machine

/-- BOUNCE (R147, R148, R149). -/
def execBounce (n : Byte) (slots : Vector Byte 8) (s : State) : Host.Outcome State Fault Refusal :=
  .next (takeRequest (bounceOf n slots.toList) s)

/-- QUERY TRANSPORT (R23). -/
def execQueryTransport (s : State) : Host.Outcome State Fault Refusal := .next (takeRequest (queryOf 0 0) s)

/-- QUERY LAYER (R46). -/
def execQueryLayer (n : Byte) (s : State) : Host.Outcome State Fault Refusal := .next (takeRequest (queryOf 1 n) s)

/-- QUERY LANE (R82). -/
def execQueryLane (n : Byte) (s : State) : Host.Outcome State Fault Refusal := .next (takeRequest (queryOf 2 n) s)

/-- QUERY STORE (R127). -/
def execQueryStore (s : State) : Host.Outcome State Fault Refusal := .next (takeRequest (queryOf 3 0) s)

/-- QUERY BUSY (R175). -/
def execQueryBusy (s : State) : Host.Outcome State Fault Refusal := .next (takeRequest (queryOf 4 0) s)

/-- CLEAR (R19). -/
def execClear (s : State) : Host.Outcome State Fault Refusal := .next (takeRequest .clear s)

/-- RESTART (R180). -/
def execRestart (s : State) : Host.Outcome State Fault Refusal := .next (takeRequest .restart s)

/-- REST (R181). -/
def execRest (s : State) : Host.Outcome State Fault Refusal := .next (takeRequest .rest s)

/-- A complete frame whose KIND lies outside 0x01..0x0C (R170). With a request's KIND there is no such frame: the command is not
well formed and nothing comes about. -/
def execUnknownKind (kind : Byte) (s : State) : Host.Outcome State Fault Refusal :=
  .next (if isRequestKind kind then s else takeRequest (.unknownKind kind) s)

end Sys2Proof.Machine
end

