-- ==== Sys2Proof/Machine/Cues.lean ====
section
/-! DEFINITION. The meanings of the CUE requests, one row for each cue kind with quantisation NONE and one for a cue that waits in
a queue, and of FLUSH. -/

namespace Sys2Proof.Machine

/-- A CUE with quantisation NONE and no target; what the kind does not read is 0 (R49). -/
def cueRequest (kind : CueKind) (tag p1 p2 p3 : Byte) : Request := .cue ⟨byte kind.number, 0, tag, false, p1, p2, p3, 0⟩

/-- START_BASE (R5, R6). -/
def execStartBase (tag lane : Byte) (s : State) : Host.Outcome State Fault Refusal :=
  .next (takeRequest (cueRequest .startBase tag lane 0 0) s)

/-- CLOSE_BASE (R8, R10). -/
def execCloseBase (tag : Byte) (s : State) : Host.Outcome State Fault Refusal :=
  .next (takeRequest (cueRequest .closeBase tag 0 0 0) s)

/-- START_TAKE (R87, R88). -/
def execStartTake (tag lane multiple group : Byte) (s : State) : Host.Outcome State Fault Refusal :=
  .next (takeRequest (cueRequest .startTake tag lane multiple group) s)

/-- STOP_TAKE (R97). -/
def execStopTake (tag recorder : Byte) (s : State) : Host.Outcome State Fault Refusal :=
  .next (takeRequest (cueRequest .stopTake tag recorder 0 0) s)

/-- MUTE of a layer (R41). -/
def execMuteLayer (tag slot : Byte) (s : State) : Host.Outcome State Fault Refusal :=
  .next (takeRequest (cueRequest .mute tag 0 slot 0) s)

/-- MUTE of a group (R42). -/
def execMuteGroup (tag group : Byte) (s : State) : Host.Outcome State Fault Refusal :=
  .next (takeRequest (cueRequest .mute tag 1 group 0) s)

/-- UNMUTE of a layer (R41). -/
def execUnmuteLayer (tag slot : Byte) (s : State) : Host.Outcome State Fault Refusal :=
  .next (takeRequest (cueRequest .unmute tag 0 slot 0) s)

/-- UNMUTE of a group (R42). -/
def execUnmuteGroup (tag group : Byte) (s : State) : Host.Outcome State Fault Refusal :=
  .next (takeRequest (cueRequest .unmute tag 1 group 0) s)

/-- UNDO (R38, R102, R103). -/
def execUndo (tag : Byte) (s : State) : Host.Outcome State Fault Refusal :=
  .next (takeRequest (cueRequest .undo tag 0 0 0) s)

/-- REDO (R39). -/
def execRedo (tag : Byte) (s : State) : Host.Outcome State Fault Refusal :=
  .next (takeRequest (cueRequest .redo tag 0 0 0) s)

/-- HALT (R16). -/
def execHalt (tag : Byte) (s : State) : Host.Outcome State Fault Refusal :=
  .next (takeRequest (cueRequest .halt tag 0 0 0) s)

/-- PLAY (R17). -/
def execPlay (tag : Byte) (s : State) : Host.Outcome State Fault Refusal :=
  .next (takeRequest (cueRequest .play tag 0 0 0) s)

/-- The code of a quantisation that waits (R49). -/
def waitCode : WaitQuant → Byte
  | .beat => 1
  | .cycle => 2

/-- A CUE with quantisation BEAT or CYCLE (R55). -/
def execCueQueued (kind : Byte) (quant : WaitQuant) (tag : Byte) (target : Option (BitVec 16)) (p1 p2 p3 : Byte) (s : State) :
    Host.Outcome State Fault Refusal :=
  .next (takeRequest (.cue (Cue.read ⟨kind, waitCode quant, tag, target.isSome, p1, p2, p3, target.getD 0⟩)) s)

/-- FLUSH in mode ALL (R65). -/
def execFlushAll (s : State) : Host.Outcome State Fault Refusal := .next (takeRequest (flushOf 0 0) s)

/-- FLUSH in mode TAG (R65). -/
def execFlushTag (tag : Byte) (s : State) : Host.Outcome State Fault Refusal := .next (takeRequest (flushOf 1 tag) s)

end Sys2Proof.Machine
end

