-- ==== Sys2Proof/Machine/Line.lean ====
section
/-! DEFINITION. The meanings of the rows of the serial line and of HOLD (chapter 9). Times measured on the line are the sender's:
the row says that the moment has come (log 4). -/

namespace Sys2Proof.Machine

/-- RXD_BYTE: the stop bit of a byte has been taken; `stopFault` says that it was low (R164, R165, R178, R181). -/
def execRxdByte (value : Byte) (stopFault : Bool) (s : State) : Host.Outcome State Fault Refusal :=
  .next (takeByte value stopFault (settle s))

/-- INTER_BYTE_TIMEOUT (R166). -/
def execInterByteTimeout (s : State) : Host.Outcome State Fault Refusal :=
  let s := settle s
  .next (if isRunning s then expireGap s else s)

/-- FRAME_START (R171). -/
def execFrameStart (s : State) : Host.Outcome State Fault Refusal := .next (takeEvent (frameStartDue s) startFrame s)

/-- FRAME_SENT (R171, R180, R182). -/
def execFrameSent (s : State) : Host.Outcome State Fault Refusal :=
  let s := settle s
  .next (if isRunning s then finishFrame s else s)

/-- `s` with this level at the HOLD input. -/
def setHold (level : Bool) (s : State) : State := s.setLink { s.link with hold := level }

/-- HOLD_ASSERTED (R171). -/
def execHoldAsserted (s : State) : Host.Outcome State Fault Refusal := .next (setHold true (settle s))

/-- HOLD_DEASSERTED: the oldest waiting frame starts at once (R171). -/
def execHoldDeasserted (s : State) : Host.Outcome State Fault Refusal :=
  let s := setHold false (settle s)
  .next (if isRunning s then startFrameDue s else s)

end Sys2Proof.Machine
end

