-- ==== Sys2Proof/Machine/Port.lean ====
section
/-! DEFINITION. The meanings of the rows of the memory port (chapter 6): the window, the grant and the four completions. -/

namespace Sys2Proof.Machine

/-- PORT_WINDOW_START (R117). -/
def execPortWindowStart (s : State) : Host.Outcome State Fault Refusal := .next (takeEvent (portWindowDue s) beginWindow s)

/-- PORT_GRANT (R118): the arbiter decides, and grants where it can. -/
def execPortGrant (s : State) : Host.Outcome State Fault Refusal := .next (takeEvent true decidePort s)

/-- DRAIN_BURST_COMPLETE (R95). -/
def execDrainBurstComplete (s : State) : Host.Outcome State Fault Refusal := .next (takeCompletion isDrain s)

/-- REFILL_LANDING (R122). -/
def execRefillLanding (s : State) : Host.Outcome State Fault Refusal := .next (takeCompletion isRefill s)

/-- BOUNCE_READ_COMPLETE (R153). -/
def execBounceReadComplete (s : State) : Host.Outcome State Fault Refusal := .next (takeCompletion isBounceRead s)

/-- BOUNCE_WRITE_COMPLETE (R155). -/
def execBounceWriteComplete (s : State) : Host.Outcome State Fault Refusal := .next (takeCompletion isBounceWrite s)

end Sys2Proof.Machine
end

