-- ==== Sys2Proof/Machine/Power.lean ====
section
/-! DEFINITION. The meanings of the rows of reset, start-up, rest and wake (chapter 10), and the probe of the loop store (R110). -/

namespace Sys2Proof.Machine

/-! ## Reset -/

/-- Everything in flight stops: no transfer, no frame on TXD, RDY deasserted, PULSE and the output data lines low (R179). -/
def stopAll (s : State) : State :=
  let s := silenceOutputs (releasePort s)
  let s := s.setTransport s.transport.noPulse
  s.setLink { s.link with tx := .idle, rdy := false }

/-- NRST_LOW (R179). The records of the blocks change only when NRST rises (log 8). -/
def execNrstLow (s : State) : Host.Outcome State Fault Refusal :=
  .next (if s.rest.nrst then (let s := stopAll (settle s); s.setRest { s.rest with nrst := false }) else s)

/-- NRST_RISE (R179). -/
def execNrstRise (s : State) : Host.Outcome State Fault Refusal := .next (if s.rest.nrst then s else powerOn .power s)

/-! ## Start-up -/

/-- The oscillator start-up of a power-on or RESTART runs (R179). -/
def inStartUp (r : RestControl) : Bool :=
  r.nrst && r.run == .starting && (r.cause == .power || r.cause == .restart) && !r.probing

/-- The page count that the probe finds (R110). -/
def probedPages : StoreDevice → Nat
  | .missing => 0
  | .wraps8 => 1024
  | .deaf8 => 1024
  | .full16 => 2048

/-- The loop memory after the probe: the patterns stay where they were written (R110, log 7). -/
def probedMem (device : StoreDevice) (mem : List Host.Cell) : List Host.Cell :=
  match device with
  | .missing => mem
  | .wraps8 => writeWord mem (pageAddress 0 0) (Config.probePattern true)
  | .deaf8 => writeWord mem (pageAddress 0 0) (Config.probePattern false)
  | .full16 =>
    writeWord (writeWord mem (pageAddress 0 0) (Config.probePattern false)) (pageAddress 1024 0) (Config.probePattern true)

/-- The loop store probe (R110): presence and P, and the pool of all P pages (R112). -/
def probe (device : StoreDevice) (s : State) : State :=
  let n := probedPages device
  (s.setStore { s.store with present := decide (0 < n), pages := n, pool := List.range n }).setMem (probedMem device s.mem)

/-- OSCILLATOR_START_UP_END: the probe runs and finds `device` (R179, R110). -/
def execOscillatorStartUpEnd (device : StoreDevice) (s : State) : Host.Outcome State Fault Refusal :=
  .next (if inStartUp s.rest then (let s := probe device s; s.setRest { s.rest with probing := true }) else s)

/-- The probe period of a power-on or RESTART runs (R179). -/
def inProbe (r : RestControl) : Bool := r.nrst && r.run == .starting && r.probing

/-- PROBE_PERIOD_END (R179). -/
def execProbePeriodEnd (s : State) : Host.Outcome State Fault Refusal :=
  .next (if inProbe s.rest then becomeAwake s else s)

/-! ## Wake -/

/-- The part is in REST (R178). -/
def inRest (r : RestControl) : Bool := r.nrst && r.run == .rest

/-- `s` with this level at the WAKE input. -/
def setWake (level : Bool) (s : State) : State := s.setRest { s.rest with wake := level }

/-- WAKE_ASSERTED (R184). -/
def execWakeAsserted (s : State) : Host.Outcome State Fault Refusal :=
  let s := setWake true (settle s)
  .next (if inRest s.rest then startWake .wakeLine s else s)

/-- WAKE_RELEASED (R184). -/
def execWakeReleased (s : State) : Host.Outcome State Fault Refusal := .next (setWake false (settle s))

/-- LINK_WAKE: a start bit on RXD (R184). -/
def execLinkWake (s : State) : Host.Outcome State Fault Refusal :=
  let s := settle s
  .next (if inRest s.rest then startWake .linkActivity s else s)

/-- The start-up of a wake runs (R184). -/
def inWake (r : RestControl) : Bool :=
  r.nrst && r.run == .starting && (r.cause == .wakeLine || r.cause == .linkActivity)

/-- WAKE_STARTING_END: back to REST on a false wake, else AWAKE (R184). -/
def execWakeStartingEnd (s : State) : Host.Outcome State Fault Refusal :=
  .next
    (if inWake s.rest then
      if s.rest.cause = .wakeLine ∧ s.rest.wake = false then s.setRest { s.rest with run := .rest } else becomeAwake s
    else s)

end Sys2Proof.Machine
end

