-- ==== Sys2Proof/Machine/Setup.lean ====
section
/-! DEFINITION. The meanings of HELLO and of the setup requests. Each is the dispatcher's taking of that request (R169). -/

namespace Sys2Proof.Machine

/-- HELLO (R174). -/
def execHello (s : State) : Host.Outcome State Fault Refusal := .next (takeRequest .hello s)

/-- LANE_SETUP (R72). -/
def execLaneSetup (lane mask enable : Byte) (trim send : BitVec 16) (pan : Byte) (tLow tNom : BitVec 24)
    (rise fall armed : Byte) (s : State) : Host.Outcome State Fault Refusal :=
  .next (takeRequest (.laneSetup ⟨lane, mask, enable, trim, send, pan, tLow, tNom, rise, fall, armed⟩) s)

/-- GRID_SETUP (R2). -/
def execGridSetup (mode beats : Byte) (tempo fade : BitVec 16) (s : State) : Host.Outcome State Fault Refusal :=
  .next (takeRequest (.gridSetup ⟨mode, beats, tempo, fade⟩) s)

/-- OUTPUT_SETUP (R139). -/
def execOutputSetup (mask : Byte) (main mon : BitVec 16) (click : BitVec 24) (pulseMode beatReports : Byte) (s : State) :
    Host.Outcome State Fault Refusal :=
  .next (takeRequest (.outputSetup ⟨mask, main, mon, click, pulseMode, beatReports⟩) s)

/-- LAYER_SETUP (R44). -/
def execLayerSetup (slot mask : Byte) (gain : BitVec 16) (pan : Byte) (fade : BitVec 16) (group : Byte) (s : State) :
    Host.Outcome State Fault Refusal :=
  .next (takeRequest (.layerSetup ⟨slot, mask, gain, pan, fade, group⟩) s)

end Sys2Proof.Machine
end

