-- ==== Sys2Proof/Machine/Dispatch.lean ====
section
/-! DEFINITION. One arm for each command: a direct call of its meaning. -/

namespace Sys2Proof.Machine

/-- The effect of a command on everything but the queue of commands. -/
def exec (i : Instr) (s : State) : Host.Outcome State Fault Refusal :=
  match i with
  | .hello => Sys2Proof.Machine.execHello s
  | .laneSetup lane mask enable trim send pan tLow tNom rise fall armed => Sys2Proof.Machine.execLaneSetup lane mask enable trim send pan tLow tNom rise fall armed s
  | .gridSetup mode beats tempo fade => Sys2Proof.Machine.execGridSetup mode beats tempo fade s
  | .outputSetup mask main mon click pulseMode beatReports => Sys2Proof.Machine.execOutputSetup mask main mon click pulseMode beatReports s
  | .startBase tag lane => Sys2Proof.Machine.execStartBase tag lane s
  | .closeBase tag => Sys2Proof.Machine.execCloseBase tag s
  | .startTake tag lane multiple group => Sys2Proof.Machine.execStartTake tag lane multiple group s
  | .stopTake tag recorder => Sys2Proof.Machine.execStopTake tag recorder s
  | .muteLayer tag slot => Sys2Proof.Machine.execMuteLayer tag slot s
  | .muteGroup tag group => Sys2Proof.Machine.execMuteGroup tag group s
  | .unmuteLayer tag slot => Sys2Proof.Machine.execUnmuteLayer tag slot s
  | .unmuteGroup tag group => Sys2Proof.Machine.execUnmuteGroup tag group s
  | .undo tag => Sys2Proof.Machine.execUndo tag s
  | .redo tag => Sys2Proof.Machine.execRedo tag s
  | .halt tag => Sys2Proof.Machine.execHalt tag s
  | .play tag => Sys2Proof.Machine.execPlay tag s
  | .cueQueued kind quant tag target p1 p2 p3 => Sys2Proof.Machine.execCueQueued kind quant tag target p1 p2 p3 s
  | .layerSetup slot mask gain pan fade group => Sys2Proof.Machine.execLayerSetup slot mask gain pan fade group s
  | .bounce n slots => Sys2Proof.Machine.execBounce n slots s
  | .flushAll => Sys2Proof.Machine.execFlushAll s
  | .flushTag tag => Sys2Proof.Machine.execFlushTag tag s
  | .queryTransport => Sys2Proof.Machine.execQueryTransport s
  | .queryLayer n => Sys2Proof.Machine.execQueryLayer n s
  | .queryLane n => Sys2Proof.Machine.execQueryLane n s
  | .queryStore => Sys2Proof.Machine.execQueryStore s
  | .queryBusy => Sys2Proof.Machine.execQueryBusy s
  | .clear => Sys2Proof.Machine.execClear s
  | .restart => Sys2Proof.Machine.execRestart s
  | .rest => Sys2Proof.Machine.execRest s
  | .unknownKind kind => Sys2Proof.Machine.execUnknownKind kind s
  | .rxdByte value stopFault => Sys2Proof.Machine.execRxdByte value stopFault s
  | .interByteTimeout => Sys2Proof.Machine.execInterByteTimeout s
  | .frameStart => Sys2Proof.Machine.execFrameStart s
  | .frameSent => Sys2Proof.Machine.execFrameSent s
  | .holdAsserted => Sys2Proof.Machine.execHoldAsserted s
  | .holdDeasserted => Sys2Proof.Machine.execHoldDeasserted s
  | .samplePeriod x0 x1 x2 x3 => Sys2Proof.Machine.execSamplePeriod x0 x1 x2 x3 s
  | .takeFull rec => Sys2Proof.Machine.execTakeFull rec s
  | .freeSelfClose => Sys2Proof.Machine.execFreeSelfClose s
  | .cycleStart => Sys2Proof.Machine.execCycleStart s
  | .beatBoundary => Sys2Proof.Machine.execBeatBoundary s
  | .pulseEnd => Sys2Proof.Machine.execPulseEnd s
  | .clickBurstEnd => Sys2Proof.Machine.execClickBurstEnd s
  | .windowEnd lane => Sys2Proof.Machine.execWindowEnd lane s
  | .portWindowStart => Sys2Proof.Machine.execPortWindowStart s
  | .portGrant => Sys2Proof.Machine.execPortGrant s
  | .drainBurstComplete => Sys2Proof.Machine.execDrainBurstComplete s
  | .refillLanding => Sys2Proof.Machine.execRefillLanding s
  | .bounceReadComplete => Sys2Proof.Machine.execBounceReadComplete s
  | .bounceWriteComplete => Sys2Proof.Machine.execBounceWriteComplete s
  | .nrstLow => Sys2Proof.Machine.execNrstLow s
  | .nrstRise => Sys2Proof.Machine.execNrstRise s
  | .oscillatorStartUpEnd device => Sys2Proof.Machine.execOscillatorStartUpEnd device s
  | .probePeriodEnd => Sys2Proof.Machine.execProbePeriodEnd s
  | .wakeAsserted => Sys2Proof.Machine.execWakeAsserted s
  | .wakeReleased => Sys2Proof.Machine.execWakeReleased s
  | .linkWake => Sys2Proof.Machine.execLinkWake s
  | .wakeStartingEnd => Sys2Proof.Machine.execWakeStartingEnd s

end Sys2Proof.Machine
end

