-- ==== Sys2Proof/Safety.lean ====
section
/-! DEFINITION. The terms in which claims are stated: when a command finds the part with nothing left to come about, what counts
as a safe outcome, and the conditions that every step keeps. -/

namespace Sys2Proof.Machine

/-! ## When a command acts at once -/

/-- No event is due, and no complete frame waits that the dispatcher may take: a command acts on the state as it stands
(log 1). -/
abbrev quiet (s : State) : Prop := urgent s = s ∧ (s.link.frames = [] ∨ canTake s = false)

/-- The part is quiet and its dispatcher may take a request (R169). -/
abbrev ready (s : State) : Prop := quiet s ∧ canTake s = true

/-! ## What a command sends -/

/-- `s` with these frames at the end of the outgoing queue. -/
def State.queued (s : State) (ms : List Message) : State :=
  { s with link := { s.link with outQ := s.link.outQ ++ ms } }

/-- `s` after a report that is queued while the queue holds fewer than `room` frames and is counted as omitted otherwise
(R172). -/
def State.reported (s : State) (room : Nat) (m : Message) : State :=
  if s.link.outQ.length < room then s.queued [m]
  else { s with link := { s.link with omitted := min 255 (s.link.omitted + 1) } }

/-- `s` after the BOUNDARY report of the boundary event with counter `c` and beat `beat`: queued while the queue holds fewer than 24
frames, and then the clip counts and the omitted counter are taken into it; counted as omitted otherwise (R172, R173). -/
def State.boundaryReportedFor (s : State) (c beat : Nat) : State :=
  if s.link.outQ.length < 24 then
    { s with
      link :=
        { s.link with
          omitted := 0
          outQ := s.link.outQ ++
            [.boundary
              { c := c, beat := beat, state := s.transport.state
                bands := [(s.lane 0).band, (s.lane 1).band, (s.lane 2).band, (s.lane 3).band]
                busyMask := busyMask s, bouncing := s.job.running, mainClips := s.mix.mainClips
                monClips := s.mix.monClips, omitted := s.link.omitted }] }
      mix := { s.mix with mainClips := 0, monClips := 0 } }
  else { s with link := { s.link with omitted := min 255 (s.link.omitted + 1) } }

/-- `s` after the BOUNDARY report of a boundary event whose counter is the c of `s`. -/
def State.boundaryReported (s : State) (beat : Nat) : State := s.boundaryReportedFor s.transport.c beat

/-- The reply to a CUE, with the lengths of both queues as they stand in `s` (R51). -/
def State.cueReply (s : State) (code : Code) (tag : Byte) (affected : Nat) : Message :=
  .cue code tag affected s.cues.cycle.length s.cues.beat.length

/-- `t` with the pulse of a selected boundary: 480 sample periods high, in every mode but OFF (R21). -/
def Transport.pulsed (t : Transport) : Transport :=
  { t with
    pulseRemaining := if t.pulseMode = .off then t.pulseRemaining else 480
    pin := if t.pulseMode = .off then t.pin else true }

/-! ## Refills -/

/-- The index of layer `sl` for the next sample period to be formed (R32). -/
def State.presentIndex (s : State) (sl : Slot) : Nat :=
  ((s.layer sl).k.getD 0 * s.transport.length.getD 0 + s.transport.p) %
    ((s.layer sl).multiple * s.transport.length.getD 0)

/-- The 128 entries of layer `sl` from timeline index `first` on: SILENT at or beyond len, the recorded value otherwise (R121). -/
def State.refillFrom (s : State) (sl : Slot) (first : Nat) : List Entry :=
  let l := s.layer sl
  let m := l.multiple * s.transport.length.getD 0
  (List.range 128).map fun i =>
    let t := (first + i) % m
    let o := (t + m - l.start % m) % m
    ⟨t, o, if o < l.len then some (readOffset s sl o) else none⟩

/-- The entries of the next refill of layer `sl` with buffer `b`: those behind the last of the buffer, with an empty one those from
the present index on (R121). -/
def State.nextRefill (s : State) (sl : Slot) (b : Stream) : List Entry :=
  s.refillFrom sl
    (match b.entries.getLast? with
      | none => s.presentIndex sl
      | some e => (e.index + 1) % ((s.layer sl).multiple * s.transport.length.getD 0))

/-- `s` with the end of PRIMING taken where every ACTIVE layer's buffer is ready: the transport enters RUNNING (R18, R125). -/
def State.withPrimingEnded (s : State) : State :=
  if s.transport.state = .priming ∧ ∀ x ∈ slotNumbers, primedFor s x = true then
    { s with transport := { s.transport with state := TState.running, p := 0, beatDue := false }.pulsed }
  else s

/-- `s` with these entries landed behind those of buffer `b` of layer `sl`, the stale ones dropped; in PRIMING the last buffer waited
for may thereby be ready (R122, R125, R18). -/
def State.withEntriesLanded (s : State) (sl : Slot) (b : Stream) (entries : List Entry) : State :=
  let m := (s.layer sl).multiple * s.transport.length.getD 0
  let all := b.entries ++ entries
  let stale :=
    match all.head? with
    | none => 0
    | some f => (s.presentIndex sl + m - f.index % m) % m
  State.withPrimingEnded
    { s with
      store :=
        { s.store with
          buffers := s.store.buffers.set sl.val
            (some { b with entries := all.drop stale, primed := b.primed || decide (all.drop stale ≠ []) }) } }

/-- `s` with the refill request of layer `sl` raised if it can be, and its entries placed at once if none of them needs a read (R121):
each is SILENT or served from the FIFO of the base layer's tail drain. -/
def State.withRefillPlaced (s : State) (sl : Slot) : State :=
  match s.buffer sl with
  | none => s
  | some b =>
    if (s.transport.state ≠ .idle ∧ s.transport.state ≠ .halted) ∧ (s.layer sl).state = .active ∧ b.entries.length ≤ 128 ∧
        b.inFlight = false ∧ ∀ e ∈ s.nextRefill sl b, e.value = none ∨ fromFifo s sl e.offset = true then
      s.withEntriesLanded sl b (s.nextRefill sl b)
    else s

/-- `s` with the refill request of layer `sl` raised, and raised again where its first refill has been placed: two refills bring a buffer
above 128 entries (R121). -/
def State.withRefillRaised (s : State) (sl : Slot) : State := (s.withRefillPlaced sl).withRefillPlaced sl

/-- `s` with the refill request of every layer raised. -/
def State.withRefillsRaised (s : State) : State := slotNumbers.foldl State.withRefillRaised s

/-! ## Takes that begin, end, or leave no layer -/

/-- `s` with the base take of lane `l` begun in FREE mode in recorder 0 and slot 0 with page `page`, when both tables are empty: the
transport is in DEFINING with the cycle undefined and every arm flag is clear (R5, R29, R79, R88, R90). -/
def State.withFreeBaseTake (s : State) (l : Lane) (page : Nat) (rest : List Nat) : State :=
  { s with
    transport :=
      { s.transport with
        state := .defining, p := 0, c := 0, cyclesRecorded := 0, closePending := false, beatDue := false }
    takes :=
      { recs := s.takes.recs.set 0
          { RecorderRec.idle with state := .recording, lane := some l, slot := some 0, base := true }
        order := s.takes.order ++ [0] }
    table :=
      { s.table with
        layers := s.table.layers.set 0
          { LayerRec.freed with
            state := .recording, origin := some (.lane l), multiple := 1, k := some 0, extents := [⟨page, 1⟩]
            pan := (s.lane l).pan, fade := s.transport.defaultFade } }
    store := { s.store with pool := rest }
    lanes := Vector.ofFn fun i => { s.lane i with armed := false } }

/-- `s` with the base take of lane `l` begun in GRID mode: as in FREE mode with multiple 8, L is B times the samples per beat, and the
cycle start with c = 0 starts a click burst and a pulse (R6, R3, R21, R29, R137). -/
def State.withGridBaseTake (s : State) (l : Lane) (page : Nat) (rest : List Nat) : State :=
  let begun := s.withFreeBaseTake l page rest
  let T := s.transport.tempo
  { begun with
    transport :=
      { begun.transport with length := some (s.transport.beats * ((28800000 + T / 2) / T)) }.pulsed
    table := { begun.table with layers := begun.table.layers.set 0 { begun.layer 0 with multiple := 8 } }
    mix := { begun.mix with burstPos := some 0, burstAmp := s.mix.clickAmp, burstEnding := false } }

/-- The first of the admission tests for a take of lane `l` that fails in `s` answers `code` (R87). -/
def State.startFails (s : State) (l : Lane) (code : Code) : Prop :=
  (code = .laneOff ∧ (s.lane l).enable = false) ∨
    (code = .noStore ∧ (s.lane l).enable = true ∧ s.store.pages = 0) ∨
    (code = .noRecorder ∧ (s.lane l).enable = true ∧ s.store.pages ≠ 0 ∧ ∀ r, (s.recorder r).state ≠ .idle) ∨
    (code = .noLayerSlot ∧ (s.lane l).enable = true ∧ s.store.pages ≠ 0 ∧ (∃ r, (s.recorder r).state = .idle) ∧
      ∀ sl, (s.layer sl).state ≠ .free ∧ (s.layer sl).state ≠ .parked) ∨
    (code = .noMemory ∧ (s.lane l).enable = true ∧ s.store.pages ≠ 0 ∧ (∃ r, (s.recorder r).state = .idle) ∧
      (∃ sl, (s.layer sl).state = .free ∨ (s.layer sl).state = .parked) ∧ s.store.pool = [] ∧
      ∀ sl, (s.layer sl).state = .parked → (s.layer sl).extents = [])

/-- `s` with the take of recorder `r` in slot `sl` ended for `reason` while samples wait in the FIFO: recorder and layer are in
CLOSING, and an open gap has become zero-fill and lost samples (R94, R96). -/
def State.withTakeClosing (s : State) (r : Recorder) (sl : Slot) (reason : EndReason) : State :=
  let n := (s.recorder r).gap
  { s with
    takes :=
      { s.takes with
        recs := s.takes.recs.set r.val
          { s.recorder r with
            state := .closing, endReason := some reason, gap := 0
            fifo := if n = 0 then (s.recorder r).fifo else pushZeros (s.recorder r).fifo n } }
    table :=
      { s.table with
        layers := s.table.layers.set sl.val
          { s.layer sl with
            state := .closing
            lost := if n = 0 then (s.layer sl).lost else min 8388608 ((s.layer sl).lost + n) } } }

/-- `s` with the layer of recorder `r` in slot `sl` handed over: the layer is ACTIVE at the top of the stack, with an empty buffer
and its refill request raised while the loop store streams, the recorder is IDLE, and TAKE_END with `reason` is raised (R100, R36,
R124, R121). -/
def State.withTakeHandedOver (s : State) (r : Recorder) (sl : Slot) (reason : EndReason) : State :=
  (({ s with
    takes := { recs := s.takes.recs.set r.val RecorderRec.idle, order := s.takes.order.filter (· != r) }
    table :=
      { s.table with
        stack := s.table.stack ++ [sl]
        layers := s.table.layers.set sl.val { s.layer sl with state := .active } }
    store :=
      { s.store with
        buffers := s.store.buffers.set sl.val
          (if s.transport.state = .idle ∨ s.transport.state = .halted then none
          else some { entries := [], primed := false, inFlight := false }) } } : State).withRefillRaised sl).reported 31
    (.takeEnd r sl reason (s.layer sl).len (s.layer sl).lost (pageCount (s.layer sl).extents))

/-- `s` with the cycle closed by the closure of the base take of recorder `r` in slot `sl`: L, c and the base multiple `m` as given, the
base layer ACTIVE at the top of the stack with its head copy in its buffer, every other layer cycle advanced, a click burst and a
pulse begun, and TAKE_END with the end reason of an exhausted take, or CLOSED, raised. With samples left to drain the recorder is in
its tail drain with its base flag set (log 26), otherwise IDLE (R11, R29, R34, R105, R107, R124, R137). -/
def State.withBaseTakeClosed (s : State) (r : Recorder) (sl : Slot) (m length c : Nat) : State :=
  let q := s.recorder r
  let lost := if q.gap = 0 then (s.layer sl).lost else min 8388608 ((s.layer sl).lost + q.gap)
  let fifo := if q.gap = 0 then q.fifo else pushZeros q.fifo q.gap
  ({ s with
      transport :=
        { s.transport with
          state := .running, length := some length, p := 0, c := c, cyclesRecorded := 0, closePending := false
          beatDue := false }.pulsed
      takes :=
        if fifo = [] ∧ q.inFlight = false then
          { recs := s.takes.recs.set r.val RecorderRec.idle, order := s.takes.order.filter (· != r) }
        else
          { s.takes with
            recs := s.takes.recs.set r.val { q with state := .closing, tail := true, gap := 0, fifo := fifo } }
      table :=
        { s.table with
          stack := s.table.stack ++ [sl]
          layers := Vector.ofFn fun x =>
            if x = sl then { s.layer sl with state := .active, multiple := m, k := some 0, lost := lost }
            else (s.layer x).advanced }
      store :=
        { s.store with
          buffers := s.store.buffers.set sl.val
            (some
              { entries := (List.range 256).map fun i =>
                  ⟨i, i, if i < (s.layer sl).len then q.head[i]? else none⟩
                primed := true, inFlight := false }) }
      mix := { s.mix with burstPos := some 0, burstAmp := s.mix.clickAmp, burstEnding := false } } : State).reported 31
    (.takeEnd r sl (q.endReason.getD .closed) (s.layer sl).len lost (pageCount (s.layer sl).extents))

/-! ## Layers that become FREE -/

/-- The transfer in flight is a drain of recorder `r`. -/
def State.drains (s : State) (r : Recorder) : Bool :=
  match s.store.transfer with
  | some ⟨.drain q _, _⟩ => q == r
  | _ => false

/-- `s` with layer `sl` FREE: its record holds the values of R25, it is out of both lists, its pages are back in the pool, its buffer is
discarded, and the transfer that serves it is ended; the recorder in its tail drain, if any, is IDLE with no report (R31, R106, R115). -/
def State.withLayerFreed (s : State) (sl : Slot) : State :=
  { s with
    table :=
      { s.table with
        layers := s.table.layers.set sl.val LayerRec.freed
        stack := s.table.stack.filter (· != sl)
        redo := s.table.redo.filter (· != sl) }
    takes :=
      { recs := Vector.ofFn fun r : Recorder =>
          if tailRecorder s sl = some r then RecorderRec.idle
          else if s.drains r = true ∧ (s.recorder r).slot = some sl then { s.recorder r with inFlight := false }
          else s.recorder r
        order := s.takes.order.filter fun r => tailRecorder s sl != some r }
    store :=
      { s.store with
        pool := insertPages (pagesOf (s.layer sl).extents) s.store.pool
        buffers := s.store.buffers.set sl.val none
        transfer := s.store.transfer.filter fun x => !ofLayer s sl x.kind }
    job :=
      { s.job with
        inFlight :=
          s.job.inFlight && !(s.job.result == some sl && (s.store.transfer.map Transfer.kind) == some .bounceWrite) } }

/-- `s` with the redo list released: each layer of it is FREE (R40). -/
def State.withRedoReleased (s : State) : State := s.table.redo.foldl State.withLayerFreed s

/-- `s` with the take of recorder `r` in slot `sl` ended so that it leaves no layer: TAKE_END with `reason`, the burst of its own ended,
the layer FREE, the recorder IDLE and out of the take order list (R101, R102). -/
def State.withTakeDropped (s : State) (r : Recorder) (sl : Slot) (reason : EndReason) : State :=
  let told :=
    s.reported 31 (.takeEnd r sl reason (s.layer sl).len (s.layer sl).lost (pageCount (s.layer sl).extents))
  let freed :=
    ({ told with
      store := { s.store with transfer := s.store.transfer.filter fun x => !ofRecorder r x.kind } } : State).withLayerFreed sl
  { freed with
    takes := { recs := freed.takes.recs.set r.val RecorderRec.idle, order := freed.takes.order.filter (· != r) } }

/-- `s` with the running take of recorder `r`, not the base take, ended for `reason`: with no sample it ends EMPTY and leaves no layer;
with nothing left to drain and no burst in flight its layer is handed over at once; otherwise recorder and layer are in CLOSING (R96,
R100, R101). -/
def State.withTakeEnded (s : State) (reason : EndReason) (r : Recorder) : State :=
  match (s.recorder r).slot with
  | none => s
  | some sl =>
    if (s.layer sl).len = 0 then s.withTakeDropped r sl .empty
    else if (s.recorder r).fifo = [] ∧ (s.recorder r).gap = 0 ∧ (s.recorder r).inFlight = false then
      s.withTakeHandedOver r sl reason
    else s.withTakeClosing r sl reason

/-- `s` with a take of lane `l` begun at the playhead in recorder `r` and slot `sl` with page `page`, the first of the pool (R27, R88,
R89). -/
def State.withTakeBegun (s : State) (r : Recorder) (sl : Slot) (l : Lane) (multiple : Nat) (g : Group) (page : Nat)
    (rest : List Nat) : State :=
  { s with
    takes :=
      { recs := s.takes.recs.set r.val { RecorderRec.idle with state := .recording, lane := some l, slot := some sl }
        order := s.takes.order ++ [r] }
    table :=
      { s.table with
        layers := s.table.layers.set sl.val
          { LayerRec.freed with
            state := .recording, origin := some (.lane l), multiple := multiple, k := some 0, start := s.transport.p
            extents := [⟨page, 1⟩], pan := (s.lane l).pan, fade := s.transport.defaultFade, group := g } }
    store := { s.store with pool := rest } }

/-! ## The end of a bounce -/

/-- `s` with the running job aborted: its burst ended, BOUNCE_END HALTED with the progress made, the result FREE, the holds cleared and
the job record IDLE (R157, R159). -/
def State.withBounceAborted (s : State) : State :=
  match s.job.result with
  | none => s
  | some result =>
    let told :=
      s.reported 31
        (.bounceEnd .halted result s.job.multiple (pageCount (s.layer result).extents) s.job.progress s.job.clips)
    let freed :=
      ({ told with
        store := { s.store with transfer := s.store.transfer.filter fun x => !isBounce x.kind } } : State).withLayerFreed result
    { freed with
      table :=
        { freed.table with
          layers := Vector.ofFn fun x : Slot =>
            if x ∈ s.job.sources.map Source.slot then { freed.layer x with held := false } else freed.layer x }
      job := Job.idle }

/-- `s` with the running job done: the stack as given, every source FREE, the result ACTIVE with layer cycle `k`, with an empty buffer
and its refill request raised while the loop store streams, BOUNCE_END DONE and the job record IDLE; in PRIMING the transport enters
RUNNING where no other buffer is waited for (R18, R30, R121, R124, R156, R159). -/
def State.withBounceDone (s : State) (result : Slot) (k : Nat) (stack : List Slot) : State :=
  let freed :=
    (s.job.sources.map Source.slot).foldl State.withLayerFreed { s with table := { s.table with stack := stack } }
  let active : State :=
    { freed with
      table :=
        { freed.table with
          layers := freed.table.layers.set result.val { freed.layer result with state := .active, k := some k } }
      store :=
        { freed.store with
          buffers := freed.store.buffers.set result.val
            (if s.transport.state = .idle ∨ s.transport.state = .halted then none
            else some { entries := [], primed := false, inFlight := false }) } }
  let told :=
    (active.withRefillRaised result).reported 31
      (.bounceEnd .done result s.job.multiple (pageCount (s.layer result).extents) s.job.total s.job.clips)
  State.withPrimingEnded { told with job := Job.idle }

/-! ## The playhead -/

/-- `s` with an ordinary cycle start begun: p = 0, c and, in GRID DEFINING, the cycles recorded advance, every layer cycle advances, a
click burst and a pulse begin (R9, R14, R21, R34, R137). -/
def State.cycleStarted (s : State) : State :=
  { s with
    transport :=
      { s.transport with
        p := 0, c := (s.transport.c + 1) % 65536
        cyclesRecorded :=
          if s.transport.state = TState.defining then s.transport.cyclesRecorded + 1
          else s.transport.cyclesRecorded }.pulsed
    table :=
      { s.table with
        layers := Vector.ofFn fun x =>
          let l := s.layer x
          if l.state = .free ∨ l.state = .building then l
          else { l with k := l.k.map fun k => (k + 1) % l.multiple } }
    mix := { s.mix with burstPos := some 0, burstAmp := s.mix.clickAmp, burstEnding := false } }

/-- `s` with beat `b` begun at a beat boundary: a click burst of half the amplitude, and a pulse in mode BEAT (R15, R21, R137). -/
def State.beatBegun (s : State) : State :=
  let t := { s.transport with beatDue := false }
  { s with
    transport := if t.pulseMode = .beat then t.pulsed else t
    mix := { s.mix with burstPos := some 0, burstAmp := s.mix.clickAmp / 2, burstEnding := false } }

/-- `s` halted: p = 0 and PULSE low, both cue queues empty, every layer cycle 0, every refill ended and buffer discarded, and the click
burst marked to end at the next sample period; L and c stay (R16, R35, R126, R145). -/
def State.playheadHalted (s : State) : State :=
  { s with
    mix := { s.mix with burstEnding := true }
    transport := { s.transport with state := .halted, p := 0, pulseRemaining := 0, pin := false, beatDue := false }
    cues := ⟨[], []⟩
    table :=
      { s.table with
        layers := Vector.ofFn fun x =>
          if (s.layer x).state = .free ∨ (s.layer x).state = .building then s.layer x
          else { s.layer x with k := some 0 } }
    store :=
      { s.store with
        buffers := Vector.replicate 24 none
        transfer := s.store.transfer.filter fun x => !isRefill x.kind } }

/-! ## Cues that fire -/

/-- `s` with these entries fired in order, each evaluated against the state that the ones before it have left, and `left` the queues
(R57, R58, R60). -/
def State.walked (s : State) (entries : List CueEntry) (left : CueQueues) : State :=
  entries.foldl (fun t e => fireEntry e t) { s with cues := left }

/-- `s` with the entries of the cycle queue that `fires` holds of and the whole beat queue fired; the other entries of the cycle queue
stay. -/
def State.cuesFired (s : State) (fires : CueEntry → Bool) : State :=
  s.walked (s.cues.cycle.filter fires ++ s.cues.beat) ⟨s.cues.cycle.filter fun e => !fires e, []⟩

/-- Entry `e` fires behind the entries `before`, the queues `left` then waiting: first those of the cycle queue that `fires` holds of,
then the whole beat queue (R57, R58). -/
def State.firesBehind (s : State) (fires : CueEntry → Bool) (before : List CueEntry) (e : CueEntry) (left : CueQueues) : Prop :=
  (∃ early late, s.cues.cycle = early ++ e :: late ∧ fires e = true ∧ before = early.filter fires ∧
      left = ⟨(early.filter fun y => !fires y) ++ late, s.cues.beat⟩) ∨
    ∃ early late, s.cues.beat = early ++ e :: late ∧ before = s.cues.cycle.filter fires ++ early ∧
      left = ⟨s.cues.cycle.filter fun y => !fires y, late⟩

/-- An UNDO that fires in the walk of `s` does not abort the base take: only a base recorder in its tail drain is left, and its layer is
no longer in its take (R105). -/
def State.undoSpares (s : State) : Prop :=
  ∀ r ∈ s.takes.order, (s.recorder r).base = true → (s.recorder r).tail = true ∧
    ∀ sl, (s.recorder r).slot = some sl → (s.layer sl).state ≠ .recording ∧ (s.layer sl).state ≠ .closing

/-- No entry that fires ends the walk: none is a HALT that takes effect, and none an UNDO that could abort the base take (R57). -/
def State.walkRuns (s : State) (fires : CueEntry → Bool) : Prop :=
  ∀ e ∈ s.cues.cycle.filter fires ++ s.cues.beat,
    (e.kind = .halt → s.transport.state ≠ .running ∧ s.transport.state ≠ .priming) ∧ (e.kind = .undo → s.undoSpares)

/-- Some entry fires. -/
def State.firesAny (s : State) (fires : CueEntry → Bool) : Prop := s.cues.cycle.filter fires ++ s.cues.beat ≠ []

/-- From `s` to `t` the boundary of beat `beat`, whose counter is the c of `s`, has been taken by the control link and, as `fires` says, by
the cue queues: either of them first (R15, R61, the order an open one, log 5). -/
def takenInEitherOrder (beat : Nat) (fires : State → State → Prop) (s t : State) : Prop :=
  let begun : State := { s with openOrders := s.openOrders + 1 }
  (∃ u, fires begun u ∧ t = u.boundaryReportedFor s.transport.c beat) ∨ fires (begun.boundaryReported beat) t

/-- The command that is the same cue with quantisation NONE (R60); none for the kinds that never wait. -/
def CueEntry.command (e : CueEntry) : Option Instr :=
  match e.kind with
  | .startTake => some (.startTake e.tag e.p1 e.p2 e.p3)
  | .stopTake => some (.stopTake e.tag e.p1)
  | .mute => some (if e.p1 = 1 then .muteGroup e.tag e.p2 else .muteLayer e.tag e.p2)
  | .unmute => some (if e.p1 = 1 then .unmuteGroup e.tag e.p2 else .unmuteLayer e.tag e.p2)
  | .undo => some (.undo e.tag)
  | .redo => some (.redo e.tag)
  | .halt => some (.halt e.tag)
  | .startBase | .closeBase | .play => none

/-- `s` with CUE_FIRED CANCELLED raised for each of these entries (R62). -/
def State.cancelled (s : State) (entries : List CueEntry) : State :=
  entries.foldl (fun t e => t.reported 31 (.cueFired e.tag e.kind .cancelled 255)) s

/-- From `u`, a HALT in RUNNING or PRIMING just answered or reported, to `t` it has taken effect: the playhead is halted, every waiting cue
cancelled, and from RUNNING every running take ended, with HALTED or EMPTY, and a running job aborted. Which of the cue queues, the
recorders and the bounce engine acts first, and which of several takes ends first, is open: one order for each of the two where two or
more act (R16, R62, R96, R99, R101, R157, log 5). -/
def haltTaken (u t : State) : Prop :=
  let waiting := u.cues.cycle ++ u.cues.beat
  let runs := u.transport.state == .running
  let takes := u.takes.order.filter fun q => runs && (u.recorder q).state == .recording && !(u.recorder q).base
  let cancel := fun v : State => ({ v with cues := ⟨[], []⟩ } : State).cancelled waiting
  let abort := fun v : State => if (runs && u.job.running) = true then v.withBounceAborted else v
  let blocks := (if waiting = [] then 0 else 1) + (if takes = [] then 0 else 1) + if (runs && u.job.running) = true then 1 else 0
  ∃ ends : List Recorder, ends.Perm takes ∧
    ∃ order : List (State → State),
      order.Perm [cancel, fun v => ends.foldl (fun y q => y.withTakeEnded .halted q) v, abort] ∧
      t =
        { order.foldl (fun v f => f v) { u.playheadHalted with cues := u.cues } with
          openOrders := u.openOrders + (if 2 ≤ blocks then 1 else 0) + if 2 ≤ takes.length then 1 else 0 }

/-! ## Samples of a take -/

/-- The stored value of lane `l` from the input samples `x`: trimmed, saturated to 24 bits, rounded to 16 and saturated again (R71,
R91). -/
def State.storedValue (s : State) (x : Lane → Int) (l : Lane) : Int :=
  let trim : Int :=
    if (s.lane l).enable = true then max (-8388608) (min 8388607 ((x l * (s.lane l).trim + 2048) / 4096)) else 0
  max (-32768) (min 32767 ((trim + 128) / 256))

/-- The FIFO of a recorder with its open gap closed (R94). -/
def RecorderRec.filled (q : RecorderRec) : List FifoEntry := if q.gap = 0 then q.fifo else pushZeros q.fifo q.gap

/-- The lost samples of the layer of a recorder with its open gap closed (R94, R47). -/
def LayerRec.lostIn (k : LayerRec) (q : RecorderRec) : Nat := if q.gap = 0 then k.lost else min 8388608 (k.lost + q.gap)

/-- A recorder after a sample period with value `v` for storage offset `o`: with room in the FIFO the open gap is closed and the value
appended, and for offsets 0..255 of the base take to the head copy; with none the sample is lost into the gap, which at 65535 first
becomes zero-fill (R92, R94, R104). -/
def RecorderRec.storing (q : RecorderRec) (o : Nat) (v : Int) : RecorderRec :=
  if storedCount q.fifo < 512 then
    { q with
      fifo := q.filled ++ [.sample v], gap := 0
      head := if q.base = true ∧ o < 256 then q.head ++ [v] else q.head }
  else if q.gap = 65535 then { q with fifo := pushZeros q.fifo 65535, gap := 1 }
  else { q with gap := q.gap + 1 }

/-- Its layer after that sample period: one sample longer, with the lost samples of a gap that has been closed (R92, R94). -/
def LayerRec.storing (k : LayerRec) (q : RecorderRec) : LayerRec :=
  { k with
    len := k.len + 1
    lost :=
      if storedCount q.fifo < 512 then k.lostIn q
      else if q.gap = 65535 then min 8388608 (k.lost + 65535)
      else k.lost }

/-- A recorder whose take has run out: CLOSING with the reason, the open gap closed (R93, R94, R96, R107). -/
def RecorderRec.spent (q : RecorderRec) (reason : EndReason) : RecorderRec :=
  { q with state := .closing, endReason := some reason, gap := 0, fifo := q.filled }

/-- The page that a layer needs cannot be acquired: none is free, or the lowest would start a 17th extent (R93, R113). -/
def State.pageFails (s : State) (k : LayerRec) (reason : EndReason) : Prop :=
  (s.store.pool = [] ∧ reason = .memoryFull) ∨
    ∃ page pool older e, s.store.pool = page :: pool ∧ k.extents = older ++ [e] ∧ e.first + e.count ≠ page ∧
      16 ≤ k.extents.length ∧ reason = .extentsFull

/-- From `s` to `u` the recorders have taken a sample period. A recorder that is not RECORDING stays as it is, and so does a layer that no
RECORDING recorder names, with its buffer; a layer that one names keeps its settings, and its buffer unless the end of its take has
made it ACTIVE, with a buffer of entries that need no read. Beside these, the take order, the stack, the pool, close pending and the
reports of takes that have ended, nothing changes (R92, R93, R100, R107, R121). -/
def State.recordedInto (s u : State) : Prop :=
  u =
      { s with
        takes := u.takes
        table := { s.table with layers := u.table.layers, stack := u.table.stack }
        store := { s.store with pool := u.store.pool, buffers := u.store.buffers }
        transport := { s.transport with closePending := u.transport.closePending }
        link := { s.link with outQ := u.link.outQ, omitted := u.link.omitted }
        openOrders := u.openOrders } ∧
    (∀ r, (s.recorder r).state ≠ .recording → u.recorder r = s.recorder r) ∧
    ∀ sl,
      if ∃ r, (s.recorder r).state = .recording ∧ (s.recorder r).slot = some sl then
        u.layer sl =
            { s.layer sl with
              state := (u.layer sl).state, len := (u.layer sl).len, extents := (u.layer sl).extents, lost := (u.layer sl).lost } ∧
          (u.buffer sl = s.buffer sl ∨
            ((u.layer sl).state = .active ∧
              ∀ b, u.buffer sl = some b → ∀ e ∈ b.entries, e.value = none ∨ fromFifo u sl e.offset = true))
      else u.layer sl = s.layer sl ∧ u.buffer sl = s.buffer sl

/-- `s`, in which the recorders have taken the sample period with the inputs `x`, after all of that sample period: every lane is trimmed
and measured, both buses are formed from layers and lanes and saturated with their clips counted, the frame carries the pair formed
before, the loop store serves every ACTIVE layer while the playhead moves and raises the refill requests, and the click, the playhead,
the pulse and the port count on. What these counts bring stands to be taken: p at L, a window position of 480, and the mark `beatDue` for
a beat start reached (R14, R21, R71, R75, R117, R119, R121, R123, R131 to R138, R145, log 1). -/
def State.sampled (s : State) (x : Lane → Int) : State :=
  let t := s.transport
  let L := t.length.getD 0
  let moves : Prop := t.state = .running ∨ (t.state = .defining ∧ t.mode = .grid)
  let sounds : Prop := moves ∧ s.mix.burstEnding = false
  let sat := fun v : Int => max (-8388608) (min 8388607 v)
  let r : Lane → Int := fun l =>
    if (s.lane l).enable = true then sat ((x l * (s.lane l).trim + 2048) / 4096) else 0
  let side := fun (left : Bool) (pan : Nat) => ((if left then 128 - pan else pan : Nat) : Int)
  let front := fun sl : Slot => (s.buffer sl).bind fun b => b.entries.head?
  let ofLayer := fun (left : Bool) (sl : Slot) =>
    let l := s.layer sl
    if moves ∧ l.state = .active ∧ l.muted = false ∧ s.table.groupMutes[l.group.val] = false then
      match front sl with
      | some ⟨_, o, some v⟩ => v * 256 * (effectiveGain l.gain l.fade l.len o : Int) * side left l.pan
      | _ => 0
    else 0
  let bus := fun (left : Bool) (master : Nat) =>
    (((∑ sl : Slot, ofLayer left sl) + ∑ l : Lane, r l * (s.lane l).send * side left (s.lane l).pan) * (master : Int) +
        2 ^ 30) / 2 ^ 31
  let click : Int :=
    match s.mix.burstPos with
    | some n => if sounds then (if n / 24 % 2 = 0 then (s.mix.burstAmp : Int) else -(s.mix.burstAmp : Int)) else 0
    | none => 0
  let clip := fun v : Int => if sat v = v then 0 else 1
  let mainL := bus true s.mix.mainMaster
  let mainR := bus false s.mix.mainMaster
  let monL := bus true s.mix.monMaster + click
  let monR := bus false s.mix.monMaster + click
  State.withRefillsRaised
    { s with
      lanes := Vector.ofFn fun l =>
        if (s.lane l).enable = true then
          { s.lane l with peak := max (s.lane l).peak (r l).natAbs, pos := (s.lane l).pos + 1 }
        else s.lane l
      mix :=
        { s.mix with
          burstPos := if sounds then s.mix.burstPos.map (· + 1) else none
          burstEnding := false
          mainClips := min 65535 (s.mix.mainClips + (clip mainL + clip mainR))
          monClips := min 65535 (s.mix.monClips + (clip monL + clip monR))
          formed := ⟨sat mainL, sat mainR, sat monL, sat monR⟩
          frame := s.mix.formed }
      table :=
        { s.table with
          layers := Vector.ofFn fun sl =>
            match s.buffer sl with
            | some b =>
              if moves ∧ (s.layer sl).state = .active ∧ b.primed = true ∧ b.entries = [] then
                { s.layer sl with dropouts := min 65535 ((s.layer sl).dropouts + 1) }
              else s.layer sl
            | none => s.layer sl }
      store :=
        { s.store with
          buffers := Vector.ofFn fun sl =>
            if moves ∧ (s.layer sl).state = .active then
              (s.buffer sl).map fun b => { b with entries := b.entries.tail }
            else s.buffer sl
          windowPos := s.store.windowPos + 1
          transfer := s.store.transfer.map fun z => { z with left := z.left - 1 } }
      transport :=
        { t with
          pulseRemaining := t.pulseRemaining - 1
          p := if moves ∨ t.state = TState.defining then t.p + 1 else t.p
          beatDue :=
            if moves then
              decide (t.p + 1 < L) && (List.range t.beats).any fun b => decide (0 < b) && b * L / t.beats == t.p + 1
            else t.beatDue } }

/-! ## The abort of the base take -/

/-- Slot `x` holds a layer, or a take of the take order list or of recorder `r` names it: the abort of the base take of `r` frees it. -/
def State.freedByAbort (s : State) (r : Recorder) (x : Slot) : Bool :=
  (s.layer x).state != .free || (r :: s.takes.order).any fun q => (s.recorder q).slot == some x

/-- From `s` to `t` the base take of recorder `r` has been aborted: the transport is in IDLE, every layer FREE with its pages in the pool,
its buffer discarded and its transfer ended, every recorder of the take order list IDLE and both queues empty; one TAKE_END ABORTED for
each take, the base take's first and the others in take order, then CANCELLED for each waiting cue. The click burst is marked to end at
the next sample period; the group mutes and everything else stay as they were (R12, R48, R63, R102, R103, R115, R145). -/
def baseTakeAborted (r : Recorder) (s t : State) : Prop :=
  t.transport =
      { s.transport with
        state := .idle, length := none, p := 0, c := 0, cyclesRecorded := 0, closePending := false
        pulseRemaining := 0, pin := false, beatDue := false } ∧
    (∀ x, t.layer x = if s.freedByAbort r x = true then LayerRec.freed else s.layer x) ∧
    t.table.stack = (s.table.stack.filter fun x => !s.freedByAbort r x) ∧
    t.table.redo = (s.table.redo.filter fun x => !s.freedByAbort r x) ∧ t.table.groupMutes = s.table.groupMutes ∧
    (∀ page, page ∈ t.store.pool ↔
      page ∈ s.store.pool ∨ ∃ x, s.freedByAbort r x = true ∧ page ∈ pagesOf (s.layer x).extents) ∧
    (s.store.pool.Pairwise (· < ·) → t.store.pool.Pairwise (· < ·)) ∧
    (∀ x, t.buffer x = if s.freedByAbort r x = true then none else s.buffer x) ∧
    t.store =
      { s.store with
        pool := t.store.pool
        buffers := t.store.buffers
        transfer := s.store.transfer.filter fun y =>
          !(slotNumbers.any fun x => s.freedByAbort r x && ofLayer s x y.kind) } ∧
    (∀ q ∈ r :: s.takes.order, ∀ x, (s.recorder q).slot = some x → t.recorder q = RecorderRec.idle) ∧
    (∀ q, (s.recorder q).slot = none → t.recorder q = s.recorder q) ∧
    t.takes.order = (s.takes.order.filter fun q => (s.recorder q).slot == none) ∧ t.cues = ⟨[], []⟩ ∧
    (((r :: s.takes.order.filter (· != r)).map fun q => (s.recorder q).slot).Nodup →
      t.link =
        (((r :: s.takes.order.filter (· != r)).foldl
          (fun u q =>
            match (s.recorder q).slot with
            | none => u
            | some x =>
              u.reported 31
                (.takeEnd q x .aborted (s.layer x).len (s.layer x).lost (pageCount (s.layer x).extents)))
          s).cancelled (s.cues.cycle ++ s.cues.beat)).link) ∧
    (s.job.result = none → t.job = s.job) ∧
    t.lanes = s.lanes ∧ t.mem = s.mem ∧ t.mix = { s.mix with burstEnding := true } ∧ t.rest = s.rest ∧
    t.openOrders = s.openOrders ∧ t.pending = s.pending

/-! ## The chunks of a bounce -/

/-- The storage offset of a source when the anchor stands at index `t` (R150). -/
def State.bounceOffset (s : State) (src : Source) (t : Nat) : Nat :=
  let length := s.transport.length.getD 0
  let cycle := (src.k + t / length + src.multiple - s.job.anchorK % src.multiple) % src.multiple
  let n := src.multiple * length
  (cycle * length + t % length + n - (s.layer src.slot).start % n) % n

/-- The places of a chunk at which a source is read from memory, each with its storage offset: in span, and not served from the FIFO of
the base layer's tail drain (R152, R153). -/
def State.bounceReads (s : State) (src : Source) (start length : Nat) : List (Nat × Nat) :=
  (List.range length).filterMap fun i =>
    let o := s.bounceOffset src (start + i)
    if o < (s.layer src.slot).len ∧ fromFifo s src.slot o = false then some (i, o) else none

/-- What storage offset `o` of a source adds to a partial sum (R153). -/
def State.bounceValue (s : State) (src : Source) (o : Nat) : Int :=
  readOffset s src.slot o * (effectiveGain src.gain src.fade (s.layer src.slot).len o : Int)

/-- What a source adds at place `i` of a chunk when it is taken in hand: what the FIFO of the base layer's tail drain serves (R153). -/
def State.bounceAtOnce (s : State) (src : Source) (start i : Nat) : Int :=
  let o := s.bounceOffset src (start + i)
  if o < (s.layer src.slot).len ∧ fromFifo s src.slot o = true then s.bounceValue src o else 0

/-- `ch` is a chunk for which, from the partial sums `sums` on, the sources from place `n` on have been taken in hand in turn: up to the
first that has something to read, its reads cut into pieces; with none left that has, the chunk is in phase WRITE (R152). -/
def State.takenInHand (s : State) (n : Nat) (sums : List Int) (ch : Chunk) : Prop :=
  ch.sums.length = sums.length ∧
    ((∃ m src, n ≤ m ∧ s.job.sources[m]? = some src ∧ s.bounceReads src ch.start ch.length ≠ [] ∧
        (∀ i x, n ≤ i → i < m → s.job.sources[i]? = some x → s.bounceReads x ch.start ch.length = []) ∧
        ch.source = m ∧ ch.phase = .read ∧ ch.pieces = piecesOf (s.bounceReads src ch.start ch.length) ∧
        ∀ i, i < sums.length →
          ch.sums.getD i 0 =
            sums.getD i 0 + (((s.job.sources.take (m + 1)).drop n).map fun x => s.bounceAtOnce x ch.start i).sum) ∨
      ((∀ i x, n ≤ i → s.job.sources[i]? = some x → s.bounceReads x ch.start ch.length = []) ∧
        ch.phase = .write ∧ ch.pieces = [] ∧
        ∀ i, i < sums.length →
          ch.sums.getD i 0 = sums.getD i 0 + ((s.job.sources.drop n).map fun x => s.bounceAtOnce x ch.start i).sum))

/-- The clip count of a job whose chunk `ch` has been taken on: in phase WRITE one more for each sum that its saturation changes
(R154). -/
def clipsAfter (clips : Nat) (ch : Chunk) : Nat :=
  if ch.phase = .write then
    min 65535
      (clips +
        (ch.sums.map fun x => if -32768 ≤ (x + 2048) / 4096 ∧ (x + 2048) / 4096 ≤ 32767 then 0 else 1).sum)
  else clips

/-! ## Frames that wait -/

/-- Frame `f` spells request row `i`, whose payload stands as R176 lays it out; a byte that the request does not read may hold any value
(R49, R65, R147, R163, R170, R175). -/
def Frame.spells (f : Frame) (i : Instr) : Prop :=
  let two := fun x : BitVec 16 => [x.setWidth 8, (x >>> 8).setWidth 8]
  let three := fun x : BitVec 24 => [x.setWidth 8, (x >>> 8).setWidth 8, (x >>> 16).setWidth 8]
  let cue := fun (kind tag p1 p2 p3 : Byte) =>
    ∃ (flags : Byte) (target : BitVec 16), flags.getLsbD 0 = false ∧
      f = ⟨5, [kind, 0, tag, flags, p1, p2, p3] ++ two target⟩
  match i with
  | .hello => f = ⟨1, []⟩
  | .laneSetup lane mask enable trim send pan tLow tNom rise fall armed =>
    f = ⟨2, [lane, mask, enable] ++ two trim ++ two send ++ [pan] ++ three tLow ++ three tNom ++ [rise, fall, armed]⟩
  | .gridSetup mode beats tempo fade => f = ⟨3, [mode, beats] ++ two tempo ++ two fade⟩
  | .outputSetup mask main mon click pulseMode beatReports =>
    f = ⟨4, [mask] ++ two main ++ two mon ++ three click ++ [pulseMode, beatReports]⟩
  | .startBase tag lane => ∃ p2 p3, cue 1 tag lane p2 p3
  | .closeBase tag => ∃ p1 p2 p3, cue 2 tag p1 p2 p3
  | .startTake tag lane multiple group => cue 3 tag lane multiple group
  | .stopTake tag recorder => ∃ p2 p3, cue 4 tag recorder p2 p3
  | .muteLayer tag slot => ∃ p3, cue 5 tag 0 slot p3
  | .muteGroup tag group => ∃ p3, cue 5 tag 1 group p3
  | .unmuteLayer tag slot => ∃ p3, cue 6 tag 0 slot p3
  | .unmuteGroup tag group => ∃ p3, cue 6 tag 1 group p3
  | .undo tag => ∃ p1 p2 p3, cue 7 tag p1 p2 p3
  | .redo tag => ∃ p1 p2 p3, cue 8 tag p1 p2 p3
  | .halt tag => ∃ p1 p2 p3, cue 9 tag p1 p2 p3
  | .play tag => ∃ p1 p2 p3, cue 10 tag p1 p2 p3
  | .cueQueued kind quant tag target p1 p2 p3 =>
    ∃ (flags : Byte) (cycle : BitVec 16), flags.getLsbD 0 = target.isSome ∧ (∀ x, target = some x → cycle = x) ∧
      f = ⟨5, [kind, if quant = .beat then 1 else 2, tag, flags, p1, p2, p3] ++ two cycle⟩
  | .layerSetup slot mask gain pan fade group => f = ⟨6, [slot, mask] ++ two gain ++ [pan] ++ two fade ++ [group]⟩
  | .bounce n slots => f = ⟨7, n :: slots.toList⟩
  | .flushAll => ∃ tag, f = ⟨8, [0, tag]⟩
  | .flushTag tag => f = ⟨8, [1, tag]⟩
  | .queryTransport => ∃ n, f = ⟨9, [0, n]⟩
  | .queryLayer n => f = ⟨9, [1, n]⟩
  | .queryLane n => f = ⟨9, [2, n]⟩
  | .queryStore => ∃ n, f = ⟨9, [3, n]⟩
  | .queryBusy => ∃ n, f = ⟨9, [4, n]⟩
  | .clear => f = ⟨10, []⟩
  | .restart => f = ⟨11, []⟩
  | .rest => f = ⟨12, []⟩
  | .unknownKind kind => (kind = 0 ∨ 12 < kind.toNat) ∧ f.kind = kind
  | _ => False

/-- `s` with its oldest complete frame out of the receive buffer; where that leaves 64 bytes or fewer, RDY is asserted (R167, R168). -/
def State.framePopped (s : State) : State :=
  let left : Link := { s.link with frames := s.link.frames.tail }
  { s with link := { left with rdy := if receivedBytes left ≤ 64 then true else s.link.rdy } }

/-! ## Outcomes -/

/-- A safe outcome: a next state. -/
def Completes (o : Host.Outcome State Fault Refusal) : Prop := ∃ t, o = .next t

/-! ## Conditions that every step keeps -/

/-- The loop memory has its canonical form. -/
def memoryCanonical (s : State) : Prop := Memory.wf s.mem = true

/-- The outgoing queue holds at most 32 frames and the omitted counter lies in 0..255 (R171, R172). -/
def outgoingBounded (s : State) : Prop := s.link.outQ.length ≤ 32 ∧ s.link.omitted ≤ 255

/-- The receive buffer holds at most 256 bytes (R167). -/
def receiveBounded (s : State) : Prop := receivedBytes s.link ≤ 256

/-- Each cue queue holds at most 8 entries (R55). -/
def cueQueuesBounded (s : State) : Prop := s.cues.cycle.length ≤ 8 ∧ s.cues.beat.length ≤ 8

/-- The credit lies in 0..40 and the port window in its 128 sample periods (R117). -/
def portBounded (s : State) : Prop := s.store.credit ≤ 40 ∧ s.store.windowPos ≤ 128

/-- The values of a lane record lie in the ranges of R70; the window position is 480 between the sample period that ends the window
and the window's end (log 1). -/
def LaneRec.inRange (l : LaneRec) : Prop :=
  l.trim ≤ 8191 ∧ l.send ≤ 8191 ∧ l.pan ≤ 128 ∧ l.tNom ≤ 8388607 ∧ l.tLow ≤ l.tNom ∧ l.riseMask ≤ 15 ∧ l.fallMask ≤ 15 ∧
    l.below ≤ 7 ∧ l.peak ≤ 8388608 ∧ l.pos ≤ 480

/-- Every lane record is in range (R70). -/
def lanesInRange (s : State) : Prop := ∀ l : Lane, (s.lane l).inRange

/-- The pulse is at most 480 sample periods long, the pin is high while any are left, and it is high only while the playhead moves
(R21, R22). -/
def pulseSound (s : State) : Prop :=
  s.transport.pulseRemaining ≤ 480 ∧ (0 < s.transport.pulseRemaining → s.transport.pin = true) ∧
    (s.transport.pin = true → s.transport.moves = true)

/-- `x` is a 24-bit two's-complement value. -/
def is24 (x : Int) : Prop := -8388608 ≤ x ∧ x ≤ 8388607

/-- The four values of an output pair are 24-bit values (R131). -/
def OutPair.inRange (p : OutPair) : Prop := is24 p.mainL ∧ is24 p.mainR ∧ is24 p.monL ∧ is24 p.monR

/-- What the output ports carry, and what they carry next, lies in the 24-bit range (R131). -/
def outputsInRange (s : State) : Prop := s.mix.formed.inRange ∧ s.mix.frame.inRange

/-- The song hangs together: what the layer table, the recorders, the page pool, the port and the job say of one another. -/
structure songSound (s : State) : Prop where
  /-- The stack holds each ACTIVE layer once (R36). -/
  stack : s.table.stack.Nodup ∧ ∀ sl, sl ∈ s.table.stack ↔ (s.layer sl).state = .active
  /-- The redo list holds each PARKED layer once (R37). -/
  redo : s.table.redo.Nodup ∧ ∀ sl, sl ∈ s.table.redo ↔ (s.layer sl).state = .parked
  /-- A FREE record holds the values of R25. -/
  free : ∀ sl, (s.layer sl).state = .free → s.layer sl = LayerRec.freed
  /-- Every page of the loop store is in the pool or in exactly one extent list (R112). -/
  pages : s.store.pool.Pairwise (· < ·) ∧
    (s.store.pool ++ slotNumbers.flatMap fun sl => pagesOf (s.layer sl).extents).Perm (List.range s.store.pages)
  /-- A layer has the pages that its len needs, in at most 16 extents; a take has one from its admission on (R114). -/
  counts : ∀ sl, (s.layer sl).state ≠ .free → (s.layer sl).extents.length ≤ 16 ∧
    (pageCount (s.layer sl).extents = ((s.layer sl).len + 4095) / 4096 ∨
      ((s.layer sl).len = 0 ∧ pageCount (s.layer sl).extents = 1)) ∧
    ((s.layer sl).state = .recording ∨ (s.layer sl).state = .closing → 0 < pageCount (s.layer sl).extents)
  /-- An IDLE recorder holds the values of R85. -/
  idle : ∀ r, (s.recorder r).state = .idle → s.recorder r = RecorderRec.idle
  /-- Any other recorder names a layer in the state that its take has reached; write cursor, FIFO and gap make up the layer's len (R85,
  R86, R96, R107). In the tail drain the base flag is set (log 26). -/
  take : ∀ r, (s.recorder r).state ≠ .idle → (s.recorder r).lane ≠ none ∧ ∃ sl, (s.recorder r).slot = some sl ∧
    (s.recorder r).cursor + fifoOffsets (s.recorder r).fifo + (s.recorder r).gap = (s.layer sl).len ∧
    storedCount (s.recorder r).fifo ≤ 512 ∧ (s.recorder r).gap ≤ 65535 ∧
    if (s.recorder r).tail = true then
      (s.recorder r).state = .closing ∧ (s.recorder r).base = true ∧
        ((s.layer sl).state = .active ∨ (s.layer sl).state = .parked)
    else if (s.recorder r).state = .closing ∧ (s.recorder r).base = false then (s.layer sl).state = .closing
    else (s.layer sl).state = .recording
  /-- No two recorders name the same layer (R86). -/
  named : ∀ r q sl, (s.recorder r).slot = some sl → (s.recorder q).slot = some sl → r = q
  /-- A layer in RECORDING or CLOSING has its recorder (R26, R27). -/
  inTake : ∀ sl, (s.layer sl).state = .recording ∨ (s.layer sl).state = .closing →
    ∃ r, (s.recorder r).slot = some sl ∧ (s.recorder r).tail = false
  /-- The take order list holds each recorder that is not IDLE once (R85). -/
  order : s.takes.order.Nodup ∧ ∀ r, r ∈ s.takes.order ↔ (s.recorder r).state ≠ .idle
  /-- A drain burst in flight is one of its recorder's, and no longer than its FIFO (R85, R95). -/
  burst : ∀ r n left, s.store.transfer = some ⟨.drain r n, left⟩ →
    (s.recorder r).inFlight = true ∧ n ≤ fifoOffsets (s.recorder r).fifo
  /-- There is at most one base take, and only in DEFINING (R5, R90). -/
  base : ∀ r, (s.recorder r).base = true → (s.recorder r).tail = false → s.transport.state = .defining ∧
    ∀ q, (s.recorder q).base = true → (s.recorder q).tail = false → q = r
  /-- The job record of an IDLE bounce engine holds the values of R146. -/
  jobIdle : s.job.running = false → s.job = Job.idle
  /-- A running job has ACTIVE sources and a BUILDING result (R30, R149, R151). -/
  jobRuns : s.job.running = true →
    (s.transport.state = .running ∨ s.transport.state = .priming ∨ s.transport.state = .halted) ∧ s.job.sources ≠ [] ∧
      (∀ src ∈ s.job.sources, (s.layer src.slot).state = .active) ∧
      ∃ sl, s.job.result = some sl ∧ (s.layer sl).state = .building
  /-- Exactly the sources of the running job are held (R30, R151). -/
  held : ∀ sl, (s.layer sl).held = true ↔ s.job.running = true ∧ sl ∈ s.job.sources.map Source.slot
  /-- A BUILDING layer is the result of the running job (R30). -/
  building : ∀ sl, (s.layer sl).state = .building → s.job.running = true ∧ s.job.result = some sl
  /-- In IDLE there is no song (R5, R12, R19). -/
  idleSong : s.transport.state = .idle → (∀ sl, (s.layer sl).state = .free) ∧ (∀ r, (s.recorder r).state = .idle) ∧
    s.job.running = false
  /-- A power-on or RESTART starts in IDLE (R1, R179, R180). -/
  starting : s.rest.run = .starting → s.rest.cause = .power ∨ s.rest.cause = .restart → s.transport.state = .idle

/-- The playhead hangs together with what follows it: position, cycle length and counters, the layer cycles, the buffers of the layers
that stream, the refill in flight, the queued cues, the arm flags and the anchor of the job. -/
structure playheadSound (s : State) : Prop where
  /-- Tempo and beat count lie in the ranges of R1. -/
  grid : 1 ≤ s.transport.beats ∧ s.transport.beats ≤ 32 ∧ 400 ≤ s.transport.tempo ∧ s.transport.tempo ≤ 3000
  /-- The cycle counter is one of 16 bits, and cycles are recorded, up to the eighth, in DEFINING alone (R1, R9). -/
  counters : s.transport.c ≤ 65535 ∧ s.transport.cyclesRecorded ≤ 7 ∧
    (s.transport.state ≠ .defining → s.transport.cyclesRecorded = 0 ∧ s.transport.closePending = false)
  /-- In IDLE there is no cycle, p and c are 0 and no cue waits (R1, R12, R19). -/
  idle : s.transport.state = .idle →
    s.transport.length = none ∧ s.transport.p = 0 ∧ s.transport.c = 0 ∧ s.cues.cycle = [] ∧ s.cues.beat = []
  /-- In FREE DEFINING L is undefined and p counts the samples of the base take (R5, R7). -/
  defining : s.transport.state = .defining → s.transport.mode = .free →
    s.transport.length = none ∧ s.transport.p ≤ 2304000
  /-- Elsewhere L is defined and p does not pass it (R8, R9, R11, R14). -/
  cycle : s.transport.state ≠ .idle → ¬(s.transport.state = .defining ∧ s.transport.mode = .free) →
    ∃ n, s.transport.length = some n ∧ 4800 ≤ n ∧ n ≤ 2304000 ∧ s.transport.p ≤ n
  /-- In HALTED and PRIMING p is 0 (R16, R17). -/
  stopped : s.transport.state = .halted ∨ s.transport.state = .priming → s.transport.p = 0
  /-- A beat start is reached while the playhead moves, at a position inside the cycle (R15, log 1). -/
  beat : s.transport.beatDue = true → s.transport.moves = true ∧ 0 < s.transport.p ∧
    s.transport.p < s.transport.length.getD 0
  /-- A layer that cycles has a multiple of 1..8 and a layer cycle below it, 0 in HALTED and PRIMING; any other has none (R25, R34,
  R35). -/
  cycles : ∀ sl, if (s.layer sl).state = .free ∨ (s.layer sl).state = .building then (s.layer sl).k = none
    else 1 ≤ (s.layer sl).multiple ∧ (s.layer sl).multiple ≤ 8 ∧ ∃ k, (s.layer sl).k = some k ∧ k < (s.layer sl).multiple ∧
      (s.transport.state = .halted ∨ s.transport.state = .priming → k = 0)
  /-- Exactly the ACTIVE layers have a buffer, and only while the loop store streams; it holds 256 entries at most (R120, R121). -/
  buffers : ∀ sl, (s.buffer sl ≠ none ↔ (s.layer sl).state = .active ∧ s.transport.streams = true) ∧
    ∀ b, s.buffer sl = some b → b.entries.length ≤ 256
  /-- A refill in flight brings 128 entries to a buffer that waits for it with 128 or fewer (R121). -/
  refill : ∀ sl entries left, s.store.transfer = some ⟨.refill sl entries, left⟩ →
    entries.length = 128 ∧ ∃ b, s.buffer sl = some b ∧ b.inFlight = true ∧ b.entries.length ≤ 128
  /-- A waiting cue has a kind that can wait in its queue and parameters in range; in the beat queue it has no target (R49, R50,
  R54). -/
  waiting : (∀ e ∈ s.cues.cycle, quantAllowed e.kind (.wait .cycle) = true ∧ paramsInRange e.kind e.p1 e.p2 e.p3 = true) ∧
    ∀ e ∈ s.cues.beat, quantAllowed e.kind (.wait .beat) = true ∧ paramsInRange e.kind e.p1 e.p2 e.p3 = true ∧ e.target = none
  /-- A lane is armed in IDLE alone (R79). -/
  armed : ∀ l, (s.lane l).armed = true → s.transport.state = .idle
  /-- The anchor of the running job is a source of the result's multiple, which is the job's (R149). -/
  anchor : s.job.running = true → ∃ i src result, s.job.anchor = some i ∧ s.job.sources[i]? = some src ∧
    s.job.result = some result ∧ (s.layer src.slot).multiple = s.job.multiple ∧ (s.layer result).multiple = s.job.multiple

end Sys2Proof.Machine
end

