-- ==== Sys2Proof/Certificates/Slice0/Obligations.lean ====
section
/-! DEFINITION. The statements for the provers. A command `finds the part ready` (`ready`) when nothing is due, no frame waits
and the dispatcher may take a request; `State.queued` and `State.reported` say what joins the outgoing queue. -/

open Sys2Proof Sys2Proof.Machine

/-! ## The queue of commands -/

/-- A step takes the command at the front of the queue and runs it on the state with the rest of the queue; on an empty queue the
part idles, which is the model's choice (log 3). -/
def Obligations.StepTakesTheFrontCommand : Prop :=
  (∀ (s : State) (i : Instr) (rest : List Instr),
    step { s with pending := i :: rest } = exec i { s with pending := rest }) ∧
  ∀ s : State, s.pending = [] → step s = .next s

/-- No command touches the queue of commands. The queue is the model's (log 17), and that the rise of NRST and the start after a RESTART
keep it too is the model's choice (log 8). -/
def Obligations.ExecLeavesTheQueue : Prop := ∀ (i : Instr) (s t : State), exec i s = .next t → t.pending = s.pending

/-! ## What every step keeps -/

/-- Every step keeps the canonical form of the loop memory. -/
def Obligations.StepKeepsMemoryCanonical : Prop :=
  ∀ s t : State, memoryCanonical s → step s = .next t → memoryCanonical t

/-- Every step keeps the outgoing queue at 32 frames or fewer, the omitted counter in 0..255, the receive buffer at 256 bytes or fewer, and
each cue queue at 8 entries or fewer. -/
def Obligations.StepKeepsLinkAndCueQueuesBounded : Prop :=
  (∀ s t : State, outgoingBounded s → receiveBounded s → step s = .next t → outgoingBounded t ∧ receiveBounded t) ∧
  ∀ s t : State, cueQueuesBounded s → step s = .next t → cueQueuesBounded t

/-- Every step keeps the credit at 40 or less and the port window within its 128 sample periods, and PULSE high only while the playhead
moves, and for 480 sample periods at most. -/
def Obligations.StepKeepsPortAndPulseBounded : Prop :=
  (∀ s t : State, portBounded s → step s = .next t → portBounded t) ∧
  ∀ s t : State, pulseSound s → step s = .next t → pulseSound t

/-- Every step keeps every value of the lane records in its range of R70, the window position in 0..480: between the sample period that
ends a window and the window's end it holds the count 480, an intermediate count of the model's (log 1). It keeps what the output ports
carry within 24 bits. -/
def Obligations.StepKeepsLanesAndOutputsInRange : Prop :=
  (∀ s t : State, lanesInRange s → step s = .next t → lanesInRange t) ∧
  ∀ s t : State, outputsInRange s → step s = .next t → outputsInRange t

/-- Every step keeps the song together (`songSound`): stack and redo list hold exactly the ACTIVE and the PARKED layers, every page is in
the pool or in exactly one extent list and a layer has the pages its len needs, a recorder's write cursor, FIFO and gap make up its layer's
len, the take order list holds exactly the recorders that are not IDLE, and the job holds exactly its sources. That a recorder in its tail
drain has the base flag set is the model's choice (log 26). -/
def Obligations.StepKeepsTheSongSound : Prop := ∀ s t : State, songSound s → step s = .next t → songSound t

/-- Every step keeps the playhead sound (`playheadSound`) in a song that hangs together: L, p and c in their ranges and undefined or 0 where
R1 says so, every layer cycle below its multiple and 0 in HALTED and PRIMING, exactly the ACTIVE layers with a buffer while the loop
store streams and 256 entries at most in it, every waiting cue one that may wait, and no lane armed but in IDLE. In the states in which p
moves it may stand at L, where R1 has 0..L-1: that is the intermediate count between the sample period that ends a cycle and the cycle
start, and a beat start is marked as reached in the same way (log 1). -/
def Obligations.StepKeepsThePlayheadSound : Prop :=
  ∀ s t : State, songSound s → playheadSound s → step s = .next t → playheadSound t

/-- The state after reset meets every condition that the steps keep. -/
def Obligations.ResetMeetsEveryInvariant : Prop :=
  memoryCanonical State.reset ∧ outgoingBounded State.reset ∧ receiveBounded State.reset ∧ cueQueuesBounded State.reset ∧
    portBounded State.reset ∧ lanesInRange State.reset ∧ pulseSound State.reset ∧ outputsInRange State.reset ∧
    songSound State.reset ∧ playheadSound State.reset

/-! ## Arithmetic -/

/-- The samples per beat are the exact quotient rounded to the nearest, and they and the cycle length lie in the ranges of R3. The
current beat is the largest that starts at or before the position; beat 0 starts at 0, and two beats start at least 150 sample periods
apart. -/
def Obligations.BeatsAreAsR3AndR4Give : Prop :=
  (∀ T B : Nat, 400 ≤ T → T ≤ 3000 → 1 ≤ B → B ≤ 32 →
    2 * samplesPerBeat T * T ≤ 2 * 28800000 + T ∧ 2 * 28800000 < 2 * samplesPerBeat T * T + T ∧
      9600 ≤ samplesPerBeat T ∧ samplesPerBeat T ≤ 72000 ∧ 9600 ≤ B * samplesPerBeat T ∧ B * samplesPerBeat T ≤ 2304000) ∧
  ∀ L B p : Nat, 4800 ≤ L → 1 ≤ B → B ≤ 32 → p < L →
    beatStart L B 0 = 0 ∧ (∀ b, beatStart L B b + 150 ≤ beatStart L B (b + 1)) ∧ currentBeat L B p < B ∧
      beatStart L B (currentBeat L B p) ≤ p ∧ (∀ b, b < B → beatStart L B b ≤ p → b ≤ currentBeat L B p) ∧
      (∀ n b, L = B * n → beatStart L B b = b * n)

/-- The effective gain never exceeds the gain, is the gain with no fade and between the ramps, and rises and falls by equal
steps at the two ends of the span. -/
def Obligations.FadeRampIsAsR133Gives : Prop :=
  ∀ g F len o : Nat, o < len →
    effectiveGain g F len o ≤ g ∧ effectiveGain g 0 len o = g ∧
      (0 < F → F ≤ o + 1 → o + F ≤ len → effectiveGain g F len o = g) ∧
      (0 < F → o + 1 ≤ F → 2 * o + 1 ≤ len → effectiveGain g F len o = g * (o + 1) / F) ∧
      effectiveGain g F len o = effectiveGain g F len (len - 1 - o)

/-- A due test over the wrapped counter: an entry with target `t` is due in exactly the 32768 values of the counter that begin
with `t`. -/
def Obligations.TargetsAreDueForHalfTheCounter : Prop :=
  ∀ (e : CueEntry) (t n : Nat), e.target = some t → t < 65536 → n < 65536 →
    isDue ((t + n) % 65536) e = decide (n < 32768)

/-- A pool page returned is in the pool, and every other page is there as before; the pool stays in ascending order. -/
def Obligations.ReturnedPagesAreInThePool : Prop :=
  ∀ (pages pool : List Nat), pool.Pairwise (· < ·) →
    (insertPages pages pool).Pairwise (· < ·) ∧ ∀ q, q ∈ insertPages pages pool ↔ q ∈ pages ∨ q ∈ pool

/-- The pieces into which a list of places and storage offsets is cut give the list again, each piece lies within one page, and no two
neighbours could be one piece: place or offset jumps, or the offset opens a page. -/
def Obligations.ReadsAreCutAtPagesAndJumps : Prop :=
  ∀ xs : List (Nat × Nat),
    (piecesOf xs).flatMap (fun q => (List.range q.count).map fun i => (q.rel + i, q.off + i)) = xs ∧
      (∀ q ∈ piecesOf xs, 0 < q.count ∧ q.off / 4096 = (q.off + q.count - 1) / 4096) ∧
      ∀ before q r after, piecesOf xs = before ++ q :: r :: after →
        ¬(r.rel = q.rel + q.count ∧ r.off = q.off + q.count ∧ r.off % 4096 ≠ 0)

/-! ## HELLO and the setup requests -/

/-- HELLO is answered with the identity, P, the omitted count and the fill of both buffers, and nothing else changes. -/
def Obligations.HelloIsAnsweredAndChangesNothing : Prop :=
  (∀ s : State, ready s →
    exec .hello s =
      .next (s.queued [.hello s.store.pages s.link.omitted s.link.outQ.length (receivedBytes s.link)])) ∧
  ∀ pages omitted frames bytes : Nat,
    (Message.hello pages omitted frames bytes).kind = 0x81 ∧
    (Message.hello pages omitted frames bytes).payload =
      [0, 24, 1, 0, 1, BitVec.ofNat 8 pages, BitVec.ofNat 8 (pages / 256), BitVec.ofNat 8 omitted, BitVec.ofNat 8 frames,
        BitVec.ofNat 8 bytes, BitVec.ofNat 8 (bytes / 256)]

/-- LANE_SETUP with a bad lane, or with a bad value that its mask names, is refused and writes nothing. One that passes its checks
writes the named settings of its lane as R72, R74 and R79 give, answers with the record, reports the fall of the band at a disable (the
masks then standing, log 12), and changes nothing else. -/
def Obligations.LaneSetupIsAsR72Gives : Prop :=
  (∀ (s : State) (lane mask enable : Byte) (trim send : BitVec 16) (pan : Byte) (tLow tNom : BitVec 24)
    (rise fall armed : Byte),
    ready s →
    (3 < lane.toNat ∨ (mask.getLsbD 0 = true ∧ 1 < enable.toNat) ∨
      (mask.getLsbD 6 = true ∧ (15 < rise.toNat ∨ 15 < fall.toNat)) ∨ (mask.getLsbD 7 = true ∧ 1 < armed.toNat)) →
    exec (.laneSetup lane mask enable trim send pan tLow tNom rise fall armed) s =
      .next (s.queued [.refused 0x02 .badValue])) ∧
  ∀ (s : State) (n : Lane) (lane mask enable : Byte) (trim send : BitVec 16) (pan : Byte) (tLow tNom : BitVec 24)
    (rise fall armed : Byte),
    ready s → lane.toNat = n.val → (mask.getLsbD 0 = true → enable.toNat ≤ 1) →
    (mask.getLsbD 6 = true → rise.toNat ≤ 15 ∧ fall.toNat ≤ 15) → (mask.getLsbD 7 = true → armed.toNat ≤ 1) →
    let old := s.lanes[n.val]
    let off := mask.getLsbD 0 = true ∧ enable = 0 ∧ old.enable = true
    let on := mask.getLsbD 0 = true ∧ enable = 1 ∧ old.enable = false
    let nom := if mask.getLsbD 5 = true then min 8388607 tNom.toNat else old.tNom
    let low := if mask.getLsbD 4 = true then min 8388607 tLow.toNat else old.tLow
    let new : LaneRec :=
      { enable := if mask.getLsbD 0 = true then enable == 1 else old.enable
        trim := if mask.getLsbD 1 = true then min 8191 trim.toNat else old.trim
        send := if mask.getLsbD 2 = true then min 8191 send.toNat else old.send
        pan := if mask.getLsbD 3 = true then min 128 pan.toNat else old.pan
        tLow := min low nom
        tNom := nom
        riseMask := if mask.getLsbD 6 = true then rise.toNat else old.riseMask
        fallMask := if mask.getLsbD 6 = true then fall.toNat else old.fallMask
        armed := if mask.getLsbD 7 = true then armed == 1 && s.transport.state == .idle else old.armed
        band := if off then .silent else old.band
        below := if off then 0 else old.below
        peak := if off ∨ on then 0 else old.peak
        pos := if off ∨ on then 0 else old.pos }
    let t := { s with lanes := s.lanes.set n.val new }.queued [.laneSet new]
    exec (.laneSetup lane mask enable trim send pan tLow tNom rise fall armed) s =
      .next (if off ∧ old.band ≠ .silent ∧ new.fallMask.testBit 0 = true then t.reported 24 (.level n old.band .silent) else t)

/-- GRID_SETUP: BAD_VALUE first, then WRONG_STATE outside IDLE, then all four fields written with the tempo clamped, and the reply
with the cycle length of a GRID take. -/
def Obligations.GridSetupIsAsR2Gives : Prop :=
  ∀ (s : State) (mode beats : Byte) (tempo fade : BitVec 16),
    ready s →
    let T := max 400 (min 3000 tempo.toNat)
    exec (.gridSetup mode beats tempo fade) s =
      .next
        (if 1 < mode.toNat ∨ beats.toNat = 0 ∨ 32 < beats.toNat ∨ fade.toNat ∉ [0, 32, 64, 128, 256, 512, 1024] then
          s.queued [.refused 0x03 .badValue]
        else if s.transport.state ≠ .idle then s.queued [.refused 0x03 .wrongState]
        else
          { s with
            transport :=
              { s.transport with
                mode := if mode = 1 then .grid else .free, beats := beats.toNat, tempo := T, defaultFade := fade.toNat } }.queued
            [.gridSet T (if mode = 1 then beats.toNat * ((28800000 + T / 2) / T) else 0)])

/-- OUTPUT_SETUP: BAD_VALUE for a named pulse mode or switch out of range, and otherwise the named settings written, a burst
ended by a click amplitude of 0, the pulse dropped by a change to OFF, and the settings and clip counts in the reply. -/
def Obligations.OutputSetupIsAsR139Gives : Prop :=
  ∀ (s : State) (mask : Byte) (main mon : BitVec 16) (click : BitVec 24) (pulse beat : Byte),
    ready s →
    let mix : Mix :=
      { s.mix with
        mainMaster := if mask.getLsbD 0 = true then min 8191 main.toNat else s.mix.mainMaster
        monMaster := if mask.getLsbD 1 = true then min 8191 mon.toNat else s.mix.monMaster
        clickAmp := if mask.getLsbD 2 = true then min 8388607 click.toNat else s.mix.clickAmp
        burstPos := if mask.getLsbD 2 = true ∧ click = 0 then none else s.mix.burstPos }
    let mode : PulseMode :=
      if mask.getLsbD 3 = true then (if pulse = 0 then .off else if pulse = 1 then .cycle else .beat) else s.transport.pulseMode
    let dropped := mask.getLsbD 3 = true ∧ pulse = 0
    let transport : Transport :=
      { s.transport with
        pulseMode := mode
        pulseRemaining := if dropped then 0 else s.transport.pulseRemaining
        pin := if dropped then false else s.transport.pin }
    let switch := if mask.getLsbD 4 = true then beat == 1 else s.link.beatReports
    exec (.outputSetup mask main mon click pulse beat) s =
      .next
        (if (mask.getLsbD 3 = true ∧ 2 < pulse.toNat) ∨ (mask.getLsbD 4 = true ∧ 1 < beat.toNat) then
          s.queued [.refused 0x04 .badValue]
        else
          { s with mix := mix, transport := transport, link := { s.link with beatReports := switch } }.queued
            [.outputSet mix.mainMaster mix.monMaster mix.clickAmp mode switch s.mix.mainClips s.mix.monClips])

/-- LAYER_SETUP: the checks of R44 in their order, then the named settings written and the present ones in the reply. -/
def Obligations.LayerSetupIsAsR44Gives : Prop :=
  ∀ (s : State) (slot mask : Byte) (gain : BitVec 16) (pan : Byte) (fade : BitVec 16) (group : Byte),
    ready s →
    let bad := 23 < slot.toNat ∨ (mask.getLsbD 2 = true ∧ fade.toNat ∉ [0, 32, 64, 128, 256, 512, 1024]) ∨
      (mask.getLsbD 3 = true ∧ 3 < group.toNat)
    (bad → exec (.layerSetup slot mask gain pan fade group) s = .next (s.queued [.refused 0x06 .badValue])) ∧
    ∀ sl : Slot, ¬bad → slot.toNat = sl.val →
      let l := s.table.layers[sl.val]
      let new : LayerRec :=
        { l with
          gain := if mask.getLsbD 0 = true then min 8191 gain.toNat else l.gain
          pan := if mask.getLsbD 1 = true then min 128 pan.toNat else l.pan
          fade := if mask.getLsbD 2 = true then fade.toNat else l.fade
          group := if mask.getLsbD 3 = true then Fin.ofNat 4 group.toNat else l.group }
      exec (.layerSetup slot mask gain pan fade group) s =
        .next
          (if l.state = .free ∨ l.state = .building then s.queued [.refused 0x06 .noSuchLayer]
          else if l.held = true then s.queued [.refused 0x06 .layerHeld]
          else
            { s with table := { s.table with layers := s.table.layers.set sl.val new } }.queued
              [.layerSet new.gain new.pan new.fade new.group])

/-! ## Cues -/

/-- Every form fault of R50 is refused BAD_VALUE, whatever the transport state, with no effect: for the cues that wait, and for each row
of a cue taken with NONE. Then the state test of R52: what each kind answers, with no effect, in the states in which it may not act. -/
def Obligations.CuesAreTestedForFormAndState : Prop :=
  (∀ (s : State) (tag kind p1 p2 p3 : Byte) (quant : WaitQuant) (target : Option (BitVec 16)),
    ready s →
    let refused := Host.Outcome.next (φ := Fault) (ρ := Refusal) (s.queued [s.cueReply .badValue tag 255])
    (kind.toNat = 0 ∨ 8 < kind.toNat ∧ ¬(kind.toNat = 9 ∧ quant = .cycle) ∨ kind.toNat = 1 ∨ kind.toNat = 2 ∨
        (target.isSome = true ∧ quant = .beat) ∨
        (kind.toNat = 3 ∧ (3 < p1.toNat ∨ p2.toNat = 0 ∨ 8 < p2.toNat ∨ 3 < p3.toNat)) ∨
        (kind.toNat = 4 ∧ 3 < p1.toNat ∧ p1.toNat ≠ 255) ∨
        ((kind.toNat = 5 ∨ kind.toNat = 6) ∧
          (1 < p1.toNat ∨ (p1.toNat = 0 ∧ 23 < p2.toNat) ∨ (p1.toNat = 1 ∧ 3 < p2.toNat))) →
      exec (.cueQueued kind quant tag target p1 p2 p3) s = refused) ∧
    (3 < p1.toNat → exec (.startBase tag p1) s = refused) ∧
    (3 < p1.toNat ∨ p2.toNat = 0 ∨ 8 < p2.toNat ∨ 3 < p3.toNat → exec (.startTake tag p1 p2 p3) s = refused) ∧
    (3 < p1.toNat → p1.toNat ≠ 255 → exec (.stopTake tag p1) s = refused) ∧
    (23 < p1.toNat → exec (.muteLayer tag p1) s = refused ∧ exec (.unmuteLayer tag p1) s = refused) ∧
    (3 < p1.toNat → exec (.muteGroup tag p1) s = refused ∧ exec (.unmuteGroup tag p1) s = refused)) ∧
  ∀ (s : State) (tag lane multiple group recorder slot : Byte),
    ready s → lane.toNat ≤ 3 → 1 ≤ multiple.toNat → multiple.toNat ≤ 8 → group.toNat ≤ 3 →
    (recorder.toNat ≤ 3 ∨ recorder.toNat = 255) → slot.toNat ≤ 23 →
    let answer := fun code => Host.Outcome.next (φ := Fault) (ρ := Refusal) (s.queued [s.cueReply code tag 255])
    (s.transport.state ≠ .idle → exec (.startBase tag lane) s = answer .wrongState) ∧
    (s.transport.state ≠ .defining → exec (.closeBase tag) s = answer .wrongState) ∧
    (s.transport.state ≠ .running → ¬(s.transport.state = .defining ∧ s.transport.mode = .grid) →
      exec (.startTake tag lane multiple group) s = answer .wrongState) ∧
    (s.transport.state ≠ .halted → exec (.play tag) s = answer .wrongState) ∧
    (s.transport.state ≠ .priming → s.transport.state ≠ .running → exec (.halt tag) s = answer .nothing) ∧
    (s.transport.state = .idle →
      exec (.stopTake tag recorder) s = answer .wrongState ∧ exec (.muteLayer tag slot) s = answer .wrongState ∧
      exec (.unmuteLayer tag slot) s = answer .wrongState ∧ exec (.muteGroup tag group) s = answer .wrongState ∧
      exec (.unmuteGroup tag group) s = answer .wrongState ∧ exec (.undo tag) s = answer .wrongState ∧
      exec (.redo tag) s = answer .wrongState)

/-- A FREE base take begins: recorder 0, slot 0 and the lowest page are taken, the transport enters DEFINING with the cycle undefined,
every arm flag is cleared, and no boundary is raised. A GRID base take, with no cue waiting: the layer has multiple 8, L is B times the
samples per beat, and the cycle start with c = 0 starts a click burst and a pulse and raises a BOUNDARY report behind the reply. That the
new click burst clears the mark of an ended one is log 25. -/
def Obligations.StartBaseBeginsTheBaseTake : Prop :=
  (∀ (s : State) (tag lane : Byte) (l : Lane) (page : Nat) (rest : List Nat),
    ready s → lane.toNat = l.val → s.transport.state = .idle → s.transport.mode = .free → (s.lane l).enable = true →
    s.store.pages ≠ 0 → s.store.pool = page :: rest → (∀ sl, (s.layer sl).state = .free) →
    (∀ r, (s.recorder r).state = .idle) → s.table.redo = [] →
    exec (.startBase tag lane) s = .next ((s.withFreeBaseTake l page rest).queued [s.cueReply .ok tag 0])) ∧
  ∀ (s : State) (tag lane : Byte) (l : Lane) (page : Nat) (rest : List Nat),
    ready s → lane.toNat = l.val → s.transport.state = .idle → s.transport.mode = .grid → (s.lane l).enable = true →
    s.store.pages ≠ 0 → s.store.pool = page :: rest → (∀ sl, (s.layer sl).state = .free) →
    (∀ r, (s.recorder r).state = .idle) → s.table.redo = [] → s.cues = ⟨[], []⟩ →
    exec (.startBase tag lane) s =
      .next (((s.withGridBaseTake l page rest).queued [s.cueReply .ok tag 0]).boundaryReported 0)

/-- The admission tests of R87, in their order: the first that fails gives the outcome, with nothing else changed. -/
def Obligations.StartsAreTestedInOrder : Prop :=
  ∀ (s : State) (tag lane multiple group : Byte) (l : Lane),
    ready s → lane.toNat = l.val → 1 ≤ multiple.toNat → multiple.toNat ≤ 8 → group.toNat ≤ 3 →
    let answer := fun code => Host.Outcome.next (φ := Fault) (ρ := Refusal) (s.queued [s.cueReply code tag 255])
    ∀ code, s.startFails l code →
      (s.transport.state = .idle → exec (.startBase tag lane) s = answer code) ∧
      (s.transport.moves = true → exec (.startTake tag lane multiple group) s = answer code)

/-- A take begins at the playhead while it moves: the lowest idle recorder, the lowest FREE slot and the lowest page are taken, and
nothing else changes. Its admission releases the redo list first: every layer of it is FREE with its pages in the pool, and the take then
gets the lowest idle recorder, FREE slot and page; a pool that is empty but for the pages of parked layers serves as well. -/
def Obligations.StartTakeBeginsATake : Prop :=
  (∀ (s : State) (tag lane multiple group : Byte) (l : Lane) (g : Group) (r : Recorder) (sl : Slot) (page : Nat)
    (rest : List Nat),
    ready s → lane.toNat = l.val → group.toNat = g.val → 1 ≤ multiple.toNat → multiple.toNat ≤ 8 →
    s.transport.moves = true → (s.lane l).enable = true → s.store.pages ≠ 0 → s.store.pool = page :: rest →
    s.table.redo = [] → (∀ x, (s.layer x).state ≠ .parked) →
    (s.recorder r).state = .idle → (∀ x, x < r → (s.recorder x).state ≠ .idle) →
    (s.layer sl).state = .free → (∀ x, x < sl → (s.layer x).state ≠ .free) →
    exec (.startTake tag lane multiple group) s =
      .next
        ({ s with
          takes :=
            { recs := s.takes.recs.set r.val
                { RecorderRec.idle with state := .recording, lane := some l, slot := some sl }
              order := s.takes.order ++ [r] }
          table :=
            { s.table with
              layers := s.table.layers.set sl.val
                { LayerRec.freed with
                  state := .recording, origin := some (.lane l), multiple := multiple.toNat, k := some 0
                  start := s.transport.p, extents := [⟨page, 1⟩], pan := (s.lane l).pan, fade := s.transport.defaultFade
                  group := g } }
          store := { s.store with pool := rest } }.queued [s.cueReply .ok tag sl.val])) ∧
  ∀ (s : State) (tag lane multiple group : Byte) (l : Lane) (g : Group) (r : Recorder) (sl : Slot) (page : Nat)
    (rest : List Nat),
    ready s → lane.toNat = l.val → group.toNat = g.val → 1 ≤ multiple.toNat → multiple.toNat ≤ 8 →
    s.transport.moves = true → (s.lane l).enable = true → s.store.pages ≠ 0 → (∃ q, (s.recorder q).state = .idle) →
    (∀ x, x ∈ s.table.redo ↔ (s.layer x).state = .parked) →
    let u := s.withRedoReleased
    u.store.pool = page :: rest →
    (u.recorder r).state = .idle → (∀ x, x < r → (u.recorder x).state ≠ .idle) →
    (u.layer sl).state = .free → (∀ x, x < sl → (u.layer x).state ≠ .free) →
    exec (.startTake tag lane multiple group) s =
        .next ((u.withTakeBegun r sl l multiple.toNat g page rest).queued [s.cueReply .ok tag sl.val]) ∧
      u.table.redo = [] ∧ (∀ x, u.layer x = if x ∈ s.table.redo then LayerRec.freed else s.layer x) ∧
      (s.store.pool.Pairwise (· < ·) → u.store.pool.Pairwise (· < ·) ∧
        ∀ q, q ∈ u.store.pool ↔ q ∈ s.store.pool ∨ ∃ y ∈ s.table.redo, q ∈ pagesOf (s.layer y).extents)

/-- CLOSE_BASE: TOO_SHORT below 4,800 samples in FREE DEFINING, close pending in GRID DEFINING; nothing else changes. -/
def Obligations.CloseBaseWaitsOrIsTooShort : Prop :=
  ∀ (s : State) (tag : Byte),
    ready s → s.transport.state = .defining →
    (s.transport.mode = .free → s.transport.p < 4800 →
      exec (.closeBase tag) s = .next (s.queued [s.cueReply .tooShort tag 255])) ∧
    (s.transport.mode = .grid →
      exec (.closeBase tag) s =
        .next ({ s with transport := { s.transport with closePending := true } }.queued [s.cueReply .ok tag 255]))

/-- The closure of a base take: by CLOSE_BASE at 4,800 samples or more in FREE DEFINING with L = p, by itself at 2,304,000, and in GRID
DEFINING at the cycle start that finds close pending or completes the eighth cycle; a take that has run out closes in the same way. The cues
that fire, all in FREE mode and the due ones in GRID mode, fire at this cycle start, before or after its BOUNDARY (log 5); a HALT among them
takes effect behind those before it and ends the walk (`haltTaken`). That TAKE_END stands before all of these is the model's choice (log
24), and so is the end reason and the base flag that a recorder keeps in its tail drain (logs 22, 26). The marks that say whether a click
burst is about to end are log 25. -/
def Obligations.BaseTakeCloses : Prop :=
  ∀ (s : State) (tag : Byte) (r : Recorder) (sl : Slot) (L : Nat),
    s.transport.state = .defining → (s.recorder r).base = true → (s.recorder r).tail = false →
    (∀ x, x < r → ¬((s.recorder x).base = true ∧ (s.recorder x).tail = false)) → (s.recorder r).slot = some sl →
    let taken := fun (o : Host.Outcome State Fault Refusal) (closed : State) (fires : CueEntry → Bool) =>
      (¬closed.firesAny fires → o = .next (closed.boundaryReported 0)) ∧
      (closed.firesAny fires → closed.walkRuns fires →
        ∃ t, o = .next t ∧ takenInEitherOrder 0 (fun u v => v = u.cuesFired fires) closed t) ∧
      ∀ (before : List CueEntry) (e : CueEntry) (left : CueQueues), closed.firesBehind fires before e left → e.kind = .halt →
        (∀ y ∈ before, y.kind ≠ .halt ∧ (y.kind = .undo → closed.undoSpares)) →
        (∀ q, (s.recorder q).state = .recording → (s.recorder q).base = false → (s.recorder q).tail = false) →
        ∃ t, o = .next t ∧
          takenInEitherOrder 0
            (fun u v => haltTaken ((u.walked before left).reported 31 (.cueFired e.tag .halt .ok 255)) v) closed t
    (ready s → s.transport.mode = .free → 4800 ≤ s.transport.p →
      taken (exec (.closeBase tag) s) ((s.queued [.cue .ok tag 255 0 0]).withBaseTakeClosed r sl 1 s.transport.p 0)
        fun _ => true) ∧
    (isRunning s = true → s.transport.mode = .free → s.transport.p = 2304000 →
      taken (exec .freeSelfClose s) (s.withBaseTakeClosed r sl 1 2304000 0) fun _ => true) ∧
    (isRunning s = true → s.transport.mode = .grid → s.transport.length = some L → s.transport.p = L →
      (∀ x, takeFullDue s x = false) → (s.transport.closePending = true ∨ s.transport.cyclesRecorded = 7) →
      let c := (s.transport.c + 1) % 65536
      taken (exec .cycleStart s) (s.withBaseTakeClosed r sl (s.transport.cyclesRecorded + 1) L c) (isDue c))

/-- STOP_TAKE ends the take of the recorder it names, or the newest running one for 255, with STOPPED, and TAKE_FULL ends the take that has
filled its timeline with FULL (`State.withTakeEnded`): EMPTY with no sample, its layer FREE; handed over at once with nothing left to
drain and no burst in flight; otherwise CLOSING, an open gap filled. A STOP_TAKE that finds no running take answers NOTHING. -/
def Obligations.TakesEndWhenStoppedOrFull : Prop :=
  ∀ (s : State) (tag recorder : Byte),
    let running := fun r : Recorder => (s.recorder r).state = .recording ∧ (s.recorder r).base = false
    (ready s → s.transport.state ≠ .idle →
      ((∃ r : Recorder, recorder.toNat = r.val ∧ ¬running r) ∨ (recorder.toNat = 255 ∧ ∀ r ∈ s.takes.order, ¬running r) →
        exec (.stopTake tag recorder) s = .next (s.queued [s.cueReply .nothing tag 255])) ∧
      ∀ r : Recorder, running r → (s.recorder r).tail = false → (s.recorder r).slot ≠ none →
        (recorder.toNat = r.val ∨
          (recorder.toNat = 255 ∧ ∃ older newer, s.takes.order = older ++ r :: newer ∧ ∀ x ∈ newer, ¬running x)) →
        exec (.stopTake tag recorder) s = .next ((s.queued [s.cueReply .ok tag r.val]).withTakeEnded .stopped r)) ∧
    (isRunning s = true → ∀ (r : Recorder) (sl : Slot), running r → (s.recorder r).tail = false →
      (s.recorder r).slot = some sl → 0 < (s.layer sl).len →
      (s.layer sl).len = (s.layer sl).multiple * s.transport.length.getD 0 →
      exec (.takeFull r) s = .next (s.withTakeEnded .full r))

/-- MUTE and UNMUTE of a layer and of a group, in every state but IDLE: the one flag is written, or NO_SUCH_LAYER is answered for a
slot that holds no layer with a layer cycle. -/
def Obligations.MuteRowsWriteOneFlag : Prop :=
  ∀ (s : State) (tag slot group : Byte) (sl : Slot) (g : Group),
    ready s → s.transport.state ≠ .idle → slot.toNat = sl.val → group.toNat = g.val →
    let set := fun on : Bool =>
      { s with table := { s.table with layers := s.table.layers.set sl.val { s.layer sl with muted := on } } }.queued
        [s.cueReply .ok tag sl.val]
    let setGroup := fun on : Bool =>
      { s with table := { s.table with groupMutes := s.table.groupMutes.set g.val on } }.queued [s.cueReply .ok tag 255]
    let none := s.queued [s.cueReply .noSuchLayer tag 255]
    ((s.layer sl).state = .recording ∨ (s.layer sl).state = .closing ∨ (s.layer sl).state = .active ∨
        (s.layer sl).state = .parked →
      exec (.muteLayer tag slot) s = .next (set true) ∧ exec (.unmuteLayer tag slot) s = .next (set false)) ∧
    ((s.layer sl).state = .free ∨ (s.layer sl).state = .building →
      exec (.muteLayer tag slot) s = .next none ∧ exec (.unmuteLayer tag slot) s = .next none) ∧
    exec (.muteGroup tag group) s = .next (setGroup true) ∧ exec (.unmuteGroup tag group) s = .next (setGroup false)

/-- UNDO with no take in progress: NOTHING on an empty stack, LAYER_HELD at a held top, and otherwise the top layer is parked at the head
of the redo list, its refill ended and its buffer discarded; in PRIMING the last buffer waited for may thereby be the layer's, and the
transport enters RUNNING. REDO: NOTHING on an empty redo list, and otherwise its head joins the top of the stack with the layer cycle
it has; where the loop store streams it has an empty unprimed buffer, its refill request raised, and refills without a read placed at
once. -/
def Obligations.UndoParksAndRedoRestores : Prop :=
  (∀ (s : State) (tag : Byte),
    ready s → s.transport.state ≠ .idle → (∀ x, (s.layer x).state ≠ .recording ∧ (s.layer x).state ≠ .closing) →
    (s.table.stack = [] → exec (.undo tag) s = .next (s.queued [s.cueReply .nothing tag 255])) ∧
    ∀ (below : List Slot) (sl : Slot), s.table.stack = below ++ [sl] → sl ∉ below →
      ((s.layer sl).held = true → exec (.undo tag) s = .next (s.queued [s.cueReply .layerHeld tag 255])) ∧
      ((s.layer sl).held = false →
        exec (.undo tag) s =
          .next
            (({ s with
              table :=
                { s.table with
                  stack := below, redo := sl :: s.table.redo
                  layers := s.table.layers.set sl.val { s.layer sl with state := .parked } }
              store :=
                { s.store with
                  buffers := s.store.buffers.set sl.val none
                  transfer := s.store.transfer.filter fun x =>
                    match x.kind with
                    | .refill y _ => y != sl
                    | _ => true }
              transport :=
                if s.transport.state = .priming ∧ ∀ x ∈ slotNumbers, x ≠ sl → primedFor s x = true then
                  { s.transport with state := .running, p := 0, beatDue := false }.pulsed
                else s.transport } : State).queued [s.cueReply .ok tag sl.val]))) ∧
  ∀ (s : State) (tag : Byte),
    ready s → s.transport.state ≠ .idle →
    (s.table.redo = [] → exec (.redo tag) s = .next (s.queued [s.cueReply .nothing tag 255])) ∧
    ∀ (sl : Slot) (rest : List Slot), s.table.redo = sl :: rest →
      exec (.redo tag) s =
        .next
          ((({ s with
            table :=
              { s.table with
                redo := rest, stack := s.table.stack ++ [sl]
                layers := s.table.layers.set sl.val { s.layer sl with state := .active } }
            store :=
              { s.store with
                buffers := s.store.buffers.set sl.val
                  (if s.transport.state = TState.halted then none
                  else some { entries := [], primed := false, inFlight := false }) } } : State).withRefillRaised sl).queued
            [s.cueReply .ok tag sl.val])

/-- UNDO during a take aborts the newest take in progress, with TAKE_END ABORTED behind the reply: its layer becomes FREE and its pages
return to the pool. The abort of the base take frees every layer with its pages, buffer and transfer, ends every take, empties both queues,
keeps the group mutes and enters IDLE; behind the reply stand a TAKE_END ABORTED for each take, the base take's first, and a CANCELLED for
each waiting cue. The mark by which the next sample period ends the click burst is log 25. -/
def Obligations.UndoAbortsTheNewestTake : Prop :=
  ∀ (s : State) (tag : Byte) (r : Recorder) (sl : Slot) (older newer : List Recorder),
    ready s → s.transport.state ≠ .idle → s.takes.order = older ++ r :: newer → (s.recorder r).slot = some sl →
    ((s.layer sl).state = .recording ∨ (s.layer sl).state = .closing) →
    (∀ q ∈ newer, ∀ x, (s.recorder q).slot = some x → (s.layer x).state ≠ .recording ∧ (s.layer x).state ≠ .closing) →
    ((s.recorder r).base = false →
      exec (.undo tag) s = .next ((s.queued [s.cueReply .ok tag sl.val]).withTakeDropped r sl .aborted)) ∧
    ((s.recorder r).base = true →
      ∃ t, exec (.undo tag) s = .next t ∧ baseTakeAborted r (s.queued [.cue .ok tag sl.val 0 0]) t)

/-- HALT from RUNNING or PRIMING with no take to end and no job running: HALTED with p = 0 and PULSE low, L and c kept, every layer cycle 0,
every refill ended and buffer discarded, and every waiting cue cancelled behind the reply. From RUNNING every running take also ends, with
HALTED, or EMPTY with no sample, and a running job is aborted. Which of the cue queues, the recorders and the bounce engine acts first, and
which of several takes ends first, is open: one order for each of the two where two or more act (`haltTaken`, log 5). The mark by which the
next sample period ends the click burst is log 25. -/
def Obligations.HaltStopsThePlayhead : Prop :=
  ∀ (s : State) (tag : Byte),
    ready s → (s.transport.state = .running ∨ s.transport.state = .priming) →
    let takes :=
      s.takes.order.filter fun q =>
        s.transport.state == .running && (s.recorder q).state == .recording && !(s.recorder q).base
    (takes = [] → ¬(s.transport.state = .running ∧ s.job.running = true) →
      exec (.halt tag) s =
        .next ((s.playheadHalted.queued [.cue .ok tag 255 0 0]).cancelled (s.cues.cycle ++ s.cues.beat))) ∧
    ((∀ q ∈ takes, (s.recorder q).tail = false) →
      ∃ t, exec (.halt tag) s = .next t ∧ haltTaken (s.queued [.cue .ok tag 255 0 0]) t)

/-- HALT from RUNNING, with no take running and no cue waiting, aborts the bounce: its burst in flight is ended, the result becomes FREE and
its pages return to the pool, the holds are cleared, the job record is IDLE, and BOUNCE_END HALTED follows the reply. The mark by which the
next sample period ends the click burst is log 25. -/
def Obligations.HaltAbortsTheBounce : Prop :=
  ∀ (s : State) (tag : Byte) (result : Slot),
    ready s → s.transport.state = .running → (∀ r, (s.recorder r).state ≠ .recording) → s.cues = ⟨[], []⟩ →
    s.job.running = true → s.job.result = some result → (s.layer result).state = .building →
    result ∉ s.job.sources.map Source.slot → (∀ r, (s.recorder r).slot ≠ some result) →
    ∃ t, exec (.halt tag) s = .next t ∧ t.job = Job.idle ∧ t.layer result = LayerRec.freed ∧
      (∀ sl, sl ∈ s.job.sources.map Source.slot → (s.layer sl).state = .active →
        t.layer sl = { s.layer sl with k := some 0, held := false }) ∧
      (∀ sl, sl ∉ s.job.sources.map Source.slot → sl ≠ result →
        t.layer sl =
          if (s.layer sl).state = .free ∨ (s.layer sl).state = .building then s.layer sl
          else { s.layer sl with k := some 0 }) ∧
      t.table.stack = s.table.stack.filter (· != result) ∧ t.table.redo = s.table.redo.filter (· != result) ∧
      t.table.groupMutes = s.table.groupMutes ∧
      t.store =
        { s.store with
          pool := insertPages (pagesOf (s.layer result).extents) s.store.pool
          buffers := Vector.replicate 24 none
          transfer := s.store.transfer.filter fun x => !(isRefill x.kind || isBounce x.kind) } ∧
      t.link =
        ((s.queued [.cue .ok tag 255 0 0]).reported 31
          (.bounceEnd .halted result s.job.multiple (pageCount (s.layer result).extents) s.job.progress s.job.clips)).link ∧
      t.transport =
        { s.transport with state := .halted, p := 0, pulseRemaining := 0, pin := false, beatDue := false } ∧
      t.cues = s.cues ∧ t.takes = s.takes ∧ t.mem = s.mem ∧ t.mix = { s.mix with burstEnding := true } ∧
      t.lanes = s.lanes ∧ t.rest = s.rest ∧ t.openOrders = s.openOrders ∧ t.pending = s.pending

/-- PLAY in HALTED: PRIMING with an empty buffer for every ACTIVE layer and every refill request raised; a refill that needs no read is
placed at once. With a read to make for every ACTIVE layer all buffers stay empty; with none ACTIVE, or all of them SILENT over their
first 256 indices, RUNNING follows at once from the top of the cycle with the pulse of the pulse mode. c is kept and no boundary is
raised. -/
def Obligations.PlayPrimesEveryActiveLayer : Prop :=
  ∀ (s : State) (tag : Byte),
    ready s → s.transport.state = .halted →
    let started := fun (state : TState) (entries : Slot → List Entry) (primed : Bool) =>
      ({ s with
        transport := { s.transport with state := state, p := 0, beatDue := false }
        store :=
          { s.store with
            buffers := Vector.ofFn fun sl : Slot =>
              if (s.layer sl).state = .active then
                some ({ entries := entries sl, primed := primed, inFlight := false } : Stream)
              else none } } : State)
    let running := fun u : State => { u with transport := u.transport.pulsed }
    let priming := started .priming (fun _ => []) false
    let answer := fun u : State => Host.Outcome.next (φ := Fault) (ρ := Refusal) (u.queued [s.cueReply .ok tag 255])
    ((∃ sl, (s.layer sl).state = .active) → exec (.play tag) s = answer priming.withRefillsRaised) ∧
    ((∃ sl, (s.layer sl).state = .active) →
      (∀ sl, (s.layer sl).state = .active → ∃ e ∈ priming.refillFrom sl (priming.presentIndex sl),
        e.value ≠ none ∧ fromFifo s sl e.offset = false) →
      exec (.play tag) s = answer priming) ∧
    ((∀ sl, (s.layer sl).state ≠ .active) → exec (.play tag) s = answer (running (started .running (fun _ => []) false))) ∧
    ((∀ sl, (s.layer sl).state = .active →
        (s.layer sl).k = some 0 ∧ 256 ≤ (s.layer sl).multiple * s.transport.length.getD 0 ∧
        ∀ i, i < 256 →
          let m := (s.layer sl).multiple * s.transport.length.getD 0
          (s.layer sl).len ≤ (i + m - (s.layer sl).start % m) % m) →
      exec (.play tag) s =
        answer
          (running
            (started .running
              (fun sl =>
                let m := (s.layer sl).multiple * s.transport.length.getD 0
                (List.range 256).map fun i => ⟨i, (i + m - (s.layer sl).start % m) % m, none⟩)
              true)))

/-- A cue with BEAT or CYCLE that passes the form check: WRONG_STATE in IDLE, QUEUE_FULL at 8 entries, and otherwise the end of its queue.
FLUSH removes every entry of both queues, or every entry with the tag, keeps the order of the others, and answers with the count and
the lengths left. -/
def Obligations.CueQueuesFillAndFlush : Prop :=
  (∀ (s : State) (kind tag p1 p2 p3 : Byte) (quant : WaitQuant) (target : Option (BitVec 16)) (k : CueKind),
    ready s →
    let cue := Cue.read
      ⟨kind, if quant = .beat then 1 else 2, tag, target.isSome, p1, p2, p3, target.getD 0⟩
    cueForm cue = some (k, .wait quant) →
    let entry : CueEntry := ⟨tag, k, target.map BitVec.toNat, cue.p1, cue.p2, cue.p3⟩
    let queue := if quant = .beat then s.cues.beat else s.cues.cycle
    let after : CueQueues :=
      if quant = .beat then { s.cues with beat := s.cues.beat ++ [entry] } else { s.cues with cycle := s.cues.cycle ++ [entry] }
    exec (.cueQueued kind quant tag target p1 p2 p3) s =
      .next
        (if s.transport.state = .idle then s.queued [s.cueReply .wrongState tag 255]
        else if 8 ≤ queue.length then s.queued [s.cueReply .queueFull tag 255]
        else
          { s with cues := after }.queued [({ s with cues := after } : State).cueReply .queued tag 255])) ∧
  ∀ (s : State) (tag : Byte),
    ready s →
    let cycle := s.cues.cycle.filter fun e : CueEntry => e.tag != tag
    let beat := s.cues.beat.filter fun e : CueEntry => e.tag != tag
    exec .flushAll s =
      .next ({ s with cues := ⟨[], []⟩ }.queued [.flushed (s.cues.cycle.length + s.cues.beat.length) 0 0]) ∧
    exec (.flushTag tag) s =
      .next
        ({ s with cues := ⟨cycle, beat⟩ }.queued
          [.flushed ((s.cues.cycle.filter fun e : CueEntry => e.tag == tag).length + (s.cues.beat.filter fun e : CueEntry => e.tag == tag).length)
            cycle.length beat.length])

/-! ## Bounces -/

/-- The tests of BOUNCE in the order of R147 and R148: the first that fails gives the outcome and the slot at fault, with nothing
else changed. Pages and slots of the redo list count as free (`countedPool`). -/
def Obligations.BouncesAreTestedInOrder : Prop :=
  ∀ (s : State) (n : Byte) (bytes : Vector Byte 8),
    ready s →
    let named := bytes.toList.take n.toNat
    let answer := fun (code : Code) (fault : Nat) =>
      exec (.bounce n bytes) s = .next (s.queued [.bounce code 255 0 255 0 fault])
    (n.toNat < 2 ∨ 8 < n.toNat ∨ (∃ b ∈ named, 23 < b.toNat) ∨ ¬named.Nodup → answer .badValue 255) ∧
    ∀ slots : List Slot, 2 ≤ n.toNat → n.toNat ≤ 8 → named.map BitVec.toNat = slots.map Fin.val → slots.Nodup →
      (s.transport.state ≠ .running → s.transport.state ≠ .halted → answer .wrongState 255) ∧
      (s.transport.state = .running ∨ s.transport.state = .halted →
        (s.job.running = true → answer .busy 255) ∧
        (s.job.running = false →
          (∀ before x after, slots = before ++ x :: after → (s.layer x).state ≠ .active →
            (∀ y ∈ before, (s.layer y).state = .active) → answer .noSuchLayer x.val) ∧
          ((∀ x ∈ slots, (s.layer x).state = .active) →
            ∀ M, 1 ≤ M → (∀ x ∈ slots, (s.layer x).multiple ≤ M) → (∃ x ∈ slots, (s.layer x).multiple = M) →
              let pages := (M * s.transport.length.getD 0 + 4095) / 4096
              (∀ before x after, slots = before ++ x :: after → M % (s.layer x).multiple ≠ 0 →
                (∀ y ∈ before, M % (s.layer y).multiple = 0) → answer .multipleMismatch x.val) ∧
              ((∀ x ∈ slots, M % (s.layer x).multiple = 0) →
                ((∀ x, (s.layer x).state ≠ .free ∧ (s.layer x).state ≠ .parked) → answer .noLayerSlot 255) ∧
                ((∃ x, (s.layer x).state = .free ∨ (s.layer x).state = .parked) →
                  ((countedPool s).length < pages → answer .noMemory 255) ∧
                  (pages ≤ (countedPool s).length → 16 < (runsOf ((countedPool s).take pages)).length →
                    answer .extents 255))))))

/-- A BOUNCE that passes its tests releases the redo list, its layers FREE and their pages in the pool; then the lowest FREE slot is
BUILDING with the lowest pages, the sources are held, the job has latched them and stands at progress 0 and clip count 0 with its first
chunk, from sums of 0 taken on to the first source with something to read, and the reply names result, multiple, anchor and pages. -/
def Obligations.BounceReservesAndLatches : Prop :=
  ∀ (s : State) (n : Byte) (bytes : Vector Byte 8) (slots below above : List Slot) (M L a : Nat)
    (result anchor newest : Slot),
    ready s → 2 ≤ n.toNat → n.toNat ≤ 8 → (bytes.toList.take n.toNat).map BitVec.toNat = slots.map Fin.val →
    slots.Nodup → (∀ x ∈ slots, (s.layer x).multiple ≤ M) → 1 ≤ M →
    slots[a]? = some anchor → (s.layer anchor).multiple = M →
    (∀ i x, i < a → slots[i]? = some x → (s.layer x).multiple ≠ M) → s.transport.length = some L →
    (s.transport.state = .running ∨ s.transport.state = .halted) → s.job.running = false →
    (∀ x ∈ slots, (s.layer x).state = .active ∧ M % (s.layer x).multiple = 0) →
    (∀ x, x ∈ s.table.redo ↔ (s.layer x).state = .parked) → s.store.pool.Pairwise (· < ·) →
    let u := s.withRedoReleased
    (u.layer result).state = .free → (∀ x, x < result → (u.layer x).state ≠ .free) →
    s.table.stack = below ++ newest :: above → newest ∈ slots → (∀ x ∈ above, x ∉ slots) →
    let pages := (M * L + 4095) / 4096
    let taken := u.store.pool.take pages
    pages ≤ u.store.pool.length → (runsOf taken).length ≤ 16 →
    pagesOf (runsOf taken) = taken ∧
    ∃ ch : Chunk, ch.start = 0 ∧ ch.length = min 128 (M * L) ∧
      let t : State :=
        { u with
            store := { u.store with pool := u.store.pool.drop pages }
            table :=
              { u.table with
                layers := Vector.ofFn fun x =>
                  if x = result then
                    { LayerRec.freed with
                      state := .building, origin := some .bounce, multiple := M, len := M * L, extents := runsOf taken
                      group := (s.layer newest).group }
                  else if x ∈ slots then { s.layer x with held := true }
                  else u.layer x }
            job :=
              { Job.idle with
                running := true, result := some result, anchor := some a, anchorK := (s.layer anchor).k.getD 0
                multiple := M, total := M * L, chunk := some ch, clips := clipsAfter 0 ch
                sources := slots.map fun x =>
                  ⟨x, (s.layer x).multiple, (s.layer x).k.getD 0, (s.layer x).gain, (s.layer x).fade⟩ } }
      t.takenInHand 0 (List.replicate (min 128 (M * L)) 0) ch ∧
        exec (.bounce n bytes) s = .next (t.queued [.bounce .ok result.val M anchor.val pages 255])

/-! ## Queries -/

/-- Each QUERY is answered with every field of its owner as it stands and changes nothing else; a layer or lane number out of range is
refused BAD_VALUE. -/
def Obligations.QueriesShowTheState : Prop :=
  ∀ (s : State) (n : Byte),
    ready s →
    let t := s.transport
    exec .queryTransport s =
      .next
        (s.queued
          [.transport
            { state := t.state, mode := t.mode, beats := t.beats, tempo := t.tempo
              spb := if t.mode = .grid then (28800000 + t.tempo / 2) / t.tempo else 0, defaultFade := t.defaultFade
              length := t.length.getD 0, p := t.p, c := t.c
              beat := if t.length = none then 0 else currentBeat (t.length.getD 0) t.beats t.p
              cyclesRecorded := t.cyclesRecorded, closePending := t.closePending, pulseMode := t.pulseMode
              pin := t.pin }]) ∧
    (∀ sl : Slot, n.toNat = sl.val →
      exec (.queryLayer n) s =
        .next
          (s.queued
            [.layer
              { slot := sl, layer := s.layer sl, groupMutes := s.table.groupMutes
                stackPos := if sl ∈ s.table.stack then s.table.stack.idxOf sl else 255
                redoPos := if sl ∈ s.table.redo then s.table.redo.idxOf sl else 255
                pagesHeld := ((s.layer sl).extents.map Extent.count).sum }])) ∧
    (23 < n.toNat → exec (.queryLayer n) s = .next (s.queued [.refused 0x09 .badValue])) ∧
    (∀ l : Lane, n.toNat = l.val → exec (.queryLane n) s = .next (s.queued [.lane l (s.lane l)])) ∧
    (3 < n.toNat → exec (.queryLane n) s = .next (s.queued [.refused 0x09 .badValue])) ∧
    (∃ view : StoreView,
      view.present = s.store.present ∧ view.pages = s.store.pages ∧ view.freePages = s.store.pool.length ∧
      view.credit = s.store.credit ∧ view.freeRuns = (runsOf s.store.pool).length ∧
      view.lowestFree = s.store.pool.headD 65535 ∧
      (∀ e ∈ runsOf s.store.pool, e.count ≤ view.longestRun) ∧
      (s.store.pool ≠ [] → ∃ e ∈ runsOf s.store.pool, e.count = view.longestRun) ∧
      (s.store.pool = [] → view.longestRun = 0) ∧
      view.unprimed =
        ∑ x : Slot, (if (s.layer x).state = .active ∧ ∀ b, s.buffer x = some b → b.primed = false then 1 else 0) ∧
      view.activePages =
        ∑ x : Slot, (if (s.layer x).state = .active then ((s.layer x).extents.map Extent.count).sum else 0) ∧
      view.parkedPages =
        ∑ x : Slot, (if (s.layer x).state = .parked then ((s.layer x).extents.map Extent.count).sum else 0) ∧
      view.buildingPages =
        ∑ x : Slot, (if (s.layer x).state = .building then ((s.layer x).extents.map Extent.count).sum else 0) ∧
      view.recordingPages =
        ∑ x : Slot, (if (s.layer x).state = .recording ∨ (s.layer x).state = .closing then
          ((s.layer x).extents.map Extent.count).sum else 0) ∧
      view.drains = ∑ r : Recorder, (if drainPending (s.recorder r) then 1 else 0) ∧
      view.refills = ∑ x : Slot, (if refillPending s x then 1 else 0) ∧
      view.bouncePending = bouncePending s.job ∧
      view.port =
        (match s.store.transfer with
          | none => .free
          | some ⟨.drain r _, _⟩ => .drain r
          | some ⟨.refill x _, _⟩ => .refill x
          | some ⟨.bounceRead, _⟩ => .bounce
          | some ⟨.bounceWrite, _⟩ => .bounce) ∧
      exec .queryStore s = .next (s.queued [.store view])) ∧
    (∃ view : BusyView,
      view.state = t.state ∧ view.cycleLen = s.cues.cycle.length ∧ view.beatLen = s.cues.beat.length ∧
      view.recorders =
        (List.finRange 4).map (fun r =>
          { state := (s.recorder r).state, tail := (s.recorder r).tail, lane := (s.recorder r).lane
            slot := (s.recorder r).slot, stored := storedCount (s.recorder r).fifo }) ∧
      view.busyMask = ∑ r : Recorder, (if (s.recorder r).state = .idle then 0 else 2 ^ r.val) ∧
      view.running = s.job.running ∧ view.result = (s.job.result.map Fin.val).getD 255 ∧
      view.progress = s.job.progress ∧ view.total = s.job.total ∧ view.clips = s.job.clips ∧
      view.frames = s.link.outQ.length ∧ view.bytes = receivedBytes s.link ∧ view.omitted = s.link.omitted ∧
      exec .queryBusy s = .next (s.queued [.busy view]))

/-! ## CLEAR, RESTART, REST and frames of unknown kind -/

/-- CLEAR is answered OK and discards the song at every block: the transport in IDLE, both queues empty, every layer FREE, every recorder
and the job IDLE, every page in the pool, the port FREE and the clip counts 0; settings, lanes, memory and link stay. RESTART is
answered OK and left pending; REST is answered OK and starts DRAINING in IDLE or HALTED with every recorder and the job IDLE, and is
refused BUSY otherwise; a frame of unknown kind is answered with its KIND. The mark of an ended click burst (log 25) is cleared
with the burst. -/
def Obligations.ClearAndSystemRequestsAreAnswered : Prop :=
  (∀ s : State, ready s →
    exec .clear s =
      .next
        (({ s with
          transport :=
            { s.transport with
              state := .idle, length := none, p := 0, c := 0, cyclesRecorded := 0, closePending := false
              pulseRemaining := 0, pin := false, beatDue := false }
          cues := ⟨[], []⟩
          table :=
            { layers := Vector.replicate 24 LayerRec.freed, stack := [], redo := []
              groupMutes := Vector.replicate 4 false }
          takes := { recs := Vector.replicate 4 RecorderRec.idle, order := [] }
          store :=
            { s.store with
              pool := List.range s.store.pages, transfer := none, buffers := Vector.replicate 24 none }
          mix := { s.mix with burstPos := none, burstEnding := false, mainClips := 0, monClips := 0 }
          job := Job.idle } : State).queued [.accepted 0x0A])) ∧
  ∀ (s : State) (kind : Byte),
    ready s →
    exec .restart s =
      .next (({ s with rest := { s.rest with restartPending := true } } : State).queued [.accepted 0x0B]) ∧
    ((s.transport.state = .idle ∨ s.transport.state = .halted) ∧ (∀ r, (s.recorder r).state = .idle) ∧
        s.job.running = false →
      exec .rest s =
        .next
          (({ s with rest := { s.rest with run := .draining, linkActivity := false } } : State).queued
            [.accepted 0x0C])) ∧
    (¬((s.transport.state = .idle ∨ s.transport.state = .halted) ∧ (∀ r, (s.recorder r).state = .idle) ∧
        s.job.running = false) →
      exec .rest s = .next (s.queued [.refused 0x0C .busy])) ∧
    (kind = 0 ∨ 12 < kind.toNat →
      exec (.unknownKind kind) s = .next (s.queued [.unknownKind kind]) ∧
      (Message.unknownKind kind).kind = 0x80 ∧ (Message.unknownKind kind).payload = [4, kind])

/-! ## The serial line -/

/-- The parser takes a byte in AWAKE as the table of R164 gives, the tests in its order; what RDY does is R168's, where a faulty byte and
a LEN above 96 are not counted and a CHECK is, which is the model's choice (log 23). A faulty byte in the place of the KIND is the KIND
reported. Taken in DRAINING a byte is marked as link activity as well; in STARTING it is counted and not parsed. -/
def Obligations.ParserTakesEachByte : Prop :=
  ∀ (s : State) (b : Byte) (fault : Bool),
    quiet s → s.rest.nrst = true →
    let full := 256 ≤ receivedBytes s.link
    let parsed := fun (s : State) (p : Parser) (frames : List Frame) =>
      ({ s with
        link :=
          { s.link with
            parser := p, frames := frames
            rdy := if 128 ≤ receivedBytes s.link + 1 then false else s.link.rdy } } : State)
    let discarded := fun (s : State) (reason : FaultReason) (kind : Byte) =>
      ({ s with
        link :=
          { s.link with
            parser := .hunting
            rdy := if (s.link.frames.map fun f => f.payload.length + 4).sum ≤ 64 then true else s.link.rdy } } :
        State).reported 31 (.frameFault reason kind)
    let row := fun (s t : State) =>
      (s.link.parser = .hunting →
        t =
          if b = 0xC3 ∧ fault = false then
            (if full then s.reported 31 (.frameFault .overrun 0) else parsed s (.receiving [b]) s.link.frames)
          else s) ∧
      ∀ held : List Byte, s.link.parser = .receiving held → held ≠ [] →
        let kind := if 3 ≤ held.length then held.getD 2 0 else 0
        t =
          if fault then discarded s .line (if held.length = 2 then b else kind)
          else if full then discarded s .overrun kind
          else if held.length = 1 ∧ 96 < b.toNat then discarded s .length 0
          else if 2 ≤ held.length ∧ held.length = (held.getD 1 0).toNat + 3 then
            (if ((held.tail ++ [b]).map BitVec.toNat).sum % 256 = 0 then
              parsed s .hunting (s.link.frames ++ [⟨kind, held.drop 3⟩])
            else
              discarded
                ({ s with
                  link :=
                    { s.link with rdy := if 128 ≤ receivedBytes s.link + 1 then false else s.link.rdy } } : State)
                .check kind)
          else parsed s (.receiving (held ++ [b])) s.link.frames
    (s.rest.run = .awake → ∃ t, exec (.rxdByte b fault) s = .next t ∧ row s t) ∧
    (s.rest.run = .draining →
      ∃ t, exec (.rxdByte b fault) s = .next t ∧ row { s with rest := { s.rest with linkActivity := true } } t) ∧
    (s.rest.run = .starting →
      exec (.rxdByte b fault) s =
        .next { s with rest := { s.rest with discarded := min 255 (s.rest.discarded + 1) } })

/-- The dispatcher takes the frames that wait from the front, in a state in which nothing of the part's own is due (log 1). A request row
whose frame stands there acts on the state from which that frame has left, RDY following the bytes left; the frames behind it wait, and only
HELLO and QUERY BUSY count their bytes. Ten rows that are no requests (RXD_BYTE, INTER_BYTE_TIMEOUT, FRAME_SENT, HOLD_ASSERTED,
HOLD_DEASSERTED, SAMPLE_PERIOD, NRST_LOW, WAKE_ASSERTED, WAKE_RELEASED, LINK_WAKE) find the front frame taken, and the ones behind it after
it; a request row with another KIND at the front comes after that frame. The rows of the part's own events (FRAME_START, CYCLE_START,
PORT_GRANT, the completions and their like) take their event alone and no waiting frame (log 1); they, NRST_RISE and the rows that end
start-up, probe and wake have no clause here. A request KIND with a payload of another length than the request table's is answered
BAD_LENGTH alone; a FLUSH mode above 1, a QUERY form above 4, a CUE quantisation above 2 and a target at quantisation NONE are answered
BAD_VALUE. A CUE with NONE whose kind lies outside 1..10, or whose selector lies above 1, has no clause here. Nothing is taken with 32
frames in the outgoing queue, with a RESTART pending, or in a run state other than AWAKE. What a row finds of waiting frames is the model's
choice (log 2). -/
def Obligations.DispatchTakesWaitingFrames : Prop :=
  ∀ (s : State) (f : Frame) (rest : List Frame) (x0 x1 x2 x3 : BitVec 24) (b : Byte) (fault : Bool),
    urgent s = s → s.link.frames = f :: rest →
    let p := s.framePopped
    let alone : State := { p with link := { p.link with frames := [] } }
    let others : List Instr :=
      [.linkWake, .wakeAsserted, .wakeReleased, .holdAsserted, .holdDeasserted, .interByteTimeout, .frameSent, .nrstLow,
        .rxdByte b fault, .samplePeriod x0 x1 x2 x3]
    let takes := s.rest.nrst = true ∧ s.rest.run = .awake ∧ s.link.outQ.length < 32 ∧ s.rest.restartPending = false
    let length : Nat → Nat := fun kind => [0, 17, 6, 10, 9, 8, 9, 2, 2, 0, 0, 0].getD (kind - 1) 0
    let followed := fun t : State =>
      (∀ j ∈ others, exec j s = exec j t) ∧
        ∀ (i : Instr) (g : Frame), g.spells i → g.kind ≠ f.kind → exec i s = exec i t
    (takes → ∀ i : Instr, f.spells i →
      ∃ t u, exec i alone = .next t ∧ exec i s = .next u ∧ followed u ∧
        (i ≠ .hello → i ≠ .queryBusy → u = { t with link := { t.link with frames := rest } }) ∧
        (i = .hello →
          u = p.queued [.hello p.store.pages p.link.omitted p.link.outQ.length (receivedBytes p.link)]) ∧
        (i = .queryBusy → ∃ view : BusyView, t = alone.queued [.busy view] ∧
          u = p.queued [.busy { view with bytes := receivedBytes p.link }])) ∧
    (takes → 1 ≤ f.kind.toNat → f.kind.toNat ≤ 12 → f.payload.length ≠ length f.kind.toNat →
      followed (p.queued [.refused f.kind.toNat .badLength])) ∧
    (takes → ∀ mode n : Byte,
      (f = ⟨8, [mode, n]⟩ → 1 < mode.toNat → followed (p.queued [.refused 8 .badValue])) ∧
        (f = ⟨9, [mode, n]⟩ → 4 < mode.toNat → followed (p.queued [.refused 9 .badValue]))) ∧
    (takes → ∀ kind quant tag flags p1 p2 p3 t0 t1 : Byte, f = ⟨5, [kind, quant, tag, flags, p1, p2, p3, t0, t1]⟩ →
      (2 < quant.toNat ∨ (quant = 0 ∧ flags.getLsbD 0 = true)) → followed (p.queued [p.cueReply .badValue tag 255])) ∧
    (¬takes → isRunning s = true →
      (∀ (i : Instr) (g : Frame), g.spells i → exec i s = .next s) ∧ exec .linkWake s = .next s)

/-- The KIND and the payload of every reply and report but the replies of HELLO (HelloIsAnsweredAndChangesNothing) and UNKNOWN_KIND
(ClearAndSystemRequestsAreAnswered), byte by byte, multi-byte values least significant byte first, with the codes of each named value in its
order. That a FREE port sends its state alone, and a BOUNCE transfer its kind alone, is the model's choice (log 11). -/
def Obligations.PayloadsAreLaidOutAsR176Gives : Prop :=
  let one := fun n : Nat => BitVec.ofNat 8 n
  let two := fun n : Nat => [one n, one (n / 256)]
  let three := fun n : Nat => [one n, one (n / 256), one (n / 65536)]
  let four := fun n : Nat => [one n, one (n / 256), one (n / 65536), one (n / 16777216)]
  let flag := fun b : Bool => if b then one 1 else one 0
  let has := fun (m : Message) (kind : Nat) (payload : List Byte) => m.kind = kind ∧ m.payload = payload
  ([Code.ok, .queued, .badLength, .badValue, .unknownKind, .wrongState, .busy, .queueFull, .noLayerSlot, .noRecorder,
      .noMemory, .extents, .layerHeld, .nothing, .noSuchLayer, .multipleMismatch, .tooShort, .noStore, .laneOff,
      .cancelled].map Code.number = List.range 20 ∧
    [TState.idle, .defining, .priming, .running, .halted].map TState.number = List.range 5 ∧
    [LState.free, .recording, .closing, .active, .parked, .building].map LState.number = List.range 6 ∧
    [CueKind.startBase, .closeBase, .startTake, .stopTake, .mute, .unmute, .undo, .redo, .halt, .play].map CueKind.number =
      List.range' 1 10 ∧
    [EndReason.closed, .stopped, .full, .halted, .memoryFull, .extentsFull, .aborted, .empty].map EndReason.number =
      List.range 8 ∧
    [Band.silent, .low, .nominal, .clip].map Band.number = List.range 4 ∧
    [RState.idle, .recording, .closing].map RState.number = List.range 3 ∧
    [FaultReason.check, .line, .timeout, .length, .overrun].map FaultReason.number = List.range 5 ∧
    [WakeCause.power, .restart, .wakeLine, .linkActivity].map WakeCause.number = List.range 4 ∧
    [PulseMode.off, .cycle, .beat].map PulseMode.number = List.range 3 ∧
    [DefineMode.free, .grid].map DefineMode.number = List.range 2 ∧
    [BounceResult.done, .halted].map BounceResult.number = List.range 2) ∧
  (∀ (kind n m k a q : Nat) (code : Code), has (.refused kind code) (kind + 128) [one code.number] ∧
    has (.accepted kind) (kind + 128) [0] ∧ has (.gridSet n m) 0x83 ([0] ++ two n ++ three m) ∧
    has (.bounce code n m k a q) 0x87 ([one code.number, one n, one m, one k] ++ two a ++ [one q]) ∧
    has (.flushed n m k) 0x88 [0, one n, one m, one k] ∧
    (∀ tag, has (.cue code tag n m k) 0x85 [one code.number, tag, one n, one m, one k])) ∧
  (∀ l : LaneRec,
    has (.laneSet l) 0x82
      ([0, flag l.enable] ++ two l.trim ++ two l.send ++ [one l.pan] ++ three l.tLow ++ three l.tNom ++
        [one l.riseMask, one l.fallMask, flag l.armed, one l.band.number]) ∧
    ∀ n : Lane, has (.lane n l) 0x89
      ([0, one n.val, flag l.enable] ++ two l.trim ++ two l.send ++ [one l.pan] ++ three l.tLow ++ three l.tNom ++
        [one l.riseMask, one l.fallMask, flag l.armed, one l.band.number, one l.below] ++ three l.peak ++ two l.pos)) ∧
  (∀ (main mon click n m : Nat) (pulse : PulseMode) (beats : Bool),
    has (.outputSet main mon click pulse beats n m) 0x84
      ([0] ++ two main ++ two mon ++ three click ++ [one pulse.number, flag beats] ++ two n ++ two m)) ∧
  (∀ (gain pan fade : Nat) (group : Group),
    has (.layerSet gain pan fade group) 0x86 ([0] ++ two gain ++ [one pan] ++ two fade ++ [one group.val])) ∧
  (∀ v : TransportView,
    has (.transport v) 0x89
      ([0, one v.state.number, one v.mode.number, one v.beats] ++ two v.tempo ++ three v.spb ++ two v.defaultFade ++
        three v.length ++ three v.p ++ two v.c ++
        [one v.beat, one v.cyclesRecorded, flag v.closePending, one v.pulseMode.number, flag v.pin])) ∧
  (∀ v : LayerView,
    let l := v.layer
    let origin := match l.origin with
      | none => 255
      | some .bounce => 4
      | some (.lane n) => n.val
    let bits := [(l.muted, 1), (l.held, 2), (v.groupMutes[0], 16), (v.groupMutes[1], 32), (v.groupMutes[2], 64),
      (v.groupMutes[3], 128)]
    has (.layer v) 0x89
      ([0, one v.slot.val, one l.state.number, one origin, one l.multiple, one (l.k.getD 255)] ++ four l.start ++
        four l.len ++ two l.gain ++ [one l.pan] ++ two l.fade ++
        [one l.group.val, one (bits.map fun x => if x.1 then x.2 else 0).sum, one v.stackPos, one v.redoPos] ++
        three l.lost ++ two l.dropouts ++ two v.pagesHeld ++ [one l.extents.length] ++
        l.extents.flatMap fun e => two e.first ++ two e.count)) ∧
  (∀ v : StoreView,
    let port := match v.port with
      | .free => [0]
      | .drain r => [1, 0, one r.val]
      | .refill sl => [1, 1, one sl.val]
      | .bounce => [1, 2]
    has (.store v) 0x89
      ([0, if v.present then 0 else 1] ++ two v.pages ++ two v.freePages ++ two v.recordingPages ++ two v.activePages ++
        two v.parkedPages ++ two v.buildingPages ++ two v.freeRuns ++ two v.longestRun ++ two v.lowestFree ++ port ++
        [one v.credit, one v.drains, one v.refills, flag v.bouncePending, one v.unprimed])) ∧
  (∀ v : BusyView,
    let recorder := fun q : RecorderView =>
      [one q.state.number, flag q.tail, one ((q.lane.map Fin.val).getD 255), one ((q.slot.map Fin.val).getD 255)] ++
        two q.stored
    has (.busy v) 0x89
      ([0, one v.state.number, one v.cycleLen, one v.beatLen] ++ v.recorders.flatMap recorder ++
        [one v.busyMask, flag v.running, one v.result] ++ four v.progress ++ four v.total ++ two v.clips ++
        [one v.frames] ++ two v.bytes ++ [one v.omitted])) ∧
  (∀ (v : BoundaryView) (b0 b1 b2 b3 : Band), v.bands = [b0, b1, b2, b3] →
    has (.boundary v) 0x41
      (two v.c ++
        [one v.beat, one v.state.number, one (b0.number + 4 * b1.number + 16 * b2.number + 64 * b3.number),
          one (v.busyMask + if v.bouncing then 16 else 0)] ++
        two v.mainClips ++ two v.monClips ++ [one v.omitted])) ∧
  ∀ (tag : Byte) (kind : CueKind) (code : Code) (r : Recorder) (sl : Slot) (reason : EndReason) (n len lost pages : Nat)
    (result : BounceResult) (lane : Lane) (old new : Band) (fault : FaultReason) (cause : WakeCause),
    has (.cueFired tag kind code n) 0x42 [tag, one kind.number, one code.number, one n] ∧
    has (.takeEnd r sl reason len lost pages) 0x43
      ([one r.val, one sl.val, one reason.number] ++ four len ++ three lost ++ two pages) ∧
    has (.bounceEnd result sl n pages len lost) 0x44
      ([one result.number, one sl.val, one n] ++ two pages ++ four len ++ two lost) ∧
    has (.level lane old new) 0x45 [one lane.val, one old.number, one new.number] ∧
    has (.frameFault fault tag) 0x46 [one fault.number, tag] ∧
    has (.woke cause n pages) 0x47 ([one cause.number, one n] ++ two pages)

/-- The timeout discards the frame in RECEIVING and does nothing in HUNTING; a frame starts when the transmitter is IDLE, a frame waits
and HOLD is low, as SYNC, LEN, KIND, payload and CHECK; HOLD is a level that holds back starts alone. -/
def Obligations.LineRowsAreAsR166AndR171Give : Prop :=
  ∀ s : State,
    (quiet s → isRunning s = true →
      (s.link.parser = .hunting → exec .interByteTimeout s = .next s) ∧
      ∀ held, s.link.parser = .receiving held →
        exec .interByteTimeout s =
          .next
            (({ s with
              link :=
                { s.link with
                  parser := .hunting
                  rdy :=
                    if (s.link.frames.map fun f => f.payload.length + 4).sum ≤ 64 then true else s.link.rdy } } :
              State).reported 31 (.frameFault .timeout (held.getD 2 0)))) ∧
    (isRunning s = true → ∀ m rest, s.link.outQ = m :: rest → s.link.tx = .idle → s.link.hold = false →
      exec .frameStart s = .next { s with link := { s.link with tx := .sending m.bytes } } ∧
      (∃ check, m.bytes =
          [0xC3, BitVec.ofNat 8 m.payload.length, BitVec.ofNat 8 m.kind] ++ m.payload ++ [check]) ∧
      (m.bytes.tail.map BitVec.toNat).sum % 256 = 0) ∧
    (s.link.outQ = [] ∨ s.link.tx ≠ .idle ∨ s.link.hold = true → exec .frameStart s = .next s) ∧
    (quiet s → exec .holdAsserted s = .next { s with link := { s.link with hold := true } }) ∧
    (quiet s → isRunning s = true →
      (∀ m rest, s.link.outQ = m :: rest → s.link.tx = .idle →
        exec .holdDeasserted s = .next { s with link := { s.link with hold := false, tx := .sending m.bytes } }) ∧
      (s.link.outQ = [] ∨ s.link.tx ≠ .idle →
        exec .holdDeasserted s = .next { s with link := { s.link with hold := false } }))

/-- The last stop bit of a frame: the frame leaves the queue and the transmitter is IDLE. Behind the reply of a RESTART the part takes its
values after power-on, the loop memory, HOLD, WAKE and the queue of commands kept, which is the model's choice (log 8); with the outgoing
queue empty in DRAINING the part goes to rest or returns to AWAKE. The entry into rest ends a click burst that a HALT has left (log 25). -/
def Obligations.FrameSentLeavesTheQueue : Prop :=
  ∀ (s : State) (bytes : List Byte) (m : Message) (rest : List Message),
    quiet s → isRunning s = true → s.link.tx = .sending bytes → s.link.outQ = m :: rest →
    let sent : State := { s with link := { s.link with outQ := rest, tx := .idle } }
    let restarts := s.rest.restartPending = true ∧ m = .accepted 0x0B
    let drained := s.rest.run = .draining ∧ rest = []
    (¬restarts → ¬drained → exec .frameSent s = .next sent) ∧
    (restarts →
      exec .frameSent s =
        .next
          { State.reset with
            mem := s.mem
            link := { State.reset.link with hold := s.link.hold }
            rest := { State.reset.rest with cause := .restart, wake := s.rest.wake }
            openOrders := s.openOrders
            pending := s.pending }) ∧
    (¬restarts → drained →
      let awake := { sent with rest := { s.rest with run := .awake } }
      let busy := (s.transport.state ≠ .idle ∧ s.transport.state ≠ .halted) ∨ ∃ r, (s.recorder r).state ≠ .idle
      (receivedBytes s.link ≠ 0 ∨ s.rest.linkActivity = true →
        exec .frameSent s = .next (awake.reported 31 (.woke .linkActivity 0 s.store.pages))) ∧
      (receivedBytes s.link = 0 → s.rest.linkActivity = false → busy → exec .frameSent s = .next awake) ∧
      (receivedBytes s.link = 0 → s.rest.linkActivity = false → ¬busy →
        exec .frameSent s =
          .next
            { sent with
              store := { s.store with windowPos := 128, credit := 0, stalled := false, transfer := none }
              mix :=
                { s.mix with burstPos := none, burstEnding := false, formed := ⟨0, 0, 0, 0⟩, frame := ⟨0, 0, 0, 0⟩ }
              link := { s.link with outQ := [], tx := .idle, rdy := false }
              rest :=
                if s.rest.wake = true then
                  { s.rest with
                    run := .starting, cause := .wakeLine, discarded := 0, linkActivity := false, probing := false }
                else { s.rest with run := .rest } }))

/-! ## The sample clock -/

/-- A sample period, whichever recorders record, but for a FREE base take that finds no page (BaseTakesRunOut): the recorders take their
samples (`State.recordedInto`), and then lanes, both buses with click and clip counts, buffers, playhead, pulse and port count on as
`State.sampled` gives: with no recorder RECORDING nothing comes between. What these counts bring stands to be taken: p at L, a window
position of 480, and the mark `beatDue`, all of the same sample period (log 1). A sample period that finds a port window over begins the
next one: it acts as on the state that PORT_WINDOW_START and the arbiter's decision under the credit of 40 give. The order in which several
recorders find a page is left open (log 5), and a click burst that a HALT or an abort has ended does not sound, whatever the state (the mark
`burstEnding`, log 25). -/
def Obligations.SamplePeriodFormsTheMix : Prop :=
  ∀ (s : State) (x0 x1 x2 x3 : BitVec 24),
    quiet s → isRunning s = true →
    let x : Lane → Int := fun l => if l = 0 then x0.toInt else if l = 1 then x1.toInt else if l = 2 then x2.toInt else x3.toInt
    (s.store.windowPos < 128 → (∀ r, (s.recorder r).state ≠ .recording) →
      exec (.samplePeriod x0 x1 x2 x3) s = .next (s.sampled x)) ∧
    (s.store.windowPos < 128 → s.transport.state ≠ .priming →
      (s.transport.state = .defining → s.transport.mode = .free → ∀ r sl reason, (s.recorder r).state = .recording →
        (s.recorder r).slot = some sl → 0 < (s.layer sl).len → (s.layer sl).len % 4096 = 0 →
        ¬s.pageFails (s.layer sl) reason) →
      ∃ u, s.recordedInto u ∧ exec (.samplePeriod x0 x1 x2 x3) s = .next (u.sampled x)) ∧
    (s.store.windowPos = 128 →
      let begun : State := { s with store := { s.store with windowPos := 0, credit := 40, stalled := false } }
      exec .portWindowStart s = .next begun ∧
        ∃ u, exec .portGrant begun = .next u ∧ quiet u ∧ u.store.windowPos = 0 ∧
          exec (.samplePeriod x0 x1 x2 x3) s = exec (.samplePeriod x0 x1 x2 x3) u)

/-- A sample period with one take running: its value joins the FIFO, or is lost into the gap, or a gap of 65,535 first becomes zero-fill;
a sample that opens a page takes the lowest one, which lengthens the last extent or starts a new one; and a take that is not the base
take and finds none, or needs a 17th extent, ends MEMORY_FULL or EXTENTS_FULL, its layer handed over where nothing is left to drain.
Lanes, buses, buffers, playhead, pulse and port then count on as in any sample period (`State.sampled`, log 1). -/
def Obligations.SamplePeriodRecordsATake : Prop :=
  ∀ (s : State) (x0 x1 x2 x3 : BitVec 24) (r : Recorder) (l : Lane) (sl : Slot),
    quiet s → isRunning s = true → s.store.windowPos < 128 →
    (s.recorder r).state = .recording → (s.recorder r).lane = some l → (s.recorder r).slot = some sl →
    (∀ q, q ≠ r → (s.recorder q).state ≠ .recording) →
    let q := s.recorder r
    let k := s.layer sl
    let x : Lane → Int := fun l => if l = 0 then x0.toInt else if l = 1 then x1.toInt else if l = 2 then x2.toInt else x3.toInt
    let v := s.storedValue x l
    let opens := 0 < k.len ∧ k.len % 4096 = 0
    let result := fun (rec : RecorderRec) (layer : LayerRec) (pool : List Nat) =>
      exec (.samplePeriod x0 x1 x2 x3) s =
        .next
          (({ s with
            takes := { s.takes with recs := s.takes.recs.set r.val rec }
            table := { s.table with layers := s.table.layers.set sl.val layer }
            store := { s.store with pool := pool } } : State).sampled x)
    (¬opens → result (q.storing k.len v) (k.storing q) s.store.pool) ∧
    (∀ page pool, opens → s.store.pool = page :: pool →
      (∀ older e, k.extents = older ++ [e] → e.first + e.count = page →
        result (q.storing k.len v) { k.storing q with extents := older ++ [⟨e.first, e.count + 1⟩] } pool) ∧
      (∀ older e, k.extents = older ++ [e] → e.first + e.count ≠ page → k.extents.length < 16 →
        result (q.storing k.len v) { k.storing q with extents := k.extents ++ [⟨page, 1⟩] } pool)) ∧
    ∀ reason, opens → s.pageFails k reason → q.base = false → q.tail = false →
      (q.filled ≠ [] ∨ q.inFlight = true →
        result (q.spent reason) { k with state := .closing, lost := k.lostIn q } s.store.pool) ∧
      (q.filled = [] → q.inFlight = false →
        exec (.samplePeriod x0 x1 x2 x3) s = .next ((s.withTakeHandedOver r sl reason).sampled x))

/-- Several takes at one sample period: where none needs a page, each is recorded as if it were alone. Where two need one, each
acquisition finds the pool as the one before it has left it: with two pages free each take gets one, with one page free one take gets
it and the other ends MEMORY_FULL; which comes first is open (log 5). The rest of the sample period is as in any (`State.sampled`). -/
def Obligations.TakesShareASamplePeriod : Prop :=
  ∀ (s : State) (x0 x1 x2 x3 : BitVec 24),
    quiet s → isRunning s = true → s.store.windowPos < 128 →
    let x : Lane → Int := fun l => if l = 0 then x0.toInt else if l = 1 then x1.toInt else if l = 2 then x2.toInt else x3.toInt
    let recording := fun r : Recorder => (s.recorder r).state = .recording
    let opens := fun sl : Slot => 0 < (s.layer sl).len ∧ (s.layer sl).len % 4096 = 0
    let stored := fun (t : State) (r : Recorder) (sl : Slot) (l : Lane) =>
      t.recorder r = (s.recorder r).storing (s.layer sl).len (s.storedValue x l)
    (∀ r, recording r → (s.recorder r).lane ≠ none ∧
        ∃ sl, (s.recorder r).slot = some sl ∧ (s.layer sl).state = .recording) →
    (∀ r q sl, recording r → recording q → (s.recorder r).slot = some sl → (s.recorder q).slot = some sl → r = q) →
    ((∀ r sl, recording r → (s.recorder r).slot = some sl → ¬opens sl) →
      ∃ t, exec (.samplePeriod x0 x1 x2 x3) s = .next (t.sampled x) ∧
        t = { s with takes := { s.takes with recs := t.takes.recs }, table := { s.table with layers := t.table.layers } } ∧
        (∀ r, ¬recording r → t.recorder r = s.recorder r) ∧
        (∀ sl, (∀ r, recording r → (s.recorder r).slot ≠ some sl) → t.layer sl = s.layer sl) ∧
        ∀ r sl l, recording r → (s.recorder r).slot = some sl → (s.recorder r).lane = some l →
          stored t r sl l ∧ t.layer sl = (s.layer sl).storing (s.recorder r)) ∧
    ∀ (r q : Recorder) (sl sm : Slot) (l m : Lane) (a : Nat) (pool : List Nat),
      (∀ y, recording y ↔ y = r ∨ y = q) → r ≠ q → (s.recorder r).slot = some sl → (s.recorder q).slot = some sm →
      (s.recorder r).lane = some l → (s.recorder q).lane = some m → (s.recorder r).base = false →
      (s.recorder q).base = false → opens sl → opens sm → (s.layer sl).extents.length < 16 →
      (s.layer sm).extents.length < 16 → s.store.pool = a :: pool →
      let given := fun (t : State) (r : Recorder) (sl : Slot) (l : Lane) (page : Nat) =>
        stored t r sl l ∧ t.layer sl = { (s.layer sl).storing (s.recorder r) with extents := (t.layer sl).extents } ∧
          pagesOf (t.layer sl).extents = pagesOf (s.layer sl).extents ++ [page]
      let out := fun (t : State) (r : Recorder) (sl : Slot) =>
        t.recorder r = (s.recorder r).spent .memoryFull ∧
          t.layer sl = { s.layer sl with state := .closing, lost := (s.layer sl).lostIn (s.recorder r) }
      ∃ t, exec (.samplePeriod x0 x1 x2 x3) s = .next (t.sampled x) ∧ t.openOrders = s.openOrders + 1 ∧
        ((∃ b, b ∈ pool) ∨ ((s.recorder r).filled ≠ [] ∧ (s.recorder q).filled ≠ []) →
          t =
            { s with
              takes := { s.takes with recs := (s.takes.recs.set r.val (t.recorder r)).set q.val (t.recorder q) }
              table := { s.table with layers := (s.table.layers.set sl.val (t.layer sl)).set sm.val (t.layer sm) }
              store := { s.store with pool := t.store.pool }
              openOrders := s.openOrders + 1 }) ∧
        (∀ b rest, pool = b :: rest → t.store.pool = rest ∧
          ((given t r sl l a ∧ given t q sm m b) ∨ (given t r sl l b ∧ given t q sm m a))) ∧
        (pool = [] → (s.recorder r).filled ≠ [] → (s.recorder q).filled ≠ [] →
          t.store.pool = [] ∧ ((given t r sl l a ∧ out t q sm) ∨ (out t r sl ∧ given t q sm m a)))

/-- A base take that runs out of pages or extents: in GRID DEFINING close pending is set, the recorder is in CLOSING and the layer stays in
RECORDING; in FREE DEFINING with p at 4,800 or more and no cue waiting the cycle closes at once with L = p and the recorded reason, and the
sample period is the first of the running cycle (log 10), the recorder in its tail drain keeping its end reason (log 22) and its base flag
(log 26) and TAKE_END standing before BOUNDARY (log 24); below 4,800 the base take is aborted, with TAKE_END ABORTED, and the sample period
counts on. The mark by which the abort ends the click burst is log 25, though none sounds in FREE DEFINING. -/
def Obligations.BaseTakesRunOut : Prop :=
  ∀ (s : State) (x0 x1 x2 x3 : BitVec 24) (r : Recorder) (l : Lane) (sl : Slot) (reason : EndReason),
    quiet s → isRunning s = true → s.store.windowPos < 128 → s.transport.state = .defining →
    (s.recorder r).state = .recording → (s.recorder r).base = true → (s.recorder r).tail = false →
    (s.recorder r).lane = some l → (s.recorder r).slot = some sl →
    (∀ q, q ≠ r → (s.recorder q).state ≠ .recording ∧ (s.recorder q).base = false) →
    0 < (s.layer sl).len → (s.layer sl).len % 4096 = 0 → s.pageFails (s.layer sl) reason →
    let spent : State :=
      { s with
        takes := { s.takes with recs := s.takes.recs.set r.val ((s.recorder r).spent reason) }
        table :=
          { s.table with
            layers := s.table.layers.set sl.val { s.layer sl with lost := (s.layer sl).lostIn (s.recorder r) } } }
    let x : Lane → Int := fun l => if l = 0 then x0.toInt else if l = 1 then x1.toInt else if l = 2 then x2.toInt else x3.toInt
    (s.transport.mode = .grid →
      exec (.samplePeriod x0 x1 x2 x3) s =
        .next (({ spent with transport := { s.transport with closePending := true } } : State).sampled x)) ∧
    (s.transport.mode = .free → 4800 ≤ s.transport.p → s.cues = ⟨[], []⟩ →
      exec (.samplePeriod x0 x1 x2 x3) s =
        .next (((spent.withBaseTakeClosed r sl 1 s.transport.p 0).boundaryReported 0).sampled x)) ∧
    (s.transport.mode = .free → s.transport.p < 4800 →
      ∃ u, baseTakeAborted r spent u ∧ exec (.samplePeriod x0 x1 x2 x3) s = .next (u.sampled x))

/-- An ordinary cycle start: p = 0, c and, in GRID DEFINING, the cycles recorded advance, every layer cycle advances modulo its multiple, a
click burst and a pulse begin, and BOUNDARY is raised. The entries of the cycle queue that are due, and then the whole beat queue, fire in
order, before or after the BOUNDARY report: the control link and the cue queues take the event whole, one after the other, in an order that
the spec leaves open (log 5); entries that are not due stay. Shown once more for one due MUTE of a group. That the new click burst clears
the mark of an ended one is log 25. -/
def Obligations.CycleStartsAdvanceTheSong : Prop :=
  ∀ (s : State) (L : Nat),
    isRunning s = true → s.transport.length = some L → s.transport.p = L → (∀ r, takeFullDue s r = false) →
    (s.transport.state = .running ∨
      (s.transport.state = .defining ∧ s.transport.mode = .grid ∧ s.transport.closePending = false ∧
        s.transport.cyclesRecorded ≠ 7)) →
    let due := isDue ((s.transport.c + 1) % 65536)
    (¬s.firesAny due → exec .cycleStart s = .next (s.cycleStarted.boundaryReported 0)) ∧
    (s.firesAny due → s.walkRuns due →
      ∃ t, exec .cycleStart s = .next t ∧ takenInEitherOrder 0 (fun u v => v = u.cuesFired due) s.cycleStarted t) ∧
    ∀ (early late : List CueEntry) (e : CueEntry) (g : Group),
      s.cues.beat = [] → s.cues.cycle = early ++ e :: late → (∀ y ∈ early ++ late, due y = false) →
      due e = true → e.kind = .mute → e.p1 = 1 → e.p2.toNat = g.val →
      ∃ t, exec .cycleStart s = .next t ∧
        takenInEitherOrder 0
          (fun u v =>
            v =
              ({ u with
                cues := ⟨early ++ late, []⟩
                table := { u.table with groupMutes := u.table.groupMutes.set g.val true } } : State).reported 31
                (.cueFired e.tag .mute .ok 255))
          s.cycleStarted t

/-- A beat boundary: a click burst of half the amplitude, a pulse in mode BEAT alone, BOUNDARY where beat reports are on; every entry of the
beat queue fires in order, where beat reports are on before or after the BOUNDARY report (log 5), and the cycle queue stays. Shown once more
for a MUTE and an UNMUTE of a group. That the new click burst clears the mark of an ended one is log 25. -/
def Obligations.BeatBoundariesFireTheBeatQueue : Prop :=
  ∀ (s : State) (b : Nat),
    isRunning s = true → s.transport.moves = true → s.transport.beatDue = true → (∀ r, takeFullDue s r = false) →
    currentBeat (s.transport.length.getD 0) s.transport.beats s.transport.p = b → 0 < b →
    (s.cues.beat = [] →
      exec .beatBoundary s = .next (if s.link.beatReports = true then s.beatBegun.boundaryReported b else s.beatBegun)) ∧
    (s.cues.beat ≠ [] → (s.walkRuns fun _ => false) →
      (s.link.beatReports = false → exec .beatBoundary s = .next (s.beatBegun.cuesFired fun _ => false)) ∧
      (s.link.beatReports = true →
        ∃ t, exec .beatBoundary s = .next t ∧ takenInEitherOrder b (fun u v => v = u.cuesFired fun _ => false) s.beatBegun t)) ∧
    ∀ (e f : CueEntry) (g h : Group), s.link.beatReports = false → s.cues.beat = [e, f] →
      e.kind = .mute → e.p1 = 1 → e.p2.toNat = g.val → f.kind = .unmute → f.p1 = 1 → f.p2.toNat = h.val →
      exec .beatBoundary s =
        .next
          ((({ s.beatBegun with
            cues := { s.cues with beat := [] }
            table :=
              { s.table with groupMutes := (s.table.groupMutes.set g.val true).set h.val false } } : State).reported 31
            (.cueFired e.tag .mute .ok 255)).reported 31 (.cueFired f.tag .unmute .ok 255))

/-- An entry that fires is evaluated and takes effect as the same cue with quantisation NONE: the outcome and the affected field that the
reply would carry stand in its CUE_FIRED, which is raised before the effect. -/
def Obligations.FiredCuesActAsTheSameCueTaken : Prop :=
  ∀ (s : State) (e : CueEntry) (i : Instr),
    ready s → e.command = some i → paramsInRange e.kind e.p1 e.p2 e.p3 = true →
    ∃ (code : Code) (affected cycle beat : Nat),
      let effect := fun u : State => if code = .ok then applyQueued e.kind e.p1 e.p2 e.p3 u else u
      exec i s = .next (effect (s.queued [.cue code e.tag affected cycle beat])) ∧
        fireEntry e s = effect (s.reported 31 (.cueFired e.tag e.kind code affected))

/-- A walk ends with the entry whose firing empties the queues, behind whatever fires before it: a HALT in RUNNING, with the running takes
ended, a running job aborted and every entry left cancelled, those blocks in an open order (`haltTaken`); in GRID DEFINING an UNDO that
aborts the base take, every entry left cancelled. Both at a cycle start and at a beat boundary, from the cycle queue and from the beat
queue. The BOUNDARY report comes before or after all of it (log 5), with the counter of the event. The mark by which the next sample period
ends the click burst is log 25. -/
def Obligations.WalksEndWithAHaltOrAnAbort : Prop :=
  ∀ (s : State) (L : Nat) (before : List CueEntry) (e : CueEntry) (left : CueQueues),
    isRunning s = true → s.transport.length = some L → (∀ r, takeFullDue s r = false) →
    let due := isDue ((s.transport.c + 1) % 65536)
    let halts := fun u v : State => haltTaken ((u.walked before left).reported 31 (.cueFired e.tag .halt .ok 255)) v
    let aborts := fun (r : Recorder) (sl : Slot) (u v : State) =>
      baseTakeAborted r ((u.walked before left).reported 31 (.cueFired e.tag .undo .ok sl.val)) v
    let halting := s.transport.state = .running ∧ e.kind = .halt ∧
      (∀ y ∈ before, y.kind ≠ .halt ∧ (y.kind = .undo → s.undoSpares)) ∧
      ∀ q, (s.recorder q).state = .recording → (s.recorder q).base = false → (s.recorder q).tail = false
    let undoing := fun (w : State) (r : Recorder) (sl : Slot) =>
      s.transport.state = .defining ∧ s.transport.mode = .grid ∧ e.kind = .undo ∧ (∀ y ∈ before, y.kind ≠ .undo) ∧
        (w.recorder r).base = true ∧ (w.recorder r).slot = some sl ∧
        ((w.layer sl).state = .recording ∨ (w.layer sl).state = .closing) ∧
        ∃ older newer, w.takes.order = older ++ r :: newer ∧
          ∀ q ∈ newer, ∀ x, (w.recorder q).slot = some x → (w.layer x).state ≠ .recording ∧ (w.layer x).state ≠ .closing
    (s.transport.p = L → s.firesBehind due before e left →
      (halting → ∃ t, exec .cycleStart s = .next t ∧ takenInEitherOrder 0 halts s.cycleStarted t) ∧
      ∀ r sl, undoing (s.cycleStarted.walked before left) r sl → s.transport.closePending = false →
        s.transport.cyclesRecorded ≠ 7 →
        ∃ t, exec .cycleStart s = .next t ∧ takenInEitherOrder 0 (aborts r sl) s.cycleStarted t) ∧
    ∀ b, s.transport.beatDue = true → s.firesBehind (fun _ => false) before e left → 0 < b →
      currentBeat L s.transport.beats s.transport.p = b →
      let taken := fun (fires : State → State → Prop) =>
        ∃ t, exec .beatBoundary s = .next t ∧ (s.link.beatReports = false → fires s.beatBegun t) ∧
          (s.link.beatReports = true → takenInEitherOrder b fires s.beatBegun t)
      (halting → taken halts) ∧ ∀ r sl, undoing (s.beatBegun.walked before left) r sl → taken (aborts r sl)

/-- The counts that run out: the pulse falls, the click burst ends, and a port window of 128 sample periods is followed by the next
with a credit of 40. That each count stands at its end until its row takes it is log 1, that a row whose count has not run out changes
nothing is the model's choice (log 4), and the mark `stalled` that a new window clears is log 18. -/
def Obligations.CountsRunOut : Prop :=
  ∀ s : State, isRunning s = true →
    exec .pulseEnd s =
      .next
        (if s.transport.pin = true ∧ s.transport.pulseRemaining = 0 then
          { s with transport := { s.transport with pin := false } }
        else s) ∧
    exec .clickBurstEnd s =
      .next (if s.mix.burstPos = some 480 then { s with mix := { s.mix with burstPos := none } } else s) ∧
    exec .portWindowStart s =
      .next
        (if s.store.windowPos = 128 then
          { s with store := { s.store with windowPos := 0, credit := 40, stalled := false } }
        else s)

/-- A window end: the window is given a band by its peak, and the lane's current band and below-count are judged by it. -/
def Obligations.WindowEndsJudgeTheBand : Prop :=
  ∀ (s : State) (n : Lane),
    isRunning s = true → (s.lane n).pos = 480 →
    let l := s.lane n
    let w : Band :=
      if 8388607 ≤ l.peak then .clip else if l.tNom ≤ l.peak then .nominal else if l.tLow ≤ l.peak then .low else .silent
    let judged : Band × Nat :=
      if l.band.number < w.number then (w, 0)
      else if w = l.band then (l.band, 0)
      else if l.below = 7 then (w, 0)
      else (l.band, l.below + 1)
    ∃ t, exec (.windowEnd n) s = .next t ∧ (t.lane n).band = judged.1 ∧ (t.lane n).below = judged.2 ∧
      ∀ m, m ≠ n → (t.lane m).band = (s.lane m).band ∧ (t.lane m).below = (s.lane m).below

/-- A window end begins the window anew, and a change of the band whose mask bit is set is reported. In IDLE an armed lane that rises to
NOMINAL or CLIP evaluates START_BASE and reports its outcome with tag 255 behind that report: the first admission test that fails, or the
base take that begins, in FREE mode, or in GRID mode with no cue waiting, the cycle start's BOUNDARY behind CUE_FIRED. The window position
480 between the sample period and this row is an intermediate count of the model's (log 1). That the click burst of a GRID start clears the
mark of an ended one is log 25. -/
def Obligations.WindowEndsReportAndStart : Prop :=
  ∀ (s : State) (n : Lane),
    isRunning s = true → (s.lane n).pos = 480 →
    let l := s.lane n
    let w : Band :=
      if 8388607 ≤ l.peak then .clip else if l.tNom ≤ l.peak then .nominal else if l.tLow ≤ l.peak then .low else .silent
    let judged : Band × Nat :=
      if l.band.number < w.number then (w, 0)
      else if w = l.band then (l.band, 0)
      else if l.below = 7 then (w, 0)
      else (l.band, l.below + 1)
    let mask := if l.band.number < judged.1.number then l.riseMask else l.fallMask
    let ended : State :=
      { s with lanes := s.lanes.set n.val { l with band := judged.1, below := judged.2, peak := 0, pos := 0 } }
    let told :=
      if judged.1 ≠ l.band ∧ mask.testBit judged.1.number = true then
        ended.reported 24 (.level n l.band judged.1)
      else ended
    let starts := l.armed = true ∧ s.transport.state = .idle ∧ l.band.number < judged.1.number ∧ 2 ≤ judged.1.number
    (¬starts → exec (.windowEnd n) s = .next told) ∧
    (starts → ∀ code, s.startFails n code →
      exec (.windowEnd n) s = .next (told.reported 31 (.cueFired 255 .startBase code 255))) ∧
    ∀ page rest, starts → l.enable = true → s.store.pages ≠ 0 → s.store.pool = page :: rest →
      (∀ sl, (s.layer sl).state = .free) → (∀ r, (s.recorder r).state = .idle) → s.table.redo = [] →
      let fired := told.reported 31 (.cueFired 255 .startBase .ok 0)
      (s.transport.mode = .free → exec (.windowEnd n) s = .next (fired.withFreeBaseTake n page rest)) ∧
      (s.transport.mode = .grid → s.cues = ⟨[], []⟩ →
        exec (.windowEnd n) s = .next ((fired.withGridBaseTake n page rest).boundaryReported 0))

/-! ## The memory port -/

/-- The arbiter's decision with the port FREE, credit left and no refill that needs no read: the real-time request of least slack is
chosen, recorders before layers and the lower number first at equal slack. A drain is granted; a refill is granted at the cost of its
reads, or waits for the next window where they exceed the credit, and nothing else is granted in its place (the mark `stalled`,
log 18). With no real-time request the bounce engine is granted; with none at all nothing changes. -/
def Obligations.PortGrantsByLeastSlack : Prop :=
  ∀ s : State,
    isRunning s = true → s.store.transfer = none → 0 < s.store.credit → s.store.stalled = false →
    (∀ x b, refillPending s x = true → s.buffer x = some b →
      ∃ e ∈ s.nextRefill x b, e.value ≠ none ∧ fromFifo s x e.offset = false) →
    let drains := fun r : Recorder => drainPending (s.recorder r) = true
    let refills := fun x : Slot => refillPending s x = true
    let slack := fun r : Recorder => 512 - storedCount (s.recorder r).fifo
    let fill := fun x : Slot =>
      match s.buffer x with
      | none => 0
      | some b => b.entries.length
    (∀ r, drains r → (∀ q, drains q → slack r < slack q ∨ (slack r = slack q ∧ r ≤ q)) →
      (∀ x, refills x → slack r ≤ fill x) →
      let n := min 128 (min (4096 - (s.recorder r).cursor % 4096) (fifoOffsets (s.recorder r).fifo))
      exec .portGrant s =
        .next
          { s with
            store := { s.store with transfer := some ⟨.drain r n, 3⟩, credit := s.store.credit - 1 }
            takes :=
              { s.takes with recs := s.takes.recs.set r.val { s.recorder r with inFlight := true } } }) ∧
    (∀ sl b, refills sl → s.buffer sl = some b → (∀ r, drains r → fill sl < slack r) →
      (∀ x, refills x → fill sl < fill x ∨ (fill sl = fill x ∧ sl ≤ x)) →
      let entries := s.nextRefill sl b
      let reads := refillReads s sl entries
      (reads ≤ s.store.credit →
        exec .portGrant s =
          .next
            { s with
              store :=
                { s.store with
                  transfer := some ⟨.refill sl entries, 3 * reads⟩, credit := s.store.credit - reads
                  buffers := s.store.buffers.set sl.val (some { b with inFlight := true }) } }) ∧
      (s.store.credit < reads → exec .portGrant s = .next { s with store := { s.store with stalled := true } })) ∧
    ((∀ r, ¬drains r) → (∀ x, ¬refills x) →
      (∀ ch, s.job.running = true → s.job.inFlight = false → s.job.chunk = some ch →
        (ch.pieces ≠ [] ∨ ch.phase = .write) →
        exec .portGrant s =
          .next
            { s with
              store :=
                { s.store with
                  transfer := some ⟨if ch.phase = .write then .bounceWrite else .bounceRead, 3⟩
                  credit := s.store.credit - 1 }
              job := { s.job with inFlight := true } }) ∧
      (s.job.running = false ∨ s.job.inFlight = true ∨ s.job.chunk = none → exec .portGrant s = .next s))

/-- A drain burst completes with samples left to drain or to come: its values, zeros for zero-fill, stand in memory from the write
cursor's address on and every other byte is as before; they leave the FIFO, the cursor advances and the port is FREE. A refill lands:
its entries join the buffer, the stale ones leave it, the layer is primed, and its next request is raised. The order of a sample's two
bytes is the model's choice (log 6), and so is that a completion acts with one sample period left as well as with none (log 13). -/
def Obligations.DrainsAndRefillsComplete : Prop :=
  ∀ (s : State) (sl : Slot) (left : Nat),
    isRunning s = true → left ≤ 1 →
    (∀ (r : Recorder) (n a : Nat), s.store.transfer = some ⟨.drain r n, left⟩ → (s.recorder r).slot = some sl →
      n ≤ fifoOffsets (s.recorder r).fifo →
      ((s.recorder r).state ≠ .closing ∨ n < fifoOffsets (s.recorder r).fifo ∨ 0 < (s.recorder r).gap) →
      offsetAddress (s.layer sl).extents (s.recorder r).cursor = some a → memoryCanonical s →
      (∀ i v, fifoValue (s.recorder r).fifo i = some v → -32768 ≤ v ∧ v ≤ 32767) →
      ∃ t fifo, exec .drainBurstComplete s = .next t ∧
        (∀ i, i < n → fifoValue (s.recorder r).fifo i = some (readSample t.mem (a + i))) ∧
        (∀ b, b < 2 * a ∨ 2 * (a + n) ≤ b → readByte t.mem b = readByte s.mem b) ∧
        (∀ i, fifoValue fifo i = fifoValue (s.recorder r).fifo (n + i)) ∧
        t =
          { s with
            mem := t.mem
            store := { s.store with transfer := none }
            takes :=
              { s.takes with
                recs := s.takes.recs.set r.val
                  { s.recorder r with fifo := fifo, cursor := (s.recorder r).cursor + n, inFlight := false } } }) ∧
    ∀ (b : Stream) (entries : List Entry), s.store.transfer = some ⟨.refill sl entries, left⟩ → s.buffer sl = some b →
      let free : State :=
        { s with
          store :=
            { s.store with
              transfer := none, buffers := s.store.buffers.set sl.val (some { b with inFlight := false }) } }
      exec .refillLanding s =
        .next ((free.withEntriesLanded sl { b with inFlight := false } entries).withRefillRaised sl)

/-- The last burst of a recorder in CLOSING: its values stand in memory and every other byte is as before. A take hands its layer over,
ACTIVE at the top of the stack, with TAKE_END for its reason, and its recorder is IDLE; at the end of the tail drain the recorder is
IDLE with no report; an exhausted base take waits in CLOSING for the closure. Bytes and address are laid out as the model chooses
(log 6); a completion acts with one sample period left as well as with none (log 13). -/
def Obligations.FinishedDrainsHandOver : Prop :=
  ∀ (s : State) (r : Recorder) (sl : Slot) (n a left : Nat),
    isRunning s = true → left ≤ 1 → s.store.transfer = some ⟨.drain r n, left⟩ → (s.recorder r).slot = some sl →
    (s.recorder r).state = .closing → (s.recorder r).gap = 0 → n = fifoOffsets (s.recorder r).fifo →
    (∀ m, FifoEntry.zeros m ∈ (s.recorder r).fifo → 0 < m) →
    offsetAddress (s.layer sl).extents (s.recorder r).cursor = some a → memoryCanonical s →
    (∀ i v, fifoValue (s.recorder r).fifo i = some v → -32768 ≤ v ∧ v ≤ 32767) →
    let q := s.recorder r
    ∃ mem : List Host.Cell,
      (∀ i, i < n → fifoValue q.fifo i = some (readSample mem (a + i))) ∧
      (∀ b, b < 2 * a ∨ 2 * (a + n) ≤ b → readByte mem b = readByte s.mem b) ∧
      let written : State := { s with mem := mem, store := { s.store with transfer := none } }
      (∀ reason, q.tail = false → q.base = false → q.endReason = some reason →
        exec .drainBurstComplete s = .next (written.withTakeHandedOver r sl reason)) ∧
      (q.tail = true →
        exec .drainBurstComplete s =
          .next
            { written with
              takes := { recs := s.takes.recs.set r.val RecorderRec.idle, order := s.takes.order.filter (· != r) } }) ∧
      (q.tail = false → q.base = true →
        exec .drainBurstComplete s =
          .next
            { written with
              takes :=
                { s.takes with
                  recs := s.takes.recs.set r.val
                    { q with fifo := [], cursor := q.cursor + n, inFlight := false } } })

/-- A bounce read that is not the last of its source adds, to the partial sum of each place of its piece, the recorded value times the
effective gain; a chunk write stores the rounded and saturated sums at the chunk's place in the result and no other byte, and the next
chunk is taken on from sums of 0. The last write frees the sources with their pages, and a recorder in the tail drain of one, puts the
result in the newest source's place in the stack with the anchor's layer cycle, its buffer and its refill request, and reports DONE; in
PRIMING the transport may thereby enter RUNNING (`State.withBounceDone`). The byte addresses of a sample are laid out as the model
chooses (log 6), a completion acts with one sample period left as well as with none (log 13), and a piece's values are read at its
completion (log 20). -/
def Obligations.BounceReadsAndWritesComplete : Prop :=
  ∀ (s : State) (ch : Chunk) (left : Nat),
    isRunning s = true → left ≤ 1 → s.job.chunk = some ch →
    (∀ (src : Source) (q next : Piece) (rest : List Piece), s.store.transfer = some ⟨.bounceRead, left⟩ →
      ch.pieces = q :: next :: rest → s.job.sources[ch.source]? = some src →
      ∃ sums : List Int, sums.length = ch.sums.length ∧
        (∀ i, i < ch.sums.length →
          sums.getD i 0 =
            ch.sums.getD i 0 +
              (if q.rel ≤ i ∧ i < q.rel + q.count then
                readOffset s src.slot (q.off + (i - q.rel)) *
                  (effectiveGain src.gain src.fade (s.layer src.slot).len (q.off + (i - q.rel)) : Int)
              else 0)) ∧
        exec .bounceReadComplete s =
          .next
            { s with
              store := { s.store with transfer := none }
              job :=
                { s.job with
                  inFlight := false, chunk := some { ch with sums := sums, pieces := next :: rest }
                  clips :=
                    if ch.phase = .write then
                      min 65535 (s.job.clips + (sums.map fun x => clipped 16 ((x + 2048) / 4096)).sum)
                    else s.job.clips } }) ∧
    ∀ (result : Slot) (a : Nat), s.store.transfer = some ⟨.bounceWrite, left⟩ → s.job.result = some result →
      offsetAddress (s.layer result).extents ch.start = some a → memoryCanonical s → ch.sums.length = ch.length →
      ∃ t, exec .bounceWriteComplete s = .next t ∧
        (∀ i, i < ch.length →
          readSample t.mem (a + i) = max (-32768) (min 32767 ((ch.sums.getD i 0 + 2048) / 4096))) ∧
        (∀ b, b < 2 * a ∨ 2 * (a + ch.length) ≤ b → readByte t.mem b = readByte s.mem b) ∧
        (s.job.progress + ch.length ≠ s.job.total →
          t.job.progress = s.job.progress + ch.length ∧ t.job.running = s.job.running ∧ t.job.result = some result ∧
          t.job.sources = s.job.sources ∧ t.job.total = s.job.total ∧ t.job.inFlight = false ∧
          (∃ next : Chunk, t.job.chunk = some next ∧ next.start = s.job.progress + ch.length ∧
            next.length = min 128 (s.job.total - (s.job.progress + ch.length)) ∧
            t.takenInHand 0 (List.replicate next.length 0) next ∧ t.job.clips = clipsAfter s.job.clips next) ∧
          t = { s with mem := t.mem, store := { s.store with transfer := none }, job := t.job }) ∧
        ∀ (anchor : Slot) (i : Nat) (below above : List Slot) (newest : Slot),
          s.job.progress + ch.length = s.job.total →
          s.job.anchor = some i → (s.job.sources.map Source.slot)[i]? = some anchor →
          s.table.stack = below ++ newest :: above → newest ∈ s.job.sources.map Source.slot →
          (∀ x ∈ above, x ∉ s.job.sources.map Source.slot) → newest ∉ below → result ∉ s.job.sources.map Source.slot →
          t =
            ({ s with mem := t.mem, store := { s.store with transfer := none } } : State).withBounceDone result
              ((s.layer anchor).k.getD 0)
              ((below.filter fun x => decide (x ∉ s.job.sources.map Source.slot)) ++ result :: above)

/-- The last piece of a source: its values are added, and the sources behind it are taken in hand in turn, each adding at once what the
FIFO of the tail drain serves, up to the first that has something to read; behind the last the chunk is in phase WRITE, and each sum
that its saturation changes adds one to the clip count. A completion acts with one sample period left as well as with none (log 13),
and the values are read at the completion (log 20). -/
def Obligations.BounceReadsTakeTheNextSource : Prop :=
  ∀ (s : State) (ch : Chunk) (src : Source) (q : Piece) (left : Nat),
    isRunning s = true → left ≤ 1 → s.store.transfer = some ⟨.bounceRead, left⟩ → s.job.chunk = some ch →
    ch.pieces = [q] → ch.phase = .read → ch.sums.length = ch.length → s.job.sources[ch.source]? = some src →
    ∃ (sums : List Int) (next : Chunk), sums.length = ch.length ∧
      (∀ i, i < ch.length →
        sums.getD i 0 =
          ch.sums.getD i 0 + (if q.rel ≤ i ∧ i < q.rel + q.count then s.bounceValue src (q.off + (i - q.rel)) else 0)) ∧
      next.start = ch.start ∧ next.length = ch.length ∧ s.takenInHand (ch.source + 1) sums next ∧
      exec .bounceReadComplete s =
        .next
          { s with
            store := { s.store with transfer := none }
            job :=
              { s.job with
                inFlight := false, chunk := some next, clips := clipsAfter s.job.clips next } }

/-! ## Reset, start-up, rest and wake -/

/-- NRST low stops everything in flight and its rise gives every block its values after power-on; the end of the oscillator start-up
finds P and fills the pool, and the end of the probe period makes the part AWAKE with WOKE. That the records stay until NRST rises,
and that the loop memory, HOLD, WAKE and the queue of commands are kept, is the model's choice (log 8), as are the store record before
the probe (log 9), that the probe changes the first sample of pages 0 and 1,024 and nothing with no device (log 7), and that an NRST row
that finds its level already there changes nothing (log 4). -/
def Obligations.ResetAndStartUpRunTheirCourse : Prop :=
  ∀ (s : State) (device : StoreDevice),
    (quiet s → s.rest.nrst = true →
      ∃ t, exec .nrstLow s = .next t ∧ t.rest = { s.rest with nrst := false } ∧
        t.transport = { s.transport with pulseRemaining := 0, pin := false } ∧
        t.mix = { s.mix with formed := ⟨0, 0, 0, 0⟩, frame := ⟨0, 0, 0, 0⟩ } ∧
        t.link = { s.link with tx := .idle, rdy := false } ∧ t.store.transfer = none ∧ t.store.pool = s.store.pool ∧
        t.table = s.table ∧ t.cues = s.cues ∧ t.lanes = s.lanes ∧ t.mem = s.mem ∧ t.pending = s.pending) ∧
    (s.rest.nrst = false → exec .nrstLow s = .next s) ∧
    (s.rest.nrst = true → exec .nrstRise s = .next s) ∧
    (s.rest.nrst = false →
      exec .nrstRise s =
        .next
          { State.reset with
            mem := s.mem
            link := { State.reset.link with hold := s.link.hold }
            rest := { State.reset.rest with wake := s.rest.wake }
            openOrders := s.openOrders
            pending := s.pending }) ∧
    (s.rest.nrst = true → s.rest.run = .starting → (s.rest.cause = .power ∨ s.rest.cause = .restart) →
      s.rest.probing = false → memoryCanonical s →
      let pages := match device with
        | .missing => 0
        | .wraps8 => 1024
        | .deaf8 => 1024
        | .full16 => 2048
      ∃ t, exec (.oscillatorStartUpEnd device) s = .next t ∧
        t =
          { s with
            mem := t.mem
            store := { s.store with present := decide (pages ≠ 0), pages := pages, pool := List.range pages }
            rest := { s.rest with probing := true } } ∧
        (device = .missing → t.mem = s.mem) ∧
        ∀ a, 2 ≤ a → a ≠ 8388608 → a ≠ 8388609 → readByte t.mem a = readByte s.mem a) ∧
    (s.rest.nrst = true → s.rest.run = .starting → s.rest.probing = true →
      exec .probePeriodEnd s =
        .next
          (({ s with
            store := { s.store with windowPos := 128, credit := 0, stalled := false, transfer := none }
            mix := { s.mix with formed := ⟨0, 0, 0, 0⟩, frame := ⟨0, 0, 0, 0⟩ }
            link := { s.link with rdy := true }
            rest := { s.rest with run := .awake, probing := false } } : State).reported 31
            (.woke s.rest.cause s.rest.discarded s.store.pages)))

/-- WAKE is a level that wakes a resting part, and so does a start bit on RXD; a byte taken in REST has woken the part by its start
bit and is discarded, which is the model's choice (log 16). The end of a wake's start-up makes the part AWAKE with WOKE, but goes back
to REST where the WAKE line that caused it is low again. -/
def Obligations.WakesRunTheirCourse : Prop :=
  ∀ (s : State) (b : Byte) (fault : Bool),
    let woken := fun (cause : WakeCause) (level : Bool) =>
      ({ s with
        rest :=
          { s.rest with
            run := .starting, cause := cause, discarded := 0, linkActivity := false, probing := false, wake := level } } :
        State)
    (quiet s →
      exec .wakeAsserted s =
        .next
          (if s.rest.nrst = true ∧ s.rest.run = .rest then woken .wakeLine true
          else { s with rest := { s.rest with wake := true } })) ∧
    (quiet s → exec .wakeReleased s = .next { s with rest := { s.rest with wake := false } }) ∧
    (quiet s →
      exec .linkWake s =
        .next (if s.rest.nrst = true ∧ s.rest.run = .rest then woken .linkActivity s.rest.wake else s)) ∧
    (quiet s → s.rest.nrst = true → s.rest.run = .rest →
      exec (.rxdByte b fault) s =
        .next
          { s with
            rest :=
              { s.rest with
                run := .starting, cause := .linkActivity, discarded := 1, linkActivity := false, probing := false } }) ∧
    (s.rest.nrst = true → s.rest.run = .starting → (s.rest.cause = .wakeLine ∨ s.rest.cause = .linkActivity) →
      exec .wakeStartingEnd s =
        .next
          (if s.rest.cause = .wakeLine ∧ s.rest.wake = false then { s with rest := { s.rest with run := .rest } }
          else
            (({ s with
              store := { s.store with windowPos := 128, credit := 0, stalled := false, transfer := none }
              mix := { s.mix with formed := ⟨0, 0, 0, 0⟩, frame := ⟨0, 0, 0, 0⟩ }
              link := { s.link with rdy := true }
              rest := { s.rest with run := .awake, probing := false } } : State).reported 31
              (.woke s.rest.cause s.rest.discarded s.store.pages))))
end

