-- ==== Sys2Proof/Laws/State.lean ====
section
/-! SUPPORT. What each update of the state leaves in each of its fields: one lemma for each update and field, so that no proof
unfolds a record update. -/

namespace Sys2Proof.Machine

@[simp] theorem State.setTransport_transport (s : State) (x : Transport) : (s.setTransport x).transport = x := rfl
@[simp] theorem State.setTransport_table (s : State) (x : Transport) : (s.setTransport x).table = s.table := rfl
@[simp] theorem State.setTransport_cues (s : State) (x : Transport) : (s.setTransport x).cues = s.cues := rfl
@[simp] theorem State.setTransport_lanes (s : State) (x : Transport) : (s.setTransport x).lanes = s.lanes := rfl
@[simp] theorem State.setTransport_takes (s : State) (x : Transport) : (s.setTransport x).takes = s.takes := rfl
@[simp] theorem State.setTransport_store (s : State) (x : Transport) : (s.setTransport x).store = s.store := rfl
@[simp] theorem State.setTransport_mem (s : State) (x : Transport) : (s.setTransport x).mem = s.mem := rfl
@[simp] theorem State.setTransport_mix (s : State) (x : Transport) : (s.setTransport x).mix = s.mix := rfl
@[simp] theorem State.setTransport_job (s : State) (x : Transport) : (s.setTransport x).job = s.job := rfl
@[simp] theorem State.setTransport_link (s : State) (x : Transport) : (s.setTransport x).link = s.link := rfl
@[simp] theorem State.setTransport_rest (s : State) (x : Transport) : (s.setTransport x).rest = s.rest := rfl
@[simp] theorem State.setTransport_openOrders (s : State) (x : Transport) : (s.setTransport x).openOrders = s.openOrders := rfl
@[simp] theorem State.setTransport_pending (s : State) (x : Transport) : (s.setTransport x).pending = s.pending := rfl
@[simp] theorem State.setTable_transport (s : State) (x : LayerTable) : (s.setTable x).transport = s.transport := rfl
@[simp] theorem State.setTable_table (s : State) (x : LayerTable) : (s.setTable x).table = x := rfl
@[simp] theorem State.setTable_cues (s : State) (x : LayerTable) : (s.setTable x).cues = s.cues := rfl
@[simp] theorem State.setTable_lanes (s : State) (x : LayerTable) : (s.setTable x).lanes = s.lanes := rfl
@[simp] theorem State.setTable_takes (s : State) (x : LayerTable) : (s.setTable x).takes = s.takes := rfl
@[simp] theorem State.setTable_store (s : State) (x : LayerTable) : (s.setTable x).store = s.store := rfl
@[simp] theorem State.setTable_mem (s : State) (x : LayerTable) : (s.setTable x).mem = s.mem := rfl
@[simp] theorem State.setTable_mix (s : State) (x : LayerTable) : (s.setTable x).mix = s.mix := rfl
@[simp] theorem State.setTable_job (s : State) (x : LayerTable) : (s.setTable x).job = s.job := rfl
@[simp] theorem State.setTable_link (s : State) (x : LayerTable) : (s.setTable x).link = s.link := rfl
@[simp] theorem State.setTable_rest (s : State) (x : LayerTable) : (s.setTable x).rest = s.rest := rfl
@[simp] theorem State.setTable_openOrders (s : State) (x : LayerTable) : (s.setTable x).openOrders = s.openOrders := rfl
@[simp] theorem State.setTable_pending (s : State) (x : LayerTable) : (s.setTable x).pending = s.pending := rfl
@[simp] theorem State.setCues_transport (s : State) (x : CueQueues) : (s.setCues x).transport = s.transport := rfl
@[simp] theorem State.setCues_table (s : State) (x : CueQueues) : (s.setCues x).table = s.table := rfl
@[simp] theorem State.setCues_cues (s : State) (x : CueQueues) : (s.setCues x).cues = x := rfl
@[simp] theorem State.setCues_lanes (s : State) (x : CueQueues) : (s.setCues x).lanes = s.lanes := rfl
@[simp] theorem State.setCues_takes (s : State) (x : CueQueues) : (s.setCues x).takes = s.takes := rfl
@[simp] theorem State.setCues_store (s : State) (x : CueQueues) : (s.setCues x).store = s.store := rfl
@[simp] theorem State.setCues_mem (s : State) (x : CueQueues) : (s.setCues x).mem = s.mem := rfl
@[simp] theorem State.setCues_mix (s : State) (x : CueQueues) : (s.setCues x).mix = s.mix := rfl
@[simp] theorem State.setCues_job (s : State) (x : CueQueues) : (s.setCues x).job = s.job := rfl
@[simp] theorem State.setCues_link (s : State) (x : CueQueues) : (s.setCues x).link = s.link := rfl
@[simp] theorem State.setCues_rest (s : State) (x : CueQueues) : (s.setCues x).rest = s.rest := rfl
@[simp] theorem State.setCues_openOrders (s : State) (x : CueQueues) : (s.setCues x).openOrders = s.openOrders := rfl
@[simp] theorem State.setCues_pending (s : State) (x : CueQueues) : (s.setCues x).pending = s.pending := rfl
@[simp] theorem State.setLanes_transport (s : State) (x : Vector LaneRec 4) : (s.setLanes x).transport = s.transport := rfl
@[simp] theorem State.setLanes_table (s : State) (x : Vector LaneRec 4) : (s.setLanes x).table = s.table := rfl
@[simp] theorem State.setLanes_cues (s : State) (x : Vector LaneRec 4) : (s.setLanes x).cues = s.cues := rfl
@[simp] theorem State.setLanes_lanes (s : State) (x : Vector LaneRec 4) : (s.setLanes x).lanes = x := rfl
@[simp] theorem State.setLanes_takes (s : State) (x : Vector LaneRec 4) : (s.setLanes x).takes = s.takes := rfl
@[simp] theorem State.setLanes_store (s : State) (x : Vector LaneRec 4) : (s.setLanes x).store = s.store := rfl
@[simp] theorem State.setLanes_mem (s : State) (x : Vector LaneRec 4) : (s.setLanes x).mem = s.mem := rfl
@[simp] theorem State.setLanes_mix (s : State) (x : Vector LaneRec 4) : (s.setLanes x).mix = s.mix := rfl
@[simp] theorem State.setLanes_job (s : State) (x : Vector LaneRec 4) : (s.setLanes x).job = s.job := rfl
@[simp] theorem State.setLanes_link (s : State) (x : Vector LaneRec 4) : (s.setLanes x).link = s.link := rfl
@[simp] theorem State.setLanes_rest (s : State) (x : Vector LaneRec 4) : (s.setLanes x).rest = s.rest := rfl
@[simp] theorem State.setLanes_openOrders (s : State) (x : Vector LaneRec 4) : (s.setLanes x).openOrders = s.openOrders := rfl
@[simp] theorem State.setLanes_pending (s : State) (x : Vector LaneRec 4) : (s.setLanes x).pending = s.pending := rfl
@[simp] theorem State.setTakes_transport (s : State) (x : Recorders) : (s.setTakes x).transport = s.transport := rfl
@[simp] theorem State.setTakes_table (s : State) (x : Recorders) : (s.setTakes x).table = s.table := rfl
@[simp] theorem State.setTakes_cues (s : State) (x : Recorders) : (s.setTakes x).cues = s.cues := rfl
@[simp] theorem State.setTakes_lanes (s : State) (x : Recorders) : (s.setTakes x).lanes = s.lanes := rfl
@[simp] theorem State.setTakes_takes (s : State) (x : Recorders) : (s.setTakes x).takes = x := rfl
@[simp] theorem State.setTakes_store (s : State) (x : Recorders) : (s.setTakes x).store = s.store := rfl
@[simp] theorem State.setTakes_mem (s : State) (x : Recorders) : (s.setTakes x).mem = s.mem := rfl
@[simp] theorem State.setTakes_mix (s : State) (x : Recorders) : (s.setTakes x).mix = s.mix := rfl
@[simp] theorem State.setTakes_job (s : State) (x : Recorders) : (s.setTakes x).job = s.job := rfl
@[simp] theorem State.setTakes_link (s : State) (x : Recorders) : (s.setTakes x).link = s.link := rfl
@[simp] theorem State.setTakes_rest (s : State) (x : Recorders) : (s.setTakes x).rest = s.rest := rfl
@[simp] theorem State.setTakes_openOrders (s : State) (x : Recorders) : (s.setTakes x).openOrders = s.openOrders := rfl
@[simp] theorem State.setTakes_pending (s : State) (x : Recorders) : (s.setTakes x).pending = s.pending := rfl
@[simp] theorem State.setStore_transport (s : State) (x : LoopStore) : (s.setStore x).transport = s.transport := rfl
@[simp] theorem State.setStore_table (s : State) (x : LoopStore) : (s.setStore x).table = s.table := rfl
@[simp] theorem State.setStore_cues (s : State) (x : LoopStore) : (s.setStore x).cues = s.cues := rfl
@[simp] theorem State.setStore_lanes (s : State) (x : LoopStore) : (s.setStore x).lanes = s.lanes := rfl
@[simp] theorem State.setStore_takes (s : State) (x : LoopStore) : (s.setStore x).takes = s.takes := rfl
@[simp] theorem State.setStore_store (s : State) (x : LoopStore) : (s.setStore x).store = x := rfl
@[simp] theorem State.setStore_mem (s : State) (x : LoopStore) : (s.setStore x).mem = s.mem := rfl
@[simp] theorem State.setStore_mix (s : State) (x : LoopStore) : (s.setStore x).mix = s.mix := rfl
@[simp] theorem State.setStore_job (s : State) (x : LoopStore) : (s.setStore x).job = s.job := rfl
@[simp] theorem State.setStore_link (s : State) (x : LoopStore) : (s.setStore x).link = s.link := rfl
@[simp] theorem State.setStore_rest (s : State) (x : LoopStore) : (s.setStore x).rest = s.rest := rfl
@[simp] theorem State.setStore_openOrders (s : State) (x : LoopStore) : (s.setStore x).openOrders = s.openOrders := rfl
@[simp] theorem State.setStore_pending (s : State) (x : LoopStore) : (s.setStore x).pending = s.pending := rfl
@[simp] theorem State.setMem_transport (s : State) (x : List Host.Cell) : (s.setMem x).transport = s.transport := rfl
@[simp] theorem State.setMem_table (s : State) (x : List Host.Cell) : (s.setMem x).table = s.table := rfl
@[simp] theorem State.setMem_cues (s : State) (x : List Host.Cell) : (s.setMem x).cues = s.cues := rfl
@[simp] theorem State.setMem_lanes (s : State) (x : List Host.Cell) : (s.setMem x).lanes = s.lanes := rfl
@[simp] theorem State.setMem_takes (s : State) (x : List Host.Cell) : (s.setMem x).takes = s.takes := rfl
@[simp] theorem State.setMem_store (s : State) (x : List Host.Cell) : (s.setMem x).store = s.store := rfl
@[simp] theorem State.setMem_mem (s : State) (x : List Host.Cell) : (s.setMem x).mem = x := rfl
@[simp] theorem State.setMem_mix (s : State) (x : List Host.Cell) : (s.setMem x).mix = s.mix := rfl
@[simp] theorem State.setMem_job (s : State) (x : List Host.Cell) : (s.setMem x).job = s.job := rfl
@[simp] theorem State.setMem_link (s : State) (x : List Host.Cell) : (s.setMem x).link = s.link := rfl
@[simp] theorem State.setMem_rest (s : State) (x : List Host.Cell) : (s.setMem x).rest = s.rest := rfl
@[simp] theorem State.setMem_openOrders (s : State) (x : List Host.Cell) : (s.setMem x).openOrders = s.openOrders := rfl
@[simp] theorem State.setMem_pending (s : State) (x : List Host.Cell) : (s.setMem x).pending = s.pending := rfl
@[simp] theorem State.setMix_transport (s : State) (x : Mix) : (s.setMix x).transport = s.transport := rfl
@[simp] theorem State.setMix_table (s : State) (x : Mix) : (s.setMix x).table = s.table := rfl
@[simp] theorem State.setMix_cues (s : State) (x : Mix) : (s.setMix x).cues = s.cues := rfl
@[simp] theorem State.setMix_lanes (s : State) (x : Mix) : (s.setMix x).lanes = s.lanes := rfl
@[simp] theorem State.setMix_takes (s : State) (x : Mix) : (s.setMix x).takes = s.takes := rfl
@[simp] theorem State.setMix_store (s : State) (x : Mix) : (s.setMix x).store = s.store := rfl
@[simp] theorem State.setMix_mem (s : State) (x : Mix) : (s.setMix x).mem = s.mem := rfl
@[simp] theorem State.setMix_mix (s : State) (x : Mix) : (s.setMix x).mix = x := rfl
@[simp] theorem State.setMix_job (s : State) (x : Mix) : (s.setMix x).job = s.job := rfl
@[simp] theorem State.setMix_link (s : State) (x : Mix) : (s.setMix x).link = s.link := rfl
@[simp] theorem State.setMix_rest (s : State) (x : Mix) : (s.setMix x).rest = s.rest := rfl
@[simp] theorem State.setMix_openOrders (s : State) (x : Mix) : (s.setMix x).openOrders = s.openOrders := rfl
@[simp] theorem State.setMix_pending (s : State) (x : Mix) : (s.setMix x).pending = s.pending := rfl
@[simp] theorem State.setJob_transport (s : State) (x : Job) : (s.setJob x).transport = s.transport := rfl
@[simp] theorem State.setJob_table (s : State) (x : Job) : (s.setJob x).table = s.table := rfl
@[simp] theorem State.setJob_cues (s : State) (x : Job) : (s.setJob x).cues = s.cues := rfl
@[simp] theorem State.setJob_lanes (s : State) (x : Job) : (s.setJob x).lanes = s.lanes := rfl
@[simp] theorem State.setJob_takes (s : State) (x : Job) : (s.setJob x).takes = s.takes := rfl
@[simp] theorem State.setJob_store (s : State) (x : Job) : (s.setJob x).store = s.store := rfl
@[simp] theorem State.setJob_mem (s : State) (x : Job) : (s.setJob x).mem = s.mem := rfl
@[simp] theorem State.setJob_mix (s : State) (x : Job) : (s.setJob x).mix = s.mix := rfl
@[simp] theorem State.setJob_job (s : State) (x : Job) : (s.setJob x).job = x := rfl
@[simp] theorem State.setJob_link (s : State) (x : Job) : (s.setJob x).link = s.link := rfl
@[simp] theorem State.setJob_rest (s : State) (x : Job) : (s.setJob x).rest = s.rest := rfl
@[simp] theorem State.setJob_openOrders (s : State) (x : Job) : (s.setJob x).openOrders = s.openOrders := rfl
@[simp] theorem State.setJob_pending (s : State) (x : Job) : (s.setJob x).pending = s.pending := rfl
@[simp] theorem State.setLink_transport (s : State) (x : Link) : (s.setLink x).transport = s.transport := rfl
@[simp] theorem State.setLink_table (s : State) (x : Link) : (s.setLink x).table = s.table := rfl
@[simp] theorem State.setLink_cues (s : State) (x : Link) : (s.setLink x).cues = s.cues := rfl
@[simp] theorem State.setLink_lanes (s : State) (x : Link) : (s.setLink x).lanes = s.lanes := rfl
@[simp] theorem State.setLink_takes (s : State) (x : Link) : (s.setLink x).takes = s.takes := rfl
@[simp] theorem State.setLink_store (s : State) (x : Link) : (s.setLink x).store = s.store := rfl
@[simp] theorem State.setLink_mem (s : State) (x : Link) : (s.setLink x).mem = s.mem := rfl
@[simp] theorem State.setLink_mix (s : State) (x : Link) : (s.setLink x).mix = s.mix := rfl
@[simp] theorem State.setLink_job (s : State) (x : Link) : (s.setLink x).job = s.job := rfl
@[simp] theorem State.setLink_link (s : State) (x : Link) : (s.setLink x).link = x := rfl
@[simp] theorem State.setLink_rest (s : State) (x : Link) : (s.setLink x).rest = s.rest := rfl
@[simp] theorem State.setLink_openOrders (s : State) (x : Link) : (s.setLink x).openOrders = s.openOrders := rfl
@[simp] theorem State.setLink_pending (s : State) (x : Link) : (s.setLink x).pending = s.pending := rfl
@[simp] theorem State.setRest_transport (s : State) (x : RestControl) : (s.setRest x).transport = s.transport := rfl
@[simp] theorem State.setRest_table (s : State) (x : RestControl) : (s.setRest x).table = s.table := rfl
@[simp] theorem State.setRest_cues (s : State) (x : RestControl) : (s.setRest x).cues = s.cues := rfl
@[simp] theorem State.setRest_lanes (s : State) (x : RestControl) : (s.setRest x).lanes = s.lanes := rfl
@[simp] theorem State.setRest_takes (s : State) (x : RestControl) : (s.setRest x).takes = s.takes := rfl
@[simp] theorem State.setRest_store (s : State) (x : RestControl) : (s.setRest x).store = s.store := rfl
@[simp] theorem State.setRest_mem (s : State) (x : RestControl) : (s.setRest x).mem = s.mem := rfl
@[simp] theorem State.setRest_mix (s : State) (x : RestControl) : (s.setRest x).mix = s.mix := rfl
@[simp] theorem State.setRest_job (s : State) (x : RestControl) : (s.setRest x).job = s.job := rfl
@[simp] theorem State.setRest_link (s : State) (x : RestControl) : (s.setRest x).link = s.link := rfl
@[simp] theorem State.setRest_rest (s : State) (x : RestControl) : (s.setRest x).rest = x := rfl
@[simp] theorem State.setRest_openOrders (s : State) (x : RestControl) : (s.setRest x).openOrders = s.openOrders := rfl
@[simp] theorem State.setRest_pending (s : State) (x : RestControl) : (s.setRest x).pending = s.pending := rfl
@[simp] theorem State.setOpenOrders_transport (s : State) (x : Nat) : (s.setOpenOrders x).transport = s.transport := rfl
@[simp] theorem State.setOpenOrders_table (s : State) (x : Nat) : (s.setOpenOrders x).table = s.table := rfl
@[simp] theorem State.setOpenOrders_cues (s : State) (x : Nat) : (s.setOpenOrders x).cues = s.cues := rfl
@[simp] theorem State.setOpenOrders_lanes (s : State) (x : Nat) : (s.setOpenOrders x).lanes = s.lanes := rfl
@[simp] theorem State.setOpenOrders_takes (s : State) (x : Nat) : (s.setOpenOrders x).takes = s.takes := rfl
@[simp] theorem State.setOpenOrders_store (s : State) (x : Nat) : (s.setOpenOrders x).store = s.store := rfl
@[simp] theorem State.setOpenOrders_mem (s : State) (x : Nat) : (s.setOpenOrders x).mem = s.mem := rfl
@[simp] theorem State.setOpenOrders_mix (s : State) (x : Nat) : (s.setOpenOrders x).mix = s.mix := rfl
@[simp] theorem State.setOpenOrders_job (s : State) (x : Nat) : (s.setOpenOrders x).job = s.job := rfl
@[simp] theorem State.setOpenOrders_link (s : State) (x : Nat) : (s.setOpenOrders x).link = s.link := rfl
@[simp] theorem State.setOpenOrders_rest (s : State) (x : Nat) : (s.setOpenOrders x).rest = s.rest := rfl
@[simp] theorem State.setOpenOrders_openOrders (s : State) (x : Nat) : (s.setOpenOrders x).openOrders = x := rfl
@[simp] theorem State.setOpenOrders_pending (s : State) (x : Nat) : (s.setOpenOrders x).pending = s.pending := rfl
@[simp] theorem State.setPending_transport (s : State) (x : List Instr) : (s.setPending x).transport = s.transport := rfl
@[simp] theorem State.setPending_table (s : State) (x : List Instr) : (s.setPending x).table = s.table := rfl
@[simp] theorem State.setPending_cues (s : State) (x : List Instr) : (s.setPending x).cues = s.cues := rfl
@[simp] theorem State.setPending_lanes (s : State) (x : List Instr) : (s.setPending x).lanes = s.lanes := rfl
@[simp] theorem State.setPending_takes (s : State) (x : List Instr) : (s.setPending x).takes = s.takes := rfl
@[simp] theorem State.setPending_store (s : State) (x : List Instr) : (s.setPending x).store = s.store := rfl
@[simp] theorem State.setPending_mem (s : State) (x : List Instr) : (s.setPending x).mem = s.mem := rfl
@[simp] theorem State.setPending_mix (s : State) (x : List Instr) : (s.setPending x).mix = s.mix := rfl
@[simp] theorem State.setPending_job (s : State) (x : List Instr) : (s.setPending x).job = s.job := rfl
@[simp] theorem State.setPending_link (s : State) (x : List Instr) : (s.setPending x).link = s.link := rfl
@[simp] theorem State.setPending_rest (s : State) (x : List Instr) : (s.setPending x).rest = s.rest := rfl
@[simp] theorem State.setPending_openOrders (s : State) (x : List Instr) : (s.setPending x).openOrders = s.openOrders := rfl
@[simp] theorem State.setPending_pending (s : State) (x : List Instr) : (s.setPending x).pending = x := rfl
@[simp] theorem State.setLayer_transport (s : State) (sl : Slot) (x : LayerRec) : (s.setLayer sl x).transport = s.transport := rfl
@[simp] theorem State.setLayer_cues (s : State) (sl : Slot) (x : LayerRec) : (s.setLayer sl x).cues = s.cues := rfl
@[simp] theorem State.setLayer_lanes (s : State) (sl : Slot) (x : LayerRec) : (s.setLayer sl x).lanes = s.lanes := rfl
@[simp] theorem State.setLayer_takes (s : State) (sl : Slot) (x : LayerRec) : (s.setLayer sl x).takes = s.takes := rfl
@[simp] theorem State.setLayer_store (s : State) (sl : Slot) (x : LayerRec) : (s.setLayer sl x).store = s.store := rfl
@[simp] theorem State.setLayer_mem (s : State) (sl : Slot) (x : LayerRec) : (s.setLayer sl x).mem = s.mem := rfl
@[simp] theorem State.setLayer_mix (s : State) (sl : Slot) (x : LayerRec) : (s.setLayer sl x).mix = s.mix := rfl
@[simp] theorem State.setLayer_job (s : State) (sl : Slot) (x : LayerRec) : (s.setLayer sl x).job = s.job := rfl
@[simp] theorem State.setLayer_link (s : State) (sl : Slot) (x : LayerRec) : (s.setLayer sl x).link = s.link := rfl
@[simp] theorem State.setLayer_rest (s : State) (sl : Slot) (x : LayerRec) : (s.setLayer sl x).rest = s.rest := rfl
@[simp] theorem State.setLayer_openOrders (s : State) (sl : Slot) (x : LayerRec) : (s.setLayer sl x).openOrders = s.openOrders := rfl
@[simp] theorem State.setLayer_pending (s : State) (sl : Slot) (x : LayerRec) : (s.setLayer sl x).pending = s.pending := rfl
@[simp] theorem State.setLane_transport (s : State) (l : Lane) (x : LaneRec) : (s.setLane l x).transport = s.transport := rfl
@[simp] theorem State.setLane_table (s : State) (l : Lane) (x : LaneRec) : (s.setLane l x).table = s.table := rfl
@[simp] theorem State.setLane_cues (s : State) (l : Lane) (x : LaneRec) : (s.setLane l x).cues = s.cues := rfl
@[simp] theorem State.setLane_takes (s : State) (l : Lane) (x : LaneRec) : (s.setLane l x).takes = s.takes := rfl
@[simp] theorem State.setLane_store (s : State) (l : Lane) (x : LaneRec) : (s.setLane l x).store = s.store := rfl
@[simp] theorem State.setLane_mem (s : State) (l : Lane) (x : LaneRec) : (s.setLane l x).mem = s.mem := rfl
@[simp] theorem State.setLane_mix (s : State) (l : Lane) (x : LaneRec) : (s.setLane l x).mix = s.mix := rfl
@[simp] theorem State.setLane_job (s : State) (l : Lane) (x : LaneRec) : (s.setLane l x).job = s.job := rfl
@[simp] theorem State.setLane_link (s : State) (l : Lane) (x : LaneRec) : (s.setLane l x).link = s.link := rfl
@[simp] theorem State.setLane_rest (s : State) (l : Lane) (x : LaneRec) : (s.setLane l x).rest = s.rest := rfl
@[simp] theorem State.setLane_openOrders (s : State) (l : Lane) (x : LaneRec) : (s.setLane l x).openOrders = s.openOrders := rfl
@[simp] theorem State.setLane_pending (s : State) (l : Lane) (x : LaneRec) : (s.setLane l x).pending = s.pending := rfl
@[simp] theorem State.setRecorder_transport (s : State) (r : Recorder) (x : RecorderRec) : (s.setRecorder r x).transport = s.transport := rfl
@[simp] theorem State.setRecorder_table (s : State) (r : Recorder) (x : RecorderRec) : (s.setRecorder r x).table = s.table := rfl
@[simp] theorem State.setRecorder_cues (s : State) (r : Recorder) (x : RecorderRec) : (s.setRecorder r x).cues = s.cues := rfl
@[simp] theorem State.setRecorder_lanes (s : State) (r : Recorder) (x : RecorderRec) : (s.setRecorder r x).lanes = s.lanes := rfl
@[simp] theorem State.setRecorder_store (s : State) (r : Recorder) (x : RecorderRec) : (s.setRecorder r x).store = s.store := rfl
@[simp] theorem State.setRecorder_mem (s : State) (r : Recorder) (x : RecorderRec) : (s.setRecorder r x).mem = s.mem := rfl
@[simp] theorem State.setRecorder_mix (s : State) (r : Recorder) (x : RecorderRec) : (s.setRecorder r x).mix = s.mix := rfl
@[simp] theorem State.setRecorder_job (s : State) (r : Recorder) (x : RecorderRec) : (s.setRecorder r x).job = s.job := rfl
@[simp] theorem State.setRecorder_link (s : State) (r : Recorder) (x : RecorderRec) : (s.setRecorder r x).link = s.link := rfl
@[simp] theorem State.setRecorder_rest (s : State) (r : Recorder) (x : RecorderRec) : (s.setRecorder r x).rest = s.rest := rfl
@[simp] theorem State.setRecorder_openOrders (s : State) (r : Recorder) (x : RecorderRec) : (s.setRecorder r x).openOrders = s.openOrders := rfl
@[simp] theorem State.setRecorder_pending (s : State) (r : Recorder) (x : RecorderRec) : (s.setRecorder r x).pending = s.pending := rfl
@[simp] theorem State.setBuffer_transport (s : State) (sl : Slot) (x : Option Stream) : (s.setBuffer sl x).transport = s.transport := rfl
@[simp] theorem State.setBuffer_table (s : State) (sl : Slot) (x : Option Stream) : (s.setBuffer sl x).table = s.table := rfl
@[simp] theorem State.setBuffer_cues (s : State) (sl : Slot) (x : Option Stream) : (s.setBuffer sl x).cues = s.cues := rfl
@[simp] theorem State.setBuffer_lanes (s : State) (sl : Slot) (x : Option Stream) : (s.setBuffer sl x).lanes = s.lanes := rfl
@[simp] theorem State.setBuffer_takes (s : State) (sl : Slot) (x : Option Stream) : (s.setBuffer sl x).takes = s.takes := rfl
@[simp] theorem State.setBuffer_mem (s : State) (sl : Slot) (x : Option Stream) : (s.setBuffer sl x).mem = s.mem := rfl
@[simp] theorem State.setBuffer_mix (s : State) (sl : Slot) (x : Option Stream) : (s.setBuffer sl x).mix = s.mix := rfl
@[simp] theorem State.setBuffer_job (s : State) (sl : Slot) (x : Option Stream) : (s.setBuffer sl x).job = s.job := rfl
@[simp] theorem State.setBuffer_link (s : State) (sl : Slot) (x : Option Stream) : (s.setBuffer sl x).link = s.link := rfl
@[simp] theorem State.setBuffer_rest (s : State) (sl : Slot) (x : Option Stream) : (s.setBuffer sl x).rest = s.rest := rfl
@[simp] theorem State.setBuffer_openOrders (s : State) (sl : Slot) (x : Option Stream) : (s.setBuffer sl x).openOrders = s.openOrders := rfl
@[simp] theorem State.setBuffer_pending (s : State) (sl : Slot) (x : Option Stream) : (s.setBuffer sl x).pending = s.pending := rfl

/-! ## The records of a numbered group -/

@[simp] theorem State.setTransport_layer (s : State) (x : Transport) (i : Slot) : (s.setTransport x).layer i = s.layer i := rfl
@[simp] theorem State.setCues_layer (s : State) (x : CueQueues) (i : Slot) : (s.setCues x).layer i = s.layer i := rfl
@[simp] theorem State.setLanes_layer (s : State) (x : Vector LaneRec 4) (i : Slot) : (s.setLanes x).layer i = s.layer i := rfl
@[simp] theorem State.setTakes_layer (s : State) (x : Recorders) (i : Slot) : (s.setTakes x).layer i = s.layer i := rfl
@[simp] theorem State.setStore_layer (s : State) (x : LoopStore) (i : Slot) : (s.setStore x).layer i = s.layer i := rfl
@[simp] theorem State.setMem_layer (s : State) (x : List Host.Cell) (i : Slot) : (s.setMem x).layer i = s.layer i := rfl
@[simp] theorem State.setMix_layer (s : State) (x : Mix) (i : Slot) : (s.setMix x).layer i = s.layer i := rfl
@[simp] theorem State.setJob_layer (s : State) (x : Job) (i : Slot) : (s.setJob x).layer i = s.layer i := rfl
@[simp] theorem State.setLink_layer (s : State) (x : Link) (i : Slot) : (s.setLink x).layer i = s.layer i := rfl
@[simp] theorem State.setRest_layer (s : State) (x : RestControl) (i : Slot) : (s.setRest x).layer i = s.layer i := rfl
@[simp] theorem State.setOpenOrders_layer (s : State) (x : Nat) (i : Slot) : (s.setOpenOrders x).layer i = s.layer i := rfl
@[simp] theorem State.setPending_layer (s : State) (x : List Instr) (i : Slot) : (s.setPending x).layer i = s.layer i := rfl
@[simp] theorem State.setLane_layer (s : State) (l : Lane) (x : LaneRec) (i : Slot) : (s.setLane l x).layer i = s.layer i := rfl
@[simp] theorem State.setRecorder_layer (s : State) (r : Recorder) (x : RecorderRec) (i : Slot) : (s.setRecorder r x).layer i = s.layer i := rfl
@[simp] theorem State.setBuffer_layer (s : State) (sl : Slot) (x : Option Stream) (i : Slot) : (s.setBuffer sl x).layer i = s.layer i := rfl
@[simp] theorem State.setTransport_lane (s : State) (x : Transport) (i : Lane) : (s.setTransport x).lane i = s.lane i := rfl
@[simp] theorem State.setTable_lane (s : State) (x : LayerTable) (i : Lane) : (s.setTable x).lane i = s.lane i := rfl
@[simp] theorem State.setCues_lane (s : State) (x : CueQueues) (i : Lane) : (s.setCues x).lane i = s.lane i := rfl
@[simp] theorem State.setTakes_lane (s : State) (x : Recorders) (i : Lane) : (s.setTakes x).lane i = s.lane i := rfl
@[simp] theorem State.setStore_lane (s : State) (x : LoopStore) (i : Lane) : (s.setStore x).lane i = s.lane i := rfl
@[simp] theorem State.setMem_lane (s : State) (x : List Host.Cell) (i : Lane) : (s.setMem x).lane i = s.lane i := rfl
@[simp] theorem State.setMix_lane (s : State) (x : Mix) (i : Lane) : (s.setMix x).lane i = s.lane i := rfl
@[simp] theorem State.setJob_lane (s : State) (x : Job) (i : Lane) : (s.setJob x).lane i = s.lane i := rfl
@[simp] theorem State.setLink_lane (s : State) (x : Link) (i : Lane) : (s.setLink x).lane i = s.lane i := rfl
@[simp] theorem State.setRest_lane (s : State) (x : RestControl) (i : Lane) : (s.setRest x).lane i = s.lane i := rfl
@[simp] theorem State.setOpenOrders_lane (s : State) (x : Nat) (i : Lane) : (s.setOpenOrders x).lane i = s.lane i := rfl
@[simp] theorem State.setPending_lane (s : State) (x : List Instr) (i : Lane) : (s.setPending x).lane i = s.lane i := rfl
@[simp] theorem State.setLayer_lane (s : State) (sl : Slot) (x : LayerRec) (i : Lane) : (s.setLayer sl x).lane i = s.lane i := rfl
@[simp] theorem State.setRecorder_lane (s : State) (r : Recorder) (x : RecorderRec) (i : Lane) : (s.setRecorder r x).lane i = s.lane i := rfl
@[simp] theorem State.setBuffer_lane (s : State) (sl : Slot) (x : Option Stream) (i : Lane) : (s.setBuffer sl x).lane i = s.lane i := rfl
@[simp] theorem State.setTransport_recorder (s : State) (x : Transport) (i : Recorder) : (s.setTransport x).recorder i = s.recorder i := rfl
@[simp] theorem State.setTable_recorder (s : State) (x : LayerTable) (i : Recorder) : (s.setTable x).recorder i = s.recorder i := rfl
@[simp] theorem State.setCues_recorder (s : State) (x : CueQueues) (i : Recorder) : (s.setCues x).recorder i = s.recorder i := rfl
@[simp] theorem State.setLanes_recorder (s : State) (x : Vector LaneRec 4) (i : Recorder) : (s.setLanes x).recorder i = s.recorder i := rfl
@[simp] theorem State.setStore_recorder (s : State) (x : LoopStore) (i : Recorder) : (s.setStore x).recorder i = s.recorder i := rfl
@[simp] theorem State.setMem_recorder (s : State) (x : List Host.Cell) (i : Recorder) : (s.setMem x).recorder i = s.recorder i := rfl
@[simp] theorem State.setMix_recorder (s : State) (x : Mix) (i : Recorder) : (s.setMix x).recorder i = s.recorder i := rfl
@[simp] theorem State.setJob_recorder (s : State) (x : Job) (i : Recorder) : (s.setJob x).recorder i = s.recorder i := rfl
@[simp] theorem State.setLink_recorder (s : State) (x : Link) (i : Recorder) : (s.setLink x).recorder i = s.recorder i := rfl
@[simp] theorem State.setRest_recorder (s : State) (x : RestControl) (i : Recorder) : (s.setRest x).recorder i = s.recorder i := rfl
@[simp] theorem State.setOpenOrders_recorder (s : State) (x : Nat) (i : Recorder) : (s.setOpenOrders x).recorder i = s.recorder i := rfl
@[simp] theorem State.setPending_recorder (s : State) (x : List Instr) (i : Recorder) : (s.setPending x).recorder i = s.recorder i := rfl
@[simp] theorem State.setLayer_recorder (s : State) (sl : Slot) (x : LayerRec) (i : Recorder) : (s.setLayer sl x).recorder i = s.recorder i := rfl
@[simp] theorem State.setLane_recorder (s : State) (l : Lane) (x : LaneRec) (i : Recorder) : (s.setLane l x).recorder i = s.recorder i := rfl
@[simp] theorem State.setBuffer_recorder (s : State) (sl : Slot) (x : Option Stream) (i : Recorder) : (s.setBuffer sl x).recorder i = s.recorder i := rfl
@[simp] theorem State.setTransport_buffer (s : State) (x : Transport) (i : Slot) : (s.setTransport x).buffer i = s.buffer i := rfl
@[simp] theorem State.setTable_buffer (s : State) (x : LayerTable) (i : Slot) : (s.setTable x).buffer i = s.buffer i := rfl
@[simp] theorem State.setCues_buffer (s : State) (x : CueQueues) (i : Slot) : (s.setCues x).buffer i = s.buffer i := rfl
@[simp] theorem State.setLanes_buffer (s : State) (x : Vector LaneRec 4) (i : Slot) : (s.setLanes x).buffer i = s.buffer i := rfl
@[simp] theorem State.setTakes_buffer (s : State) (x : Recorders) (i : Slot) : (s.setTakes x).buffer i = s.buffer i := rfl
@[simp] theorem State.setMem_buffer (s : State) (x : List Host.Cell) (i : Slot) : (s.setMem x).buffer i = s.buffer i := rfl
@[simp] theorem State.setMix_buffer (s : State) (x : Mix) (i : Slot) : (s.setMix x).buffer i = s.buffer i := rfl
@[simp] theorem State.setJob_buffer (s : State) (x : Job) (i : Slot) : (s.setJob x).buffer i = s.buffer i := rfl
@[simp] theorem State.setLink_buffer (s : State) (x : Link) (i : Slot) : (s.setLink x).buffer i = s.buffer i := rfl
@[simp] theorem State.setRest_buffer (s : State) (x : RestControl) (i : Slot) : (s.setRest x).buffer i = s.buffer i := rfl
@[simp] theorem State.setOpenOrders_buffer (s : State) (x : Nat) (i : Slot) : (s.setOpenOrders x).buffer i = s.buffer i := rfl
@[simp] theorem State.setPending_buffer (s : State) (x : List Instr) (i : Slot) : (s.setPending x).buffer i = s.buffer i := rfl
@[simp] theorem State.setLayer_buffer (s : State) (sl : Slot) (x : LayerRec) (i : Slot) : (s.setLayer sl x).buffer i = s.buffer i := rfl
@[simp] theorem State.setLane_buffer (s : State) (l : Lane) (x : LaneRec) (i : Slot) : (s.setLane l x).buffer i = s.buffer i := rfl
@[simp] theorem State.setRecorder_buffer (s : State) (r : Recorder) (x : RecorderRec) (i : Slot) : (s.setRecorder r x).buffer i = s.buffer i := rfl

/-- A record written reads back; every other record of the group reads as before. -/
theorem State.setLayer_layer (s : State) (i j : Slot) (x : LayerRec) : (s.setLayer i x).layer j = if j = i then x else s.layer j := by
  by_cases h : j = i
  · subst h; simp [State.layer, State.setLayer]
  · have h' : i.val ≠ j.val := fun e => h (Fin.ext e.symm)
    simp [State.layer, State.setLayer, h, h']

@[simp] theorem State.setLayer_layer_self (s : State) (i : Slot) (x : LayerRec) : (s.setLayer i x).layer i = x := by
  simp [State.setLayer_layer]

theorem State.setLayer_layer_ne (s : State) (i j : Slot) (x : LayerRec) (h : j ≠ i) : (s.setLayer i x).layer j = s.layer j := by
  simp [State.setLayer_layer, h]

/-- A record written reads back; every other record of the group reads as before. -/
theorem State.setLane_lane (s : State) (i j : Lane) (x : LaneRec) : (s.setLane i x).lane j = if j = i then x else s.lane j := by
  by_cases h : j = i
  · subst h; simp [State.lane, State.setLane]
  · have h' : i.val ≠ j.val := fun e => h (Fin.ext e.symm)
    simp [State.lane, State.setLane, h, h']

@[simp] theorem State.setLane_lane_self (s : State) (i : Lane) (x : LaneRec) : (s.setLane i x).lane i = x := by
  simp [State.setLane_lane]

theorem State.setLane_lane_ne (s : State) (i j : Lane) (x : LaneRec) (h : j ≠ i) : (s.setLane i x).lane j = s.lane j := by
  simp [State.setLane_lane, h]

/-- A record written reads back; every other record of the group reads as before. -/
theorem State.setRecorder_recorder (s : State) (i j : Recorder) (x : RecorderRec) : (s.setRecorder i x).recorder j = if j = i then x else s.recorder j := by
  by_cases h : j = i
  · subst h; simp [State.recorder, State.setRecorder]
  · have h' : i.val ≠ j.val := fun e => h (Fin.ext e.symm)
    simp [State.recorder, State.setRecorder, h, h']

@[simp] theorem State.setRecorder_recorder_self (s : State) (i : Recorder) (x : RecorderRec) : (s.setRecorder i x).recorder i = x := by
  simp [State.setRecorder_recorder]

theorem State.setRecorder_recorder_ne (s : State) (i j : Recorder) (x : RecorderRec) (h : j ≠ i) : (s.setRecorder i x).recorder j = s.recorder j := by
  simp [State.setRecorder_recorder, h]

/-- A record written reads back; every other record of the group reads as before. -/
theorem State.setBuffer_buffer (s : State) (i j : Slot) (x : Option Stream) : (s.setBuffer i x).buffer j = if j = i then x else s.buffer j := by
  by_cases h : j = i
  · subst h; simp [State.buffer, State.setBuffer]
  · have h' : i.val ≠ j.val := fun e => h (Fin.ext e.symm)
    simp [State.buffer, State.setBuffer, h, h']

@[simp] theorem State.setBuffer_buffer_self (s : State) (i : Slot) (x : Option Stream) : (s.setBuffer i x).buffer i = x := by
  simp [State.setBuffer_buffer]

theorem State.setBuffer_buffer_ne (s : State) (i j : Slot) (x : Option Stream) (h : j ≠ i) : (s.setBuffer i x).buffer j = s.buffer j := by
  simp [State.setBuffer_buffer, h]

/-! ## The parts of a group's record that such an update leaves -/

@[simp] theorem State.setLayer_stack (s : State) (sl : Slot) (x : LayerRec) : (s.setLayer sl x).table.stack = s.table.stack := rfl
@[simp] theorem State.setLayer_redo (s : State) (sl : Slot) (x : LayerRec) : (s.setLayer sl x).table.redo = s.table.redo := rfl
@[simp] theorem State.setLayer_groupMutes (s : State) (sl : Slot) (x : LayerRec) :
    (s.setLayer sl x).table.groupMutes = s.table.groupMutes := rfl
@[simp] theorem State.setRecorder_order (s : State) (r : Recorder) (x : RecorderRec) :
    (s.setRecorder r x).takes.order = s.takes.order := rfl
@[simp] theorem State.setBuffer_transfer (s : State) (sl : Slot) (x : Option Stream) :
    (s.setBuffer sl x).store.transfer = s.store.transfer := rfl
@[simp] theorem State.setBuffer_credit (s : State) (sl : Slot) (x : Option Stream) :
    (s.setBuffer sl x).store.credit = s.store.credit := rfl
@[simp] theorem State.setBuffer_pool (s : State) (sl : Slot) (x : Option Stream) :
    (s.setBuffer sl x).store.pool = s.store.pool := rfl

end Sys2Proof.Machine
end

