-- ==== Sys2Proof/Laws/FrameLayers.lean ====
section
/-! SUPPORT. What each operation leaves unchanged: the shared operations on layers, the mix and takes. -/

namespace Sys2Proof.Machine

/-! ## Folds and open orders -/

@[simp] theorem foldl_transport {α : Type} (f : State → α → State) (h : ∀ s a, (f s a).transport = s.transport) (xs : List α) (s : State) :
    (xs.foldl f s).transport = s.transport := by
  induction xs generalizing s with
  | nil => rfl
  | cons x xs ih => simp [ih, h]

@[simp] theorem foldl_table {α : Type} (f : State → α → State) (h : ∀ s a, (f s a).table = s.table) (xs : List α) (s : State) :
    (xs.foldl f s).table = s.table := by
  induction xs generalizing s with
  | nil => rfl
  | cons x xs ih => simp [ih, h]

@[simp] theorem foldl_cues {α : Type} (f : State → α → State) (h : ∀ s a, (f s a).cues = s.cues) (xs : List α) (s : State) :
    (xs.foldl f s).cues = s.cues := by
  induction xs generalizing s with
  | nil => rfl
  | cons x xs ih => simp [ih, h]

@[simp] theorem foldl_lanes {α : Type} (f : State → α → State) (h : ∀ s a, (f s a).lanes = s.lanes) (xs : List α) (s : State) :
    (xs.foldl f s).lanes = s.lanes := by
  induction xs generalizing s with
  | nil => rfl
  | cons x xs ih => simp [ih, h]

@[simp] theorem foldl_takes {α : Type} (f : State → α → State) (h : ∀ s a, (f s a).takes = s.takes) (xs : List α) (s : State) :
    (xs.foldl f s).takes = s.takes := by
  induction xs generalizing s with
  | nil => rfl
  | cons x xs ih => simp [ih, h]

@[simp] theorem foldl_store {α : Type} (f : State → α → State) (h : ∀ s a, (f s a).store = s.store) (xs : List α) (s : State) :
    (xs.foldl f s).store = s.store := by
  induction xs generalizing s with
  | nil => rfl
  | cons x xs ih => simp [ih, h]

@[simp] theorem foldl_mem {α : Type} (f : State → α → State) (h : ∀ s a, (f s a).mem = s.mem) (xs : List α) (s : State) :
    (xs.foldl f s).mem = s.mem := by
  induction xs generalizing s with
  | nil => rfl
  | cons x xs ih => simp [ih, h]

@[simp] theorem foldl_mix {α : Type} (f : State → α → State) (h : ∀ s a, (f s a).mix = s.mix) (xs : List α) (s : State) :
    (xs.foldl f s).mix = s.mix := by
  induction xs generalizing s with
  | nil => rfl
  | cons x xs ih => simp [ih, h]

@[simp] theorem foldl_job {α : Type} (f : State → α → State) (h : ∀ s a, (f s a).job = s.job) (xs : List α) (s : State) :
    (xs.foldl f s).job = s.job := by
  induction xs generalizing s with
  | nil => rfl
  | cons x xs ih => simp [ih, h]

@[simp] theorem foldl_link {α : Type} (f : State → α → State) (h : ∀ s a, (f s a).link = s.link) (xs : List α) (s : State) :
    (xs.foldl f s).link = s.link := by
  induction xs generalizing s with
  | nil => rfl
  | cons x xs ih => simp [ih, h]

@[simp] theorem foldl_rest {α : Type} (f : State → α → State) (h : ∀ s a, (f s a).rest = s.rest) (xs : List α) (s : State) :
    (xs.foldl f s).rest = s.rest := by
  induction xs generalizing s with
  | nil => rfl
  | cons x xs ih => simp [ih, h]

@[simp] theorem foldl_openOrders {α : Type} (f : State → α → State) (h : ∀ s a, (f s a).openOrders = s.openOrders) (xs : List α) (s : State) :
    (xs.foldl f s).openOrders = s.openOrders := by
  induction xs generalizing s with
  | nil => rfl
  | cons x xs ih => simp [ih, h]

@[simp] theorem foldl_pending {α : Type} (f : State → α → State) (h : ∀ s a, (f s a).pending = s.pending) (xs : List α) (s : State) :
    (xs.foldl f s).pending = s.pending := by
  induction xs generalizing s with
  | nil => rfl
  | cons x xs ih => simp [ih, h]

/-- Taking an open order moves only its count. -/
@[simp] theorem openOrder_frame {α : Type} (xs : List α) (s : State) :
    ((openOrder xs s).2).transport = s.transport ∧ ((openOrder xs s).2).table = s.table ∧
    ((openOrder xs s).2).cues = s.cues ∧ ((openOrder xs s).2).lanes = s.lanes ∧ ((openOrder xs s).2).takes = s.takes ∧
    ((openOrder xs s).2).store = s.store ∧ ((openOrder xs s).2).mem = s.mem ∧ ((openOrder xs s).2).mix = s.mix ∧
    ((openOrder xs s).2).job = s.job ∧ ((openOrder xs s).2).link = s.link ∧ ((openOrder xs s).2).rest = s.rest ∧
    ((openOrder xs s).2).pending = s.pending := by
  unfold openOrder; split <;> simp

/-! ## The operations -/

@[simp] theorem reply_frame (m : Message) (s : State) :
    (reply m s).transport = s.transport ∧ (reply m s).table = s.table ∧ (reply m s).cues = s.cues ∧
    (reply m s).lanes = s.lanes ∧ (reply m s).takes = s.takes ∧ (reply m s).store = s.store ∧ (reply m s).mem = s.mem ∧
    (reply m s).mix = s.mix ∧ (reply m s).job = s.job ∧ (reply m s).rest = s.rest ∧ (reply m s).openOrders = s.openOrders ∧
    (reply m s).pending = s.pending := by
  simp [reply]

@[simp] theorem raiseWithin_frame (room : Nat) (m : Message) (s : State) :
    (raiseWithin room m s).transport = s.transport ∧ (raiseWithin room m s).table = s.table ∧
    (raiseWithin room m s).cues = s.cues ∧ (raiseWithin room m s).lanes = s.lanes ∧ (raiseWithin room m s).takes = s.takes ∧
    (raiseWithin room m s).store = s.store ∧ (raiseWithin room m s).mem = s.mem ∧ (raiseWithin room m s).mix = s.mix ∧
    (raiseWithin room m s).job = s.job ∧ (raiseWithin room m s).rest = s.rest ∧
    (raiseWithin room m s).openOrders = s.openOrders ∧ (raiseWithin room m s).pending = s.pending := by
  unfold raiseWithin
  (repeat' split) <;> simp

@[simp] theorem raiseReport_frame (m : Message) (s : State) :
    (raiseReport m s).transport = s.transport ∧ (raiseReport m s).table = s.table ∧ (raiseReport m s).cues = s.cues ∧
    (raiseReport m s).lanes = s.lanes ∧ (raiseReport m s).takes = s.takes ∧ (raiseReport m s).store = s.store ∧
    (raiseReport m s).mem = s.mem ∧ (raiseReport m s).mix = s.mix ∧ (raiseReport m s).job = s.job ∧
    (raiseReport m s).rest = s.rest ∧ (raiseReport m s).openOrders = s.openOrders ∧ (raiseReport m s).pending = s.pending := by
  simp [raiseReport]

@[simp] theorem raiseLevel_frame (m : Message) (s : State) :
    (raiseLevel m s).transport = s.transport ∧ (raiseLevel m s).table = s.table ∧ (raiseLevel m s).cues = s.cues ∧
    (raiseLevel m s).lanes = s.lanes ∧ (raiseLevel m s).takes = s.takes ∧ (raiseLevel m s).store = s.store ∧
    (raiseLevel m s).mem = s.mem ∧ (raiseLevel m s).mix = s.mix ∧ (raiseLevel m s).job = s.job ∧
    (raiseLevel m s).rest = s.rest ∧ (raiseLevel m s).openOrders = s.openOrders ∧ (raiseLevel m s).pending = s.pending := by
  simp [raiseLevel]

@[simp] theorem clearFlight_frame (kind : TransferKind) (s : State) :
    (clearFlight kind s).transport = s.transport ∧ (clearFlight kind s).table = s.table ∧
    (clearFlight kind s).cues = s.cues ∧ (clearFlight kind s).lanes = s.lanes ∧ (clearFlight kind s).mem = s.mem ∧
    (clearFlight kind s).mix = s.mix ∧ (clearFlight kind s).link = s.link ∧ (clearFlight kind s).rest = s.rest ∧
    (clearFlight kind s).openOrders = s.openOrders ∧ (clearFlight kind s).pending = s.pending := by
  unfold clearFlight
  (repeat' split) <;> simp

@[simp] theorem releasePort_frame (s : State) :
    (releasePort s).transport = s.transport ∧ (releasePort s).table = s.table ∧ (releasePort s).cues = s.cues ∧
    (releasePort s).lanes = s.lanes ∧ (releasePort s).mem = s.mem ∧ (releasePort s).mix = s.mix ∧
    (releasePort s).link = s.link ∧ (releasePort s).rest = s.rest ∧ (releasePort s).openOrders = s.openOrders ∧
    (releasePort s).pending = s.pending := by
  unfold releasePort
  (repeat' split) <;> simp

@[simp] theorem endTransferIf_frame (mine : TransferKind → Bool) (s : State) :
    (endTransferIf mine s).transport = s.transport ∧ (endTransferIf mine s).table = s.table ∧
    (endTransferIf mine s).cues = s.cues ∧ (endTransferIf mine s).lanes = s.lanes ∧ (endTransferIf mine s).mem = s.mem ∧
    (endTransferIf mine s).mix = s.mix ∧ (endTransferIf mine s).link = s.link ∧ (endTransferIf mine s).rest = s.rest ∧
    (endTransferIf mine s).openOrders = s.openOrders ∧ (endTransferIf mine s).pending = s.pending := by
  unfold endTransferIf
  (repeat' split) <;> simp

@[simp] theorem resetRecorder_frame (r : Recorder) (s : State) :
    (resetRecorder r s).transport = s.transport ∧ (resetRecorder r s).table = s.table ∧ (resetRecorder r s).cues = s.cues ∧
    (resetRecorder r s).lanes = s.lanes ∧ (resetRecorder r s).store = s.store ∧ (resetRecorder r s).mem = s.mem ∧
    (resetRecorder r s).mix = s.mix ∧ (resetRecorder r s).job = s.job ∧ (resetRecorder r s).link = s.link ∧
    (resetRecorder r s).rest = s.rest ∧ (resetRecorder r s).openOrders = s.openOrders ∧
    (resetRecorder r s).pending = s.pending := by
  simp [resetRecorder]

@[simp] theorem primingCheck_frame (s : State) :
    (primingCheck s).table = s.table ∧ (primingCheck s).cues = s.cues ∧ (primingCheck s).lanes = s.lanes ∧
    (primingCheck s).takes = s.takes ∧ (primingCheck s).store = s.store ∧ (primingCheck s).mem = s.mem ∧
    (primingCheck s).mix = s.mix ∧ (primingCheck s).job = s.job ∧ (primingCheck s).link = s.link ∧
    (primingCheck s).rest = s.rest ∧ (primingCheck s).openOrders = s.openOrders ∧ (primingCheck s).pending = s.pending := by
  unfold primingCheck
  (repeat' split) <;> simp

@[simp] theorem landEntries_frame (sl : Slot) (entries : List Entry) (s : State) :
    (landEntries sl entries s).table = s.table ∧ (landEntries sl entries s).cues = s.cues ∧
    (landEntries sl entries s).lanes = s.lanes ∧ (landEntries sl entries s).takes = s.takes ∧
    (landEntries sl entries s).mem = s.mem ∧ (landEntries sl entries s).mix = s.mix ∧
    (landEntries sl entries s).job = s.job ∧ (landEntries sl entries s).link = s.link ∧
    (landEntries sl entries s).rest = s.rest ∧ (landEntries sl entries s).openOrders = s.openOrders ∧
    (landEntries sl entries s).pending = s.pending := by
  unfold landEntries
  dsimp only
  (repeat' split) <;> simp

@[simp] theorem placeSilent_frame (s : State) (sl : Slot) :
    (placeSilent s sl).table = s.table ∧ (placeSilent s sl).cues = s.cues ∧ (placeSilent s sl).lanes = s.lanes ∧
    (placeSilent s sl).takes = s.takes ∧ (placeSilent s sl).mem = s.mem ∧ (placeSilent s sl).mix = s.mix ∧
    (placeSilent s sl).job = s.job ∧ (placeSilent s sl).link = s.link ∧ (placeSilent s sl).rest = s.rest ∧
    (placeSilent s sl).openOrders = s.openOrders ∧ (placeSilent s sl).pending = s.pending := by
  unfold placeSilent
  (repeat' split) <;> simp

@[simp] theorem raiseRefill_frame (sl : Slot) (s : State) :
    (raiseRefill sl s).table = s.table ∧ (raiseRefill sl s).cues = s.cues ∧ (raiseRefill sl s).lanes = s.lanes ∧ (raiseRefill sl s).takes = s.takes ∧
    (raiseRefill sl s).mem = s.mem ∧ (raiseRefill sl s).mix = s.mix ∧ (raiseRefill sl s).job = s.job ∧ (raiseRefill sl s).link = s.link ∧
    (raiseRefill sl s).rest = s.rest ∧ (raiseRefill sl s).openOrders = s.openOrders ∧ (raiseRefill sl s).pending = s.pending := by
  simp [raiseRefill]

@[simp] theorem placeAll_frame (s : State) :
    (placeAll s).table = s.table ∧ (placeAll s).cues = s.cues ∧ (placeAll s).lanes = s.lanes ∧ (placeAll s).takes = s.takes ∧
    (placeAll s).mem = s.mem ∧ (placeAll s).mix = s.mix ∧ (placeAll s).job = s.job ∧ (placeAll s).link = s.link ∧
    (placeAll s).rest = s.rest ∧ (placeAll s).openOrders = s.openOrders ∧ (placeAll s).pending = s.pending := by
  simp [placeAll]

@[simp] theorem activate_frame (sl : Slot) (s : State) :
    (activate sl s).table = s.table ∧ (activate sl s).cues = s.cues ∧ (activate sl s).lanes = s.lanes ∧
    (activate sl s).takes = s.takes ∧ (activate sl s).mem = s.mem ∧ (activate sl s).mix = s.mix ∧
    (activate sl s).job = s.job ∧ (activate sl s).link = s.link ∧ (activate sl s).rest = s.rest ∧
    (activate sl s).openOrders = s.openOrders ∧ (activate sl s).pending = s.pending := by
  unfold activate
  (repeat' split) <;> simp

@[simp] theorem withdraw_frame (sl : Slot) (s : State) :
    (withdraw sl s).transport = s.transport ∧ (withdraw sl s).table = s.table ∧ (withdraw sl s).cues = s.cues ∧
    (withdraw sl s).lanes = s.lanes ∧ (withdraw sl s).mem = s.mem ∧ (withdraw sl s).mix = s.mix ∧
    (withdraw sl s).link = s.link ∧ (withdraw sl s).rest = s.rest ∧ (withdraw sl s).openOrders = s.openOrders ∧
    (withdraw sl s).pending = s.pending := by
  simp [withdraw]

@[simp] theorem leaveLists_frame (sl : Slot) (s : State) :
    (leaveLists sl s).transport = s.transport ∧ (leaveLists sl s).cues = s.cues ∧ (leaveLists sl s).lanes = s.lanes ∧
    (leaveLists sl s).takes = s.takes ∧ (leaveLists sl s).store = s.store ∧ (leaveLists sl s).mem = s.mem ∧
    (leaveLists sl s).mix = s.mix ∧ (leaveLists sl s).job = s.job ∧ (leaveLists sl s).link = s.link ∧
    (leaveLists sl s).rest = s.rest ∧ (leaveLists sl s).openOrders = s.openOrders ∧ (leaveLists sl s).pending = s.pending := by
  simp [leaveLists]

@[simp] theorem returnPages_frame (sl : Slot) (s : State) :
    (returnPages sl s).transport = s.transport ∧ (returnPages sl s).table = s.table ∧ (returnPages sl s).cues = s.cues ∧
    (returnPages sl s).lanes = s.lanes ∧ (returnPages sl s).takes = s.takes ∧ (returnPages sl s).mem = s.mem ∧
    (returnPages sl s).mix = s.mix ∧ (returnPages sl s).job = s.job ∧ (returnPages sl s).link = s.link ∧
    (returnPages sl s).rest = s.rest ∧ (returnPages sl s).openOrders = s.openOrders ∧ (returnPages sl s).pending = s.pending := by
  simp [returnPages]

@[simp] theorem endTail_frame (sl : Slot) (s : State) :
    (endTail sl s).transport = s.transport ∧ (endTail sl s).table = s.table ∧ (endTail sl s).cues = s.cues ∧
    (endTail sl s).lanes = s.lanes ∧ (endTail sl s).store = s.store ∧ (endTail sl s).mem = s.mem ∧
    (endTail sl s).mix = s.mix ∧ (endTail sl s).job = s.job ∧ (endTail sl s).link = s.link ∧ (endTail sl s).rest = s.rest ∧
    (endTail sl s).openOrders = s.openOrders ∧ (endTail sl s).pending = s.pending := by
  unfold endTail
  (repeat' split) <;> simp

@[simp] theorem freeLayer_frame (sl : Slot) (s : State) :
    (freeLayer sl s).transport = s.transport ∧ (freeLayer sl s).cues = s.cues ∧ (freeLayer sl s).lanes = s.lanes ∧
    (freeLayer sl s).mem = s.mem ∧ (freeLayer sl s).mix = s.mix ∧ (freeLayer sl s).link = s.link ∧
    (freeLayer sl s).rest = s.rest ∧ (freeLayer sl s).openOrders = s.openOrders ∧ (freeLayer sl s).pending = s.pending := by
  simp [freeLayer]

@[simp] theorem freeLayers_frame (sls : List Slot) (s : State) :
    (freeLayers sls s).transport = s.transport ∧ (freeLayers sls s).cues = s.cues ∧ (freeLayers sls s).lanes = s.lanes ∧
    (freeLayers sls s).mem = s.mem ∧ (freeLayers sls s).mix = s.mix ∧ (freeLayers sls s).link = s.link ∧
    (freeLayers sls s).rest = s.rest ∧ (freeLayers sls s).openOrders = s.openOrders ∧ (freeLayers sls s).pending = s.pending := by
  simp [freeLayers]

@[simp] theorem releaseRedo_frame (s : State) :
    (releaseRedo s).transport = s.transport ∧ (releaseRedo s).cues = s.cues ∧ (releaseRedo s).lanes = s.lanes ∧
    (releaseRedo s).mem = s.mem ∧ (releaseRedo s).mix = s.mix ∧ (releaseRedo s).link = s.link ∧
    (releaseRedo s).rest = s.rest ∧ (releaseRedo s).openOrders = s.openOrders ∧ (releaseRedo s).pending = s.pending := by
  simp [releaseRedo]

@[simp] theorem freeAll_frame (s : State) :
    (freeAll s).transport = s.transport ∧ (freeAll s).cues = s.cues ∧ (freeAll s).lanes = s.lanes ∧ (freeAll s).mem = s.mem ∧
    (freeAll s).mix = s.mix ∧ (freeAll s).link = s.link ∧ (freeAll s).rest = s.rest ∧ (freeAll s).openOrders = s.openOrders ∧
    (freeAll s).pending = s.pending := by
  simp [freeAll]

@[simp] theorem mapLayers_frame (f : Slot → LayerRec → LayerRec) (s : State) :
    (mapLayers f s).transport = s.transport ∧ (mapLayers f s).cues = s.cues ∧ (mapLayers f s).lanes = s.lanes ∧
    (mapLayers f s).takes = s.takes ∧ (mapLayers f s).store = s.store ∧ (mapLayers f s).mem = s.mem ∧
    (mapLayers f s).mix = s.mix ∧ (mapLayers f s).job = s.job ∧ (mapLayers f s).link = s.link ∧
    (mapLayers f s).rest = s.rest ∧ (mapLayers f s).openOrders = s.openOrders ∧ (mapLayers f s).pending = s.pending := by
  simp [mapLayers]

@[simp] theorem advanceCycles_frame (skip : Option Slot) (s : State) :
    (advanceCycles skip s).transport = s.transport ∧ (advanceCycles skip s).cues = s.cues ∧
    (advanceCycles skip s).lanes = s.lanes ∧ (advanceCycles skip s).takes = s.takes ∧
    (advanceCycles skip s).store = s.store ∧ (advanceCycles skip s).mem = s.mem ∧ (advanceCycles skip s).mix = s.mix ∧
    (advanceCycles skip s).job = s.job ∧ (advanceCycles skip s).link = s.link ∧ (advanceCycles skip s).rest = s.rest ∧
    (advanceCycles skip s).openOrders = s.openOrders ∧ (advanceCycles skip s).pending = s.pending := by
  simp [advanceCycles]

@[simp] theorem haltCycles_frame (s : State) :
    (haltCycles s).transport = s.transport ∧ (haltCycles s).cues = s.cues ∧ (haltCycles s).lanes = s.lanes ∧
    (haltCycles s).takes = s.takes ∧ (haltCycles s).store = s.store ∧ (haltCycles s).mem = s.mem ∧
    (haltCycles s).mix = s.mix ∧ (haltCycles s).job = s.job ∧ (haltCycles s).link = s.link ∧ (haltCycles s).rest = s.rest ∧
    (haltCycles s).openOrders = s.openOrders ∧ (haltCycles s).pending = s.pending := by
  simp [haltCycles]

@[simp] theorem joinStack_frame (sl : Slot) (s : State) :
    (joinStack sl s).cues = s.cues ∧ (joinStack sl s).lanes = s.lanes ∧ (joinStack sl s).takes = s.takes ∧
    (joinStack sl s).mem = s.mem ∧ (joinStack sl s).mix = s.mix ∧ (joinStack sl s).job = s.job ∧
    (joinStack sl s).link = s.link ∧ (joinStack sl s).rest = s.rest ∧ (joinStack sl s).openOrders = s.openOrders ∧
    (joinStack sl s).pending = s.pending := by
  simp [joinStack]

@[simp] theorem formMix_frame (r : Lane → Int) (s : State) :
    (formMix r s).transport = s.transport ∧ (formMix r s).table = s.table ∧ (formMix r s).cues = s.cues ∧
    (formMix r s).lanes = s.lanes ∧ (formMix r s).takes = s.takes ∧ (formMix r s).store = s.store ∧
    (formMix r s).mem = s.mem ∧ (formMix r s).job = s.job ∧ (formMix r s).link = s.link ∧ (formMix r s).rest = s.rest ∧
    (formMix r s).openOrders = s.openOrders ∧ (formMix r s).pending = s.pending := by
  simp [formMix]

@[simp] theorem startBurst_frame (beat : Nat) (s : State) :
    (startBurst beat s).transport = s.transport ∧ (startBurst beat s).table = s.table ∧ (startBurst beat s).cues = s.cues ∧
    (startBurst beat s).lanes = s.lanes ∧ (startBurst beat s).takes = s.takes ∧ (startBurst beat s).store = s.store ∧
    (startBurst beat s).mem = s.mem ∧ (startBurst beat s).job = s.job ∧ (startBurst beat s).link = s.link ∧
    (startBurst beat s).rest = s.rest ∧ (startBurst beat s).openOrders = s.openOrders ∧
    (startBurst beat s).pending = s.pending := by
  unfold startBurst
  (repeat' split) <;> simp

@[simp] theorem pulseAt_frame (beat : Nat) (s : State) :
    (pulseAt beat s).table = s.table ∧ (pulseAt beat s).cues = s.cues ∧ (pulseAt beat s).lanes = s.lanes ∧
    (pulseAt beat s).takes = s.takes ∧ (pulseAt beat s).store = s.store ∧ (pulseAt beat s).mem = s.mem ∧
    (pulseAt beat s).mix = s.mix ∧ (pulseAt beat s).job = s.job ∧ (pulseAt beat s).link = s.link ∧
    (pulseAt beat s).rest = s.rest ∧ (pulseAt beat s).openOrders = s.openOrders ∧ (pulseAt beat s).pending = s.pending := by
  unfold pulseAt
  (repeat' split) <;> simp

/-- What an acquisition that succeeds leaves unchanged. -/
theorem acquirePage_frame (sl : Slot) (s t : State) (h : acquirePage sl s = .ok t) :
    t.transport = s.transport ∧ t.cues = s.cues ∧ t.lanes = s.lanes ∧ t.takes = s.takes ∧ t.mem = s.mem ∧ t.mix = s.mix ∧
    t.job = s.job ∧ t.link = s.link ∧ t.rest = s.rest ∧ t.openOrders = s.openOrders ∧ t.pending = s.pending := by
  unfold acquirePage at h
  split at h
  · cases h
  · split at h
    · cases h
    · cases h; simp

@[simp] theorem admitWith_frame (r : Recorder) (sl : Slot) (lane : Lane) (multiple : Nat) (group : Group) (base : Bool)
    (start : Nat) (s : State) :
    (admitWith r sl lane multiple group base start s).transport = s.transport ∧
    (admitWith r sl lane multiple group base start s).cues = s.cues ∧
    (admitWith r sl lane multiple group base start s).lanes = s.lanes ∧
    (admitWith r sl lane multiple group base start s).mem = s.mem ∧
    (admitWith r sl lane multiple group base start s).mix = s.mix ∧
    (admitWith r sl lane multiple group base start s).job = s.job ∧
    (admitWith r sl lane multiple group base start s).link = s.link ∧
    (admitWith r sl lane multiple group base start s).rest = s.rest ∧
    (admitWith r sl lane multiple group base start s).openOrders = s.openOrders ∧
    (admitWith r sl lane multiple group base start s).pending = s.pending := by
  unfold admitWith
  dsimp only
  split
  · rename_i h
    simp [acquirePage_frame _ _ _ h]
  · simp

@[simp] theorem admitTake_frame (lane : Lane) (multiple : Nat) (group : Group) (base : Bool) (start : Nat) (s : State) :
    (admitTake lane multiple group base start s).transport = s.transport ∧
    (admitTake lane multiple group base start s).cues = s.cues ∧
    (admitTake lane multiple group base start s).lanes = s.lanes ∧ (admitTake lane multiple group base start s).mem = s.mem ∧
    (admitTake lane multiple group base start s).mix = s.mix ∧ (admitTake lane multiple group base start s).link = s.link ∧
    (admitTake lane multiple group base start s).rest = s.rest ∧
    (admitTake lane multiple group base start s).openOrders = s.openOrders ∧
    (admitTake lane multiple group base start s).pending = s.pending := by
  unfold admitTake
  dsimp only
  (repeat' split) <;> simp

@[simp] theorem fillGap_frame (r : Recorder) (sl : Slot) (n : Nat) (s : State) :
    (fillGap r sl n s).transport = s.transport ∧ (fillGap r sl n s).cues = s.cues ∧ (fillGap r sl n s).lanes = s.lanes ∧
    (fillGap r sl n s).store = s.store ∧ (fillGap r sl n s).mem = s.mem ∧ (fillGap r sl n s).mix = s.mix ∧
    (fillGap r sl n s).job = s.job ∧ (fillGap r sl n s).link = s.link ∧ (fillGap r sl n s).rest = s.rest ∧
    (fillGap r sl n s).openOrders = s.openOrders ∧ (fillGap r sl n s).pending = s.pending := by
  simp [fillGap]

@[simp] theorem closeGap_frame (r : Recorder) (sl : Slot) (s : State) :
    (closeGap r sl s).transport = s.transport ∧ (closeGap r sl s).cues = s.cues ∧ (closeGap r sl s).lanes = s.lanes ∧
    (closeGap r sl s).store = s.store ∧ (closeGap r sl s).mem = s.mem ∧ (closeGap r sl s).mix = s.mix ∧
    (closeGap r sl s).job = s.job ∧ (closeGap r sl s).link = s.link ∧ (closeGap r sl s).rest = s.rest ∧
    (closeGap r sl s).openOrders = s.openOrders ∧ (closeGap r sl s).pending = s.pending := by
  unfold closeGap
  (repeat' split) <;> simp

@[simp] theorem reportTakeEnd_frame (r : Recorder) (sl : Slot) (reason : EndReason) (s : State) :
    (reportTakeEnd r sl reason s).transport = s.transport ∧ (reportTakeEnd r sl reason s).table = s.table ∧
    (reportTakeEnd r sl reason s).cues = s.cues ∧ (reportTakeEnd r sl reason s).lanes = s.lanes ∧
    (reportTakeEnd r sl reason s).takes = s.takes ∧ (reportTakeEnd r sl reason s).store = s.store ∧
    (reportTakeEnd r sl reason s).mem = s.mem ∧ (reportTakeEnd r sl reason s).mix = s.mix ∧
    (reportTakeEnd r sl reason s).job = s.job ∧ (reportTakeEnd r sl reason s).rest = s.rest ∧
    (reportTakeEnd r sl reason s).openOrders = s.openOrders ∧ (reportTakeEnd r sl reason s).pending = s.pending := by
  simp [reportTakeEnd]

@[simp] theorem dropTake_frame (r : Recorder) (sl : Slot) (reason : EndReason) (s : State) :
    (dropTake r sl reason s).transport = s.transport ∧ (dropTake r sl reason s).cues = s.cues ∧
    (dropTake r sl reason s).lanes = s.lanes ∧ (dropTake r sl reason s).mem = s.mem ∧ (dropTake r sl reason s).mix = s.mix ∧
    (dropTake r sl reason s).rest = s.rest ∧ (dropTake r sl reason s).openOrders = s.openOrders ∧
    (dropTake r sl reason s).pending = s.pending := by
  simp [dropTake]

@[simp] theorem finishTake_frame (r : Recorder) (sl : Slot) (s : State) :
    (finishTake r sl s).cues = s.cues ∧ (finishTake r sl s).lanes = s.lanes ∧ (finishTake r sl s).mem = s.mem ∧
    (finishTake r sl s).mix = s.mix ∧ (finishTake r sl s).job = s.job ∧ (finishTake r sl s).rest = s.rest ∧
    (finishTake r sl s).openOrders = s.openOrders ∧ (finishTake r sl s).pending = s.pending := by
  simp [finishTake]

@[simp] theorem drainDone_frame (r : Recorder) (s : State) :
    (drainDone r s).cues = s.cues ∧ (drainDone r s).lanes = s.lanes ∧ (drainDone r s).mem = s.mem ∧
    (drainDone r s).mix = s.mix ∧ (drainDone r s).job = s.job ∧ (drainDone r s).rest = s.rest ∧
    (drainDone r s).openOrders = s.openOrders ∧ (drainDone r s).pending = s.pending := by
  unfold drainDone
  (repeat' split) <;> simp

@[simp] theorem endTake_frame (reason : EndReason) (s : State) (r : Recorder) :
    (endTake reason s r).cues = s.cues ∧ (endTake reason s r).lanes = s.lanes ∧ (endTake reason s r).mem = s.mem ∧
    (endTake reason s r).mix = s.mix ∧ (endTake reason s r).rest = s.rest ∧ (endTake reason s r).openOrders = s.openOrders ∧
    (endTake reason s r).pending = s.pending := by
  unfold endTake
  dsimp only
  (repeat' split) <;> simp

@[simp] theorem abortTake_frame (s : State) (r : Recorder) :
    (abortTake s r).transport = s.transport ∧ (abortTake s r).cues = s.cues ∧ (abortTake s r).lanes = s.lanes ∧
    (abortTake s r).mem = s.mem ∧ (abortTake s r).mix = s.mix ∧ (abortTake s r).rest = s.rest ∧
    (abortTake s r).openOrders = s.openOrders ∧ (abortTake s r).pending = s.pending := by
  unfold abortTake
  (repeat' split) <;> simp

@[simp] theorem reportCancelled_frame (s : State) (e : CueEntry) :
    (reportCancelled s e).transport = s.transport ∧ (reportCancelled s e).table = s.table ∧
    (reportCancelled s e).cues = s.cues ∧ (reportCancelled s e).lanes = s.lanes ∧ (reportCancelled s e).takes = s.takes ∧
    (reportCancelled s e).store = s.store ∧ (reportCancelled s e).mem = s.mem ∧ (reportCancelled s e).mix = s.mix ∧
    (reportCancelled s e).job = s.job ∧ (reportCancelled s e).rest = s.rest ∧
    (reportCancelled s e).openOrders = s.openOrders ∧ (reportCancelled s e).pending = s.pending := by
  simp [reportCancelled]

@[simp] theorem cancelCues_frame (s : State) :
    (cancelCues s).transport = s.transport ∧ (cancelCues s).table = s.table ∧ (cancelCues s).lanes = s.lanes ∧
    (cancelCues s).takes = s.takes ∧ (cancelCues s).store = s.store ∧ (cancelCues s).mem = s.mem ∧
    (cancelCues s).mix = s.mix ∧ (cancelCues s).job = s.job ∧ (cancelCues s).rest = s.rest ∧
    (cancelCues s).openOrders = s.openOrders ∧ (cancelCues s).pending = s.pending := by
  simp [cancelCues]

/-- The mix record without the mark that a HALT or an abort leaves in it. -/
def Mix.unmarked (m : Mix) : Mix := { m with burstEnding := false }

@[simp] theorem stopBurst_frame (s : State) :
    (stopBurst s).transport = s.transport ∧ (stopBurst s).table = s.table ∧ (stopBurst s).cues = s.cues ∧
    (stopBurst s).lanes = s.lanes ∧ (stopBurst s).takes = s.takes ∧ (stopBurst s).store = s.store ∧
    (stopBurst s).mem = s.mem ∧ (stopBurst s).job = s.job ∧ (stopBurst s).link = s.link ∧ (stopBurst s).rest = s.rest ∧
    (stopBurst s).openOrders = s.openOrders ∧ (stopBurst s).pending = s.pending := by
  simp [stopBurst]

/-- Stopping the burst marks it, and changes nothing else of the mix record. -/
@[simp] theorem stopBurst_mix (s : State) : (stopBurst s).mix = { s.mix with burstEnding := true } := rfl

@[simp] theorem abortBase_frame (r : Recorder) (s : State) :
    (abortBase r s).lanes = s.lanes ∧ (abortBase r s).mem = s.mem ∧ (abortBase r s).rest = s.rest ∧
    (abortBase r s).openOrders = s.openOrders ∧ (abortBase r s).pending = s.pending := by
  simp [abortBase]

/-- The abort of the base take leaves the mix record but for the mark. -/
@[simp] theorem abortBase_mix (r : Recorder) (s : State) : (abortBase r s).mix = { s.mix with burstEnding := true } := by
  simp [abortBase]

@[simp] theorem loseSample_frame (r : Recorder) (sl : Slot) (s : State) :
    (loseSample r sl s).transport = s.transport ∧ (loseSample r sl s).cues = s.cues ∧ (loseSample r sl s).lanes = s.lanes ∧
    (loseSample r sl s).store = s.store ∧ (loseSample r sl s).mem = s.mem ∧ (loseSample r sl s).mix = s.mix ∧
    (loseSample r sl s).job = s.job ∧ (loseSample r sl s).link = s.link ∧ (loseSample r sl s).rest = s.rest ∧
    (loseSample r sl s).openOrders = s.openOrders ∧ (loseSample r sl s).pending = s.pending := by
  unfold loseSample
  dsimp only
  (repeat' split) <;> simp

@[simp] theorem storeSample_frame (r : Recorder) (o : Nat) (v : Int) (s : State) :
    (storeSample r o v s).transport = s.transport ∧ (storeSample r o v s).table = s.table ∧
    (storeSample r o v s).cues = s.cues ∧ (storeSample r o v s).lanes = s.lanes ∧ (storeSample r o v s).store = s.store ∧
    (storeSample r o v s).mem = s.mem ∧ (storeSample r o v s).mix = s.mix ∧ (storeSample r o v s).job = s.job ∧
    (storeSample r o v s).link = s.link ∧ (storeSample r o v s).rest = s.rest ∧
    (storeSample r o v s).openOrders = s.openOrders ∧ (storeSample r o v s).pending = s.pending := by
  unfold storeSample
  (repeat' split) <;> simp

@[simp] theorem takeSample_frame (r : Recorder) (sl : Slot) (o : Nat) (v : Int) (s : State) :
    (takeSample r sl o v s).transport = s.transport ∧ (takeSample r sl o v s).cues = s.cues ∧
    (takeSample r sl o v s).lanes = s.lanes ∧ (takeSample r sl o v s).store = s.store ∧ (takeSample r sl o v s).mem = s.mem ∧
    (takeSample r sl o v s).mix = s.mix ∧ (takeSample r sl o v s).job = s.job ∧ (takeSample r sl o v s).link = s.link ∧
    (takeSample r sl o v s).rest = s.rest ∧ (takeSample r sl o v s).openOrders = s.openOrders ∧
    (takeSample r sl o v s).pending = s.pending := by
  unfold takeSample
  dsimp only
  (repeat' split) <;> simp

@[simp] theorem exhaustRecorder_frame (r : Recorder) (sl : Slot) (reason : EndReason) (s : State) :
    (exhaustRecorder r sl reason s).transport = s.transport ∧ (exhaustRecorder r sl reason s).cues = s.cues ∧
    (exhaustRecorder r sl reason s).lanes = s.lanes ∧ (exhaustRecorder r sl reason s).store = s.store ∧
    (exhaustRecorder r sl reason s).mem = s.mem ∧ (exhaustRecorder r sl reason s).mix = s.mix ∧
    (exhaustRecorder r sl reason s).job = s.job ∧ (exhaustRecorder r sl reason s).link = s.link ∧
    (exhaustRecorder r sl reason s).rest = s.rest ∧ (exhaustRecorder r sl reason s).openOrders = s.openOrders ∧
    (exhaustRecorder r sl reason s).pending = s.pending := by
  simp [exhaustRecorder]

@[simp] theorem exhaustGrid_frame (s : State) :
    (exhaustGrid s).table = s.table ∧ (exhaustGrid s).cues = s.cues ∧ (exhaustGrid s).lanes = s.lanes ∧
    (exhaustGrid s).takes = s.takes ∧ (exhaustGrid s).store = s.store ∧ (exhaustGrid s).mem = s.mem ∧
    (exhaustGrid s).mix = s.mix ∧ (exhaustGrid s).job = s.job ∧ (exhaustGrid s).link = s.link ∧
    (exhaustGrid s).rest = s.rest ∧ (exhaustGrid s).openOrders = s.openOrders ∧ (exhaustGrid s).pending = s.pending := by
  simp [exhaustGrid]

@[simp] theorem recordSample_frame (value : Lane → Int) (s : State) (r : Recorder) :
    (recordSample value s r).cues = s.cues ∧ (recordSample value s r).lanes = s.lanes ∧
    (recordSample value s r).mem = s.mem ∧ (recordSample value s r).mix = s.mix ∧ (recordSample value s r).rest = s.rest ∧
    (recordSample value s r).openOrders = s.openOrders ∧ (recordSample value s r).pending = s.pending := by
  unfold recordSample
  split
  · dsimp only
    by_cases ho : opensPage (s.layer ‹Slot›).len = true
    · simp only [ho, if_true]
      split
      · rename_i h
        simp [acquirePage_frame _ _ _ h]
      · split <;> simp
    · simp [ho]
  · simp

@[simp] theorem recordAll_frame (value : Lane → Int) (s : State) :
    (recordAll value s).cues = s.cues ∧ (recordAll value s).lanes = s.lanes ∧ (recordAll value s).mem = s.mem ∧
    (recordAll value s).mix = s.mix ∧ (recordAll value s).rest = s.rest ∧ (recordAll value s).pending = s.pending := by
  simp [recordAll]

end Sys2Proof.Machine
end

