-- ==== Sys2Proof/Laws/FrameCues.lean ====
section
/-! SUPPORT. What each operation leaves unchanged: the bounce engine, the cues and the boundary. -/

namespace Sys2Proof.Machine

@[simp] theorem setChunk_frame (ch : Chunk) (s : State) :
    (setChunk ch s).transport = s.transport ∧ (setChunk ch s).table = s.table ∧ (setChunk ch s).cues = s.cues ∧
    (setChunk ch s).lanes = s.lanes ∧ (setChunk ch s).takes = s.takes ∧ (setChunk ch s).store = s.store ∧
    (setChunk ch s).mem = s.mem ∧ (setChunk ch s).mix = s.mix ∧ (setChunk ch s).link = s.link ∧
    (setChunk ch s).rest = s.rest ∧ (setChunk ch s).openOrders = s.openOrders ∧ (setChunk ch s).pending = s.pending := by
  unfold setChunk
  (repeat' split) <;> simp

@[simp] theorem setUpChunk_frame (s : State) :
    (setUpChunk s).transport = s.transport ∧ (setUpChunk s).table = s.table ∧ (setUpChunk s).cues = s.cues ∧
    (setUpChunk s).lanes = s.lanes ∧ (setUpChunk s).takes = s.takes ∧ (setUpChunk s).store = s.store ∧
    (setUpChunk s).mem = s.mem ∧ (setUpChunk s).mix = s.mix ∧ (setUpChunk s).link = s.link ∧ (setUpChunk s).rest = s.rest ∧
    (setUpChunk s).openOrders = s.openOrders ∧ (setUpChunk s).pending = s.pending := by
  simp [setUpChunk]

@[simp] theorem addPiece_frame (ch : Chunk) (s : State) :
    (addPiece ch s).transport = s.transport ∧ (addPiece ch s).table = s.table ∧ (addPiece ch s).cues = s.cues ∧
    (addPiece ch s).lanes = s.lanes ∧ (addPiece ch s).takes = s.takes ∧ (addPiece ch s).store = s.store ∧
    (addPiece ch s).mem = s.mem ∧ (addPiece ch s).mix = s.mix ∧ (addPiece ch s).link = s.link ∧
    (addPiece ch s).rest = s.rest ∧ (addPiece ch s).openOrders = s.openOrders ∧ (addPiece ch s).pending = s.pending := by
  unfold addPiece
  dsimp only
  (repeat' split) <;> simp

@[simp] theorem setHeld_frame (slots : List Slot) (held : Bool) (s : State) :
    (setHeld slots held s).transport = s.transport ∧ (setHeld slots held s).cues = s.cues ∧
    (setHeld slots held s).lanes = s.lanes ∧ (setHeld slots held s).takes = s.takes ∧
    (setHeld slots held s).store = s.store ∧ (setHeld slots held s).mem = s.mem ∧ (setHeld slots held s).mix = s.mix ∧
    (setHeld slots held s).job = s.job ∧ (setHeld slots held s).link = s.link ∧ (setHeld slots held s).rest = s.rest ∧
    (setHeld slots held s).openOrders = s.openOrders ∧ (setHeld slots held s).pending = s.pending := by
  simp [setHeld]

@[simp] theorem admitBounce_frame (slots : List Slot) (s : State) :
    (admitBounce slots s).transport = s.transport ∧ (admitBounce slots s).cues = s.cues ∧
    (admitBounce slots s).lanes = s.lanes ∧ (admitBounce slots s).mem = s.mem ∧ (admitBounce slots s).mix = s.mix ∧
    (admitBounce slots s).link = s.link ∧ (admitBounce slots s).rest = s.rest ∧
    (admitBounce slots s).openOrders = s.openOrders ∧ (admitBounce slots s).pending = s.pending := by
  unfold admitBounce
  dsimp only
  (repeat' split) <;> simp

@[simp] theorem reportBounceEnd_frame (result : BounceResult) (sl : Slot) (progress : Nat) (s : State) :
    (reportBounceEnd result sl progress s).transport = s.transport ∧ (reportBounceEnd result sl progress s).table = s.table ∧
    (reportBounceEnd result sl progress s).cues = s.cues ∧ (reportBounceEnd result sl progress s).lanes = s.lanes ∧
    (reportBounceEnd result sl progress s).takes = s.takes ∧ (reportBounceEnd result sl progress s).store = s.store ∧
    (reportBounceEnd result sl progress s).mem = s.mem ∧ (reportBounceEnd result sl progress s).mix = s.mix ∧
    (reportBounceEnd result sl progress s).job = s.job ∧ (reportBounceEnd result sl progress s).rest = s.rest ∧
    (reportBounceEnd result sl progress s).openOrders = s.openOrders ∧
    (reportBounceEnd result sl progress s).pending = s.pending := by
  simp [reportBounceEnd]

@[simp] theorem activateResult_frame (result : Slot) (k : Nat) (s : State) :
    (activateResult result k s).cues = s.cues ∧ (activateResult result k s).lanes = s.lanes ∧
    (activateResult result k s).takes = s.takes ∧ (activateResult result k s).mem = s.mem ∧
    (activateResult result k s).mix = s.mix ∧ (activateResult result k s).job = s.job ∧
    (activateResult result k s).link = s.link ∧ (activateResult result k s).rest = s.rest ∧
    (activateResult result k s).openOrders = s.openOrders ∧ (activateResult result k s).pending = s.pending := by
  simp [activateResult]

@[simp] theorem completeBounce_frame (result : Slot) (s : State) :
    (completeBounce result s).cues = s.cues ∧ (completeBounce result s).lanes = s.lanes ∧
    (completeBounce result s).mem = s.mem ∧ (completeBounce result s).mix = s.mix ∧ (completeBounce result s).rest = s.rest ∧
    (completeBounce result s).openOrders = s.openOrders ∧ (completeBounce result s).pending = s.pending := by
  simp [completeBounce]

@[simp] theorem abortBounce_frame (s : State) :
    (abortBounce s).transport = s.transport ∧ (abortBounce s).cues = s.cues ∧ (abortBounce s).lanes = s.lanes ∧
    (abortBounce s).mem = s.mem ∧ (abortBounce s).mix = s.mix ∧ (abortBounce s).rest = s.rest ∧
    (abortBounce s).openOrders = s.openOrders ∧ (abortBounce s).pending = s.pending := by
  unfold abortBounce
  dsimp only
  (repeat' split) <;> simp

@[simp] theorem writeChunk_frame (ch : Chunk) (result : Slot) (s : State) :
    (writeChunk ch result s).cues = s.cues ∧ (writeChunk ch result s).lanes = s.lanes ∧
    (writeChunk ch result s).mix = s.mix ∧ (writeChunk ch result s).rest = s.rest ∧
    (writeChunk ch result s).openOrders = s.openOrders ∧ (writeChunk ch result s).pending = s.pending := by
  unfold writeChunk
  dsimp only
  (repeat' split) <;> simp

@[simp] theorem applyMute_frame (on : Bool) (p1 p2 : Byte) (s : State) :
    (applyMute on p1 p2 s).transport = s.transport ∧ (applyMute on p1 p2 s).cues = s.cues ∧
    (applyMute on p1 p2 s).lanes = s.lanes ∧ (applyMute on p1 p2 s).takes = s.takes ∧
    (applyMute on p1 p2 s).store = s.store ∧ (applyMute on p1 p2 s).mem = s.mem ∧ (applyMute on p1 p2 s).mix = s.mix ∧
    (applyMute on p1 p2 s).job = s.job ∧ (applyMute on p1 p2 s).link = s.link ∧ (applyMute on p1 p2 s).rest = s.rest ∧
    (applyMute on p1 p2 s).openOrders = s.openOrders ∧ (applyMute on p1 p2 s).pending = s.pending := by
  unfold applyMute
  (repeat' split) <;> simp

@[simp] theorem parkLayer_frame (sl : Slot) (s : State) :
    (parkLayer sl s).cues = s.cues ∧ (parkLayer sl s).lanes = s.lanes ∧ (parkLayer sl s).mem = s.mem ∧
    (parkLayer sl s).mix = s.mix ∧ (parkLayer sl s).link = s.link ∧ (parkLayer sl s).rest = s.rest ∧
    (parkLayer sl s).openOrders = s.openOrders ∧ (parkLayer sl s).pending = s.pending := by
  simp [parkLayer]

@[simp] theorem Mix.unmarked_mark (m : Mix) (x : Bool) : ({ m with burstEnding := x } : Mix).unmarked = m.unmarked := rfl

@[simp] theorem applyUndo_frame (s : State) :
    (applyUndo s).lanes = s.lanes ∧ (applyUndo s).mem = s.mem ∧ (applyUndo s).mix.unmarked = s.mix.unmarked ∧ (applyUndo s).rest = s.rest ∧
    (applyUndo s).openOrders = s.openOrders ∧ (applyUndo s).pending = s.pending := by
  unfold applyUndo
  (repeat' split) <;> simp

@[simp] theorem applyRedo_frame (s : State) :
    (applyRedo s).cues = s.cues ∧ (applyRedo s).lanes = s.lanes ∧ (applyRedo s).takes = s.takes ∧ (applyRedo s).mem = s.mem ∧
    (applyRedo s).mix = s.mix ∧ (applyRedo s).job = s.job ∧ (applyRedo s).link = s.link ∧ (applyRedo s).rest = s.rest ∧
    (applyRedo s).openOrders = s.openOrders ∧ (applyRedo s).pending = s.pending := by
  unfold applyRedo
  (repeat' split) <;> simp

@[simp] theorem takeHalt_frame (s : State) (x : HaltBlock) :
    (takeHalt s x).lanes = s.lanes ∧ (takeHalt s x).mem = s.mem ∧ (takeHalt s x).mix = s.mix ∧ (takeHalt s x).rest = s.rest ∧
    (takeHalt s x).pending = s.pending := by
  cases x <;> simp [takeHalt]

@[simp] theorem haltBuffers_frame (s : State) :
    (haltBuffers s).transport = s.transport ∧ (haltBuffers s).table = s.table ∧ (haltBuffers s).cues = s.cues ∧
    (haltBuffers s).lanes = s.lanes ∧ (haltBuffers s).mem = s.mem ∧ (haltBuffers s).mix = s.mix ∧
    (haltBuffers s).link = s.link ∧ (haltBuffers s).rest = s.rest ∧ (haltBuffers s).openOrders = s.openOrders ∧
    (haltBuffers s).pending = s.pending := by
  simp [haltBuffers]

@[simp] theorem applyHalt_frame (s : State) :
    (applyHalt s).lanes = s.lanes ∧ (applyHalt s).mem = s.mem ∧ (applyHalt s).rest = s.rest ∧
    (applyHalt s).pending = s.pending := by
  simp [applyHalt]

/-- A HALT leaves the mix record but for the mark. -/
@[simp] theorem applyHalt_mix (s : State) : (applyHalt s).mix = { s.mix with burstEnding := true } := by
  simp [applyHalt]

@[simp] theorem applyQueued_frame (kind : CueKind) (p1 p2 p3 : Byte) (s : State) :
    (applyQueued kind p1 p2 p3 s).lanes = s.lanes ∧ (applyQueued kind p1 p2 p3 s).mem = s.mem ∧
    (applyQueued kind p1 p2 p3 s).mix.unmarked = s.mix.unmarked ∧ (applyQueued kind p1 p2 p3 s).rest = s.rest ∧
    (applyQueued kind p1 p2 p3 s).pending = s.pending := by
  unfold applyQueued
  (repeat' split) <;> simp

@[simp] theorem fireEntry_frame (e : CueEntry) (s : State) :
    (fireEntry e s).lanes = s.lanes ∧ (fireEntry e s).mem = s.mem ∧ (fireEntry e s).mix.unmarked = s.mix.unmarked ∧
    (fireEntry e s).rest = s.rest ∧ (fireEntry e s).pending = s.pending := by
  unfold fireEntry
  dsimp only
  (repeat' split) <;> simp

@[simp] theorem walkCycle_frame (b : Boundary) (kept rest : List CueEntry) (s : State) :
    (walkCycle b kept rest s).lanes = s.lanes ∧ (walkCycle b kept rest s).mem = s.mem ∧
    (walkCycle b kept rest s).mix.unmarked = s.mix.unmarked ∧ (walkCycle b kept rest s).rest = s.rest ∧
    (walkCycle b kept rest s).pending = s.pending := by
  induction rest generalizing kept s with
  | nil => simp [walkCycle]
  | cons e rest ih =>
    unfold walkCycle
    dsimp only
    (repeat' split) <;> simp [ih]

@[simp] theorem fireBeats_frame (xs : List CueEntry) (s : State) :
    (fireBeats xs s).lanes = s.lanes ∧ (fireBeats xs s).mem = s.mem ∧ (fireBeats xs s).mix.unmarked = s.mix.unmarked ∧
    (fireBeats xs s).rest = s.rest ∧ (fireBeats xs s).pending = s.pending := by
  induction xs generalizing s with
  | nil => simp [fireBeats]
  | cons e rest ih =>
    unfold fireBeats
    dsimp only
    split <;> simp [ih]

@[simp] theorem cuesTake_frame (b : Boundary) (s : State) :
    (cuesTake b s).lanes = s.lanes ∧ (cuesTake b s).mem = s.mem ∧ (cuesTake b s).mix.unmarked = s.mix.unmarked ∧ (cuesTake b s).rest = s.rest ∧
    (cuesTake b s).pending = s.pending := by
  unfold cuesTake
  dsimp only
  (repeat' split) <;> simp

@[simp] theorem linkTakes_frame (b : Boundary) (s : State) :
    (linkTakes b s).transport = s.transport ∧ (linkTakes b s).table = s.table ∧ (linkTakes b s).cues = s.cues ∧
    (linkTakes b s).lanes = s.lanes ∧ (linkTakes b s).takes = s.takes ∧ (linkTakes b s).store = s.store ∧
    (linkTakes b s).mem = s.mem ∧ (linkTakes b s).job = s.job ∧ (linkTakes b s).rest = s.rest ∧
    (linkTakes b s).openOrders = s.openOrders ∧ (linkTakes b s).pending = s.pending := by
  unfold linkTakes
  dsimp only
  (repeat' split) <;> simp

@[simp] theorem takeBoundary_frame (b : Boundary) (s : State) (x : Receiver) :
    (takeBoundary b s x).lanes = s.lanes ∧ (takeBoundary b s x).mem = s.mem ∧ (takeBoundary b s x).rest = s.rest ∧
    (takeBoundary b s x).pending = s.pending := by
  cases x <;> simp [takeBoundary]

@[simp] theorem raiseBoundary_frame (beat : Nat) (freeClosure : Bool) (skip : Option Slot) (s : State) :
    (raiseBoundary beat freeClosure skip s).lanes = s.lanes ∧ (raiseBoundary beat freeClosure skip s).mem = s.mem ∧
    (raiseBoundary beat freeClosure skip s).rest = s.rest ∧ (raiseBoundary beat freeClosure skip s).pending = s.pending := by
  unfold raiseBoundary
  dsimp only
  (repeat' split) <;> simp

@[simp] theorem closeRecorder_frame (r : Recorder) (sl : Slot) (s : State) :
    (closeRecorder r sl s).transport = s.transport ∧ (closeRecorder r sl s).table = s.table ∧
    (closeRecorder r sl s).cues = s.cues ∧ (closeRecorder r sl s).lanes = s.lanes ∧ (closeRecorder r sl s).store = s.store ∧
    (closeRecorder r sl s).mem = s.mem ∧ (closeRecorder r sl s).mix = s.mix ∧ (closeRecorder r sl s).job = s.job ∧
    (closeRecorder r sl s).rest = s.rest ∧ (closeRecorder r sl s).openOrders = s.openOrders ∧
    (closeRecorder r sl s).pending = s.pending := by
  unfold closeRecorder
  dsimp only
  (repeat' split) <;> simp

@[simp] theorem closeBaseTake_frame (multiple : Nat) (r : Recorder) (sl : Slot) (s : State) :
    (closeBaseTake multiple r sl s).transport = s.transport ∧ (closeBaseTake multiple r sl s).cues = s.cues ∧
    (closeBaseTake multiple r sl s).lanes = s.lanes ∧ (closeBaseTake multiple r sl s).mem = s.mem ∧
    (closeBaseTake multiple r sl s).mix = s.mix ∧ (closeBaseTake multiple r sl s).job = s.job ∧
    (closeBaseTake multiple r sl s).rest = s.rest ∧ (closeBaseTake multiple r sl s).openOrders = s.openOrders ∧
    (closeBaseTake multiple r sl s).pending = s.pending := by
  simp [closeBaseTake]

@[simp] theorem closure_frame (multiple length : Nat) (s : State) :
    (closure multiple length s).lanes = s.lanes ∧ (closure multiple length s).mem = s.mem ∧
    (closure multiple length s).rest = s.rest ∧ (closure multiple length s).pending = s.pending := by
  unfold closure
  dsimp only
  (repeat' split) <;> simp

@[simp] theorem wrapCycle_frame (s : State) :
    (wrapCycle s).lanes = s.lanes ∧ (wrapCycle s).mem = s.mem ∧ (wrapCycle s).rest = s.rest ∧
    (wrapCycle s).pending = s.pending := by
  unfold wrapCycle
  dsimp only
  (repeat' split) <;> simp

@[simp] theorem takeBeat_frame (s : State) :
    (takeBeat s).lanes = s.lanes ∧ (takeBeat s).mem = s.mem ∧ (takeBeat s).rest = s.rest ∧ (takeBeat s).pending = s.pending := by
  simp [takeBeat]

@[simp] theorem applyStartBase_frame (p1 : Byte) (s : State) :
    (applyStartBase p1 s).mem = s.mem ∧ (applyStartBase p1 s).rest = s.rest ∧ (applyStartBase p1 s).pending = s.pending := by
  unfold applyStartBase
  dsimp only
  (repeat' split) <;> simp

@[simp] theorem applyCloseBase_frame (s : State) :
    (applyCloseBase s).lanes = s.lanes ∧ (applyCloseBase s).mem = s.mem ∧ (applyCloseBase s).rest = s.rest ∧
    (applyCloseBase s).pending = s.pending := by
  unfold applyCloseBase
  (repeat' split) <;> simp

@[simp] theorem applyPlay_frame (s : State) :
    (applyPlay s).table = s.table ∧ (applyPlay s).cues = s.cues ∧ (applyPlay s).lanes = s.lanes ∧
    (applyPlay s).takes = s.takes ∧ (applyPlay s).mem = s.mem ∧ (applyPlay s).mix = s.mix ∧ (applyPlay s).job = s.job ∧
    (applyPlay s).link = s.link ∧ (applyPlay s).rest = s.rest ∧ (applyPlay s).openOrders = s.openOrders ∧
    (applyPlay s).pending = s.pending := by
  simp [applyPlay]

@[simp] theorem applyCue_frame (kind : CueKind) (p1 p2 p3 : Byte) (s : State) :
    (applyCue kind p1 p2 p3 s).mem = s.mem ∧ (applyCue kind p1 p2 p3 s).rest = s.rest ∧
    (applyCue kind p1 p2 p3 s).pending = s.pending := by
  unfold applyCue
  (repeat' split) <;> simp

end Sys2Proof.Machine
end

