-- ==== Sys2Proof/Laws/FrameEvents.lean ====
section
/-! SUPPORT. What each operation leaves unchanged: the memory port, the sample period, the line and the run states. -/

namespace Sys2Proof.Machine

@[simp] theorem setFlight_frame (q : PortRequest) (s : State) :
    (setFlight q s).transport = s.transport ∧ (setFlight q s).table = s.table ∧ (setFlight q s).cues = s.cues ∧
    (setFlight q s).lanes = s.lanes ∧ (setFlight q s).mem = s.mem ∧ (setFlight q s).mix = s.mix ∧
    (setFlight q s).link = s.link ∧ (setFlight q s).rest = s.rest ∧ (setFlight q s).openOrders = s.openOrders ∧
    (setFlight q s).pending = s.pending := by
  unfold setFlight
  (repeat' split) <;> simp

@[simp] theorem grant_frame (q : PortRequest) (s : State) :
    (grant q s).transport = s.transport ∧ (grant q s).table = s.table ∧ (grant q s).cues = s.cues ∧
    (grant q s).lanes = s.lanes ∧ (grant q s).mem = s.mem ∧ (grant q s).mix = s.mix ∧ (grant q s).link = s.link ∧
    (grant q s).rest = s.rest ∧ (grant q s).openOrders = s.openOrders ∧ (grant q s).pending = s.pending := by
  simp [grant]

@[simp] theorem stall_frame (s : State) :
    (stall s).transport = s.transport ∧ (stall s).table = s.table ∧ (stall s).cues = s.cues ∧ (stall s).lanes = s.lanes ∧
    (stall s).takes = s.takes ∧ (stall s).mem = s.mem ∧ (stall s).mix = s.mix ∧ (stall s).job = s.job ∧
    (stall s).link = s.link ∧ (stall s).rest = s.rest ∧ (stall s).openOrders = s.openOrders ∧ (stall s).pending = s.pending := by
  simp [stall]

@[simp] theorem grantOrStall_frame (q : PortRequest) (s : State) :
    (grantOrStall q s).transport = s.transport ∧ (grantOrStall q s).table = s.table ∧ (grantOrStall q s).cues = s.cues ∧
    (grantOrStall q s).lanes = s.lanes ∧ (grantOrStall q s).mem = s.mem ∧ (grantOrStall q s).mix = s.mix ∧
    (grantOrStall q s).link = s.link ∧ (grantOrStall q s).rest = s.rest ∧ (grantOrStall q s).openOrders = s.openOrders ∧
    (grantOrStall q s).pending = s.pending := by
  unfold grantOrStall
  (repeat' split) <;> simp

@[simp] theorem arbitrate_frame (s : State) :
    (arbitrate s).transport = s.transport ∧ (arbitrate s).table = s.table ∧ (arbitrate s).cues = s.cues ∧
    (arbitrate s).lanes = s.lanes ∧ (arbitrate s).mem = s.mem ∧ (arbitrate s).mix = s.mix ∧ (arbitrate s).link = s.link ∧
    (arbitrate s).rest = s.rest ∧ (arbitrate s).openOrders = s.openOrders ∧ (arbitrate s).pending = s.pending := by
  unfold arbitrate
  (repeat' split) <;> simp

@[simp] theorem decidePort_frame (s : State) :
    (decidePort s).table = s.table ∧ (decidePort s).cues = s.cues ∧ (decidePort s).lanes = s.lanes ∧
    (decidePort s).mem = s.mem ∧ (decidePort s).mix = s.mix ∧ (decidePort s).link = s.link ∧ (decidePort s).rest = s.rest ∧
    (decidePort s).openOrders = s.openOrders ∧ (decidePort s).pending = s.pending := by
  simp [decidePort]

@[simp] theorem completeDrain_frame (r : Recorder) (n : Nat) (s : State) :
    (completeDrain r n s).cues = s.cues ∧ (completeDrain r n s).lanes = s.lanes ∧ (completeDrain r n s).mix = s.mix ∧
    (completeDrain r n s).rest = s.rest ∧ (completeDrain r n s).openOrders = s.openOrders ∧
    (completeDrain r n s).pending = s.pending := by
  unfold completeDrain
  dsimp only
  (repeat' split) <;> simp

@[simp] theorem completeRefill_frame (sl : Slot) (entries : List Entry) (s : State) :
    (completeRefill sl entries s).table = s.table ∧ (completeRefill sl entries s).cues = s.cues ∧
    (completeRefill sl entries s).lanes = s.lanes ∧ (completeRefill sl entries s).mem = s.mem ∧
    (completeRefill sl entries s).mix = s.mix ∧ (completeRefill sl entries s).link = s.link ∧
    (completeRefill sl entries s).rest = s.rest ∧ (completeRefill sl entries s).openOrders = s.openOrders ∧
    (completeRefill sl entries s).pending = s.pending := by
  simp [completeRefill]

@[simp] theorem completeRead_frame (s : State) :
    (completeRead s).transport = s.transport ∧ (completeRead s).table = s.table ∧ (completeRead s).cues = s.cues ∧
    (completeRead s).lanes = s.lanes ∧ (completeRead s).mem = s.mem ∧ (completeRead s).mix = s.mix ∧
    (completeRead s).link = s.link ∧ (completeRead s).rest = s.rest ∧ (completeRead s).openOrders = s.openOrders ∧
    (completeRead s).pending = s.pending := by
  unfold completeRead
  dsimp only
  (repeat' split) <;> simp

@[simp] theorem completeWrite_frame (s : State) :
    (completeWrite s).cues = s.cues ∧ (completeWrite s).lanes = s.lanes ∧ (completeWrite s).mix = s.mix ∧
    (completeWrite s).rest = s.rest ∧ (completeWrite s).openOrders = s.openOrders ∧ (completeWrite s).pending = s.pending := by
  unfold completeWrite
  dsimp only
  (repeat' split) <;> simp

@[simp] theorem complete_frame (t : Transfer) (s : State) :
    (complete t s).cues = s.cues ∧ (complete t s).lanes = s.lanes ∧ (complete t s).mix = s.mix ∧
    (complete t s).rest = s.rest ∧ (complete t s).openOrders = s.openOrders ∧ (complete t s).pending = s.pending := by
  unfold complete
  (repeat' split) <;> simp

@[simp] theorem completeDue_frame (s : State) :
    (completeDue s).cues = s.cues ∧ (completeDue s).lanes = s.lanes ∧ (completeDue s).mix = s.mix ∧
    (completeDue s).rest = s.rest ∧ (completeDue s).openOrders = s.openOrders ∧ (completeDue s).pending = s.pending := by
  unfold completeDue
  (repeat' split) <;> simp

@[simp] theorem serveLayers_frame (s : State) :
    (serveLayers s).transport = s.transport ∧ (serveLayers s).cues = s.cues ∧ (serveLayers s).lanes = s.lanes ∧
    (serveLayers s).takes = s.takes ∧ (serveLayers s).mem = s.mem ∧ (serveLayers s).mix = s.mix ∧
    (serveLayers s).job = s.job ∧ (serveLayers s).link = s.link ∧ (serveLayers s).rest = s.rest ∧
    (serveLayers s).openOrders = s.openOrders ∧ (serveLayers s).pending = s.pending := by
  unfold serveLayers
  (repeat' split) <;> simp

@[simp] theorem tickPort_frame (s : State) :
    (tickPort s).transport = s.transport ∧ (tickPort s).table = s.table ∧ (tickPort s).cues = s.cues ∧
    (tickPort s).lanes = s.lanes ∧ (tickPort s).takes = s.takes ∧ (tickPort s).mem = s.mem ∧ (tickPort s).mix = s.mix ∧
    (tickPort s).job = s.job ∧ (tickPort s).link = s.link ∧ (tickPort s).rest = s.rest ∧
    (tickPort s).openOrders = s.openOrders ∧ (tickPort s).pending = s.pending := by
  simp [tickPort]

@[simp] theorem beginWindow_frame (s : State) :
    (beginWindow s).transport = s.transport ∧ (beginWindow s).table = s.table ∧ (beginWindow s).cues = s.cues ∧
    (beginWindow s).lanes = s.lanes ∧ (beginWindow s).takes = s.takes ∧ (beginWindow s).mem = s.mem ∧
    (beginWindow s).mix = s.mix ∧ (beginWindow s).job = s.job ∧ (beginWindow s).link = s.link ∧
    (beginWindow s).rest = s.rest ∧ (beginWindow s).openOrders = s.openOrders ∧ (beginWindow s).pending = s.pending := by
  simp [beginWindow]

@[simp] theorem measureLanes_frame (r : Lane → Int) (s : State) :
    (measureLanes r s).transport = s.transport ∧ (measureLanes r s).table = s.table ∧ (measureLanes r s).cues = s.cues ∧
    (measureLanes r s).takes = s.takes ∧ (measureLanes r s).store = s.store ∧ (measureLanes r s).mem = s.mem ∧
    (measureLanes r s).mix = s.mix ∧ (measureLanes r s).job = s.job ∧ (measureLanes r s).link = s.link ∧
    (measureLanes r s).rest = s.rest ∧ (measureLanes r s).openOrders = s.openOrders ∧ (measureLanes r s).pending = s.pending := by
  simp [measureLanes]

@[simp] theorem levelEvent_frame (n : Lane) (old new : Band) (s : State) :
    (levelEvent n old new s).transport = s.transport ∧ (levelEvent n old new s).table = s.table ∧
    (levelEvent n old new s).cues = s.cues ∧ (levelEvent n old new s).lanes = s.lanes ∧
    (levelEvent n old new s).takes = s.takes ∧ (levelEvent n old new s).store = s.store ∧
    (levelEvent n old new s).mem = s.mem ∧ (levelEvent n old new s).mix = s.mix ∧ (levelEvent n old new s).job = s.job ∧
    (levelEvent n old new s).rest = s.rest ∧ (levelEvent n old new s).openOrders = s.openOrders ∧
    (levelEvent n old new s).pending = s.pending := by
  unfold levelEvent
  (repeat' split) <;> simp

@[simp] theorem autoStart_frame (n : Lane) (s : State) :
    (autoStart n s).mem = s.mem ∧ (autoStart n s).rest = s.rest ∧ (autoStart n s).pending = s.pending := by
  unfold autoStart
  dsimp only
  (repeat' split) <;> simp

@[simp] theorem endWindow_frame (n : Lane) (s : State) :
    (endWindow n s).mem = s.mem ∧ (endWindow n s).rest = s.rest ∧ (endWindow n s).pending = s.pending := by
  unfold endWindow
  dsimp only
  (repeat' split) <;> simp

@[simp] theorem advancePlayhead_frame (s : State) :
    (advancePlayhead s).table = s.table ∧ (advancePlayhead s).cues = s.cues ∧ (advancePlayhead s).lanes = s.lanes ∧
    (advancePlayhead s).takes = s.takes ∧ (advancePlayhead s).store = s.store ∧ (advancePlayhead s).mem = s.mem ∧
    (advancePlayhead s).mix = s.mix ∧ (advancePlayhead s).job = s.job ∧ (advancePlayhead s).link = s.link ∧
    (advancePlayhead s).rest = s.rest ∧ (advancePlayhead s).openOrders = s.openOrders ∧
    (advancePlayhead s).pending = s.pending := by
  unfold advancePlayhead
  (repeat' split) <;> simp

@[simp] theorem countPulse_frame (s : State) :
    (countPulse s).table = s.table ∧ (countPulse s).cues = s.cues ∧ (countPulse s).lanes = s.lanes ∧
    (countPulse s).takes = s.takes ∧ (countPulse s).store = s.store ∧ (countPulse s).mem = s.mem ∧
    (countPulse s).mix = s.mix ∧ (countPulse s).job = s.job ∧ (countPulse s).link = s.link ∧ (countPulse s).rest = s.rest ∧
    (countPulse s).openOrders = s.openOrders ∧ (countPulse s).pending = s.pending := by
  simp [countPulse]

@[simp] theorem exhaustFree_frame (s : State) :
    (exhaustFree s).lanes = s.lanes ∧ (exhaustFree s).mem = s.mem ∧ (exhaustFree s).rest = s.rest ∧
    (exhaustFree s).pending = s.pending := by
  unfold exhaustFree
  dsimp only
  (repeat' split) <;> simp

@[simp] theorem tick_frame (x : Lane → Int) (s : State) :
    (tick x s).mem = s.mem ∧ (tick x s).rest = s.rest ∧ (tick x s).pending = s.pending := by
  simp [tick]

@[simp] theorem powerOn_frame (cause : WakeCause) (s : State) :
    (powerOn cause s).mem = s.mem ∧ (powerOn cause s).openOrders = s.openOrders ∧ (powerOn cause s).pending = s.pending := by
  simp [powerOn]

@[simp] theorem startWake_frame (cause : WakeCause) (s : State) :
    (startWake cause s).transport = s.transport ∧ (startWake cause s).table = s.table ∧ (startWake cause s).cues = s.cues ∧
    (startWake cause s).lanes = s.lanes ∧ (startWake cause s).takes = s.takes ∧ (startWake cause s).store = s.store ∧
    (startWake cause s).mem = s.mem ∧ (startWake cause s).mix = s.mix ∧ (startWake cause s).job = s.job ∧
    (startWake cause s).link = s.link ∧ (startWake cause s).openOrders = s.openOrders ∧
    (startWake cause s).pending = s.pending := by
  simp [startWake]

@[simp] theorem stopWindows_frame (s : State) :
    (stopWindows s).transport = s.transport ∧ (stopWindows s).table = s.table ∧ (stopWindows s).cues = s.cues ∧
    (stopWindows s).lanes = s.lanes ∧ (stopWindows s).takes = s.takes ∧ (stopWindows s).mem = s.mem ∧
    (stopWindows s).mix = s.mix ∧ (stopWindows s).job = s.job ∧ (stopWindows s).link = s.link ∧
    (stopWindows s).rest = s.rest ∧ (stopWindows s).openOrders = s.openOrders ∧ (stopWindows s).pending = s.pending := by
  simp [stopWindows]

@[simp] theorem silenceOutputs_frame (s : State) :
    (silenceOutputs s).transport = s.transport ∧ (silenceOutputs s).table = s.table ∧ (silenceOutputs s).cues = s.cues ∧
    (silenceOutputs s).lanes = s.lanes ∧ (silenceOutputs s).takes = s.takes ∧ (silenceOutputs s).store = s.store ∧
    (silenceOutputs s).mem = s.mem ∧ (silenceOutputs s).job = s.job ∧ (silenceOutputs s).link = s.link ∧
    (silenceOutputs s).rest = s.rest ∧ (silenceOutputs s).openOrders = s.openOrders ∧ (silenceOutputs s).pending = s.pending := by
  simp [silenceOutputs]

@[simp] theorem enterRest_frame (s : State) :
    (enterRest s).transport = s.transport ∧ (enterRest s).table = s.table ∧ (enterRest s).cues = s.cues ∧
    (enterRest s).lanes = s.lanes ∧ (enterRest s).takes = s.takes ∧ (enterRest s).mem = s.mem ∧ (enterRest s).job = s.job ∧
    (enterRest s).openOrders = s.openOrders ∧ (enterRest s).pending = s.pending := by
  unfold enterRest
  dsimp only
  (repeat' split) <;> simp

@[simp] theorem becomeAwake_frame (s : State) :
    (becomeAwake s).transport = s.transport ∧ (becomeAwake s).table = s.table ∧ (becomeAwake s).cues = s.cues ∧
    (becomeAwake s).lanes = s.lanes ∧ (becomeAwake s).takes = s.takes ∧ (becomeAwake s).mem = s.mem ∧
    (becomeAwake s).job = s.job ∧ (becomeAwake s).openOrders = s.openOrders ∧ (becomeAwake s).pending = s.pending := by
  simp [becomeAwake]

@[simp] theorem drainDecision_frame (s : State) :
    (drainDecision s).transport = s.transport ∧ (drainDecision s).table = s.table ∧ (drainDecision s).cues = s.cues ∧
    (drainDecision s).lanes = s.lanes ∧ (drainDecision s).takes = s.takes ∧ (drainDecision s).mem = s.mem ∧
    (drainDecision s).job = s.job ∧ (drainDecision s).openOrders = s.openOrders ∧ (drainDecision s).pending = s.pending := by
  unfold drainDecision
  (repeat' split) <;> simp

@[simp] theorem discardFrame_frame (reason : FaultReason) (kind : Byte) (s : State) :
    (discardFrame reason kind s).transport = s.transport ∧ (discardFrame reason kind s).table = s.table ∧
    (discardFrame reason kind s).cues = s.cues ∧ (discardFrame reason kind s).lanes = s.lanes ∧
    (discardFrame reason kind s).takes = s.takes ∧ (discardFrame reason kind s).store = s.store ∧
    (discardFrame reason kind s).mem = s.mem ∧ (discardFrame reason kind s).mix = s.mix ∧
    (discardFrame reason kind s).job = s.job ∧ (discardFrame reason kind s).rest = s.rest ∧
    (discardFrame reason kind s).openOrders = s.openOrders ∧ (discardFrame reason kind s).pending = s.pending := by
  simp [discardFrame]

@[simp] theorem receiveByte_frame (held : List Byte) (b : Byte) (fault : Bool) (s : State) :
    (receiveByte held b fault s).transport = s.transport ∧ (receiveByte held b fault s).table = s.table ∧
    (receiveByte held b fault s).cues = s.cues ∧ (receiveByte held b fault s).lanes = s.lanes ∧
    (receiveByte held b fault s).takes = s.takes ∧ (receiveByte held b fault s).store = s.store ∧
    (receiveByte held b fault s).mem = s.mem ∧ (receiveByte held b fault s).mix = s.mix ∧
    (receiveByte held b fault s).job = s.job ∧ (receiveByte held b fault s).rest = s.rest ∧
    (receiveByte held b fault s).openOrders = s.openOrders ∧ (receiveByte held b fault s).pending = s.pending := by
  unfold receiveByte
  dsimp only
  (repeat' split) <;> simp

@[simp] theorem huntByte_frame (b : Byte) (fault : Bool) (s : State) :
    (huntByte b fault s).transport = s.transport ∧ (huntByte b fault s).table = s.table ∧
    (huntByte b fault s).cues = s.cues ∧ (huntByte b fault s).lanes = s.lanes ∧ (huntByte b fault s).takes = s.takes ∧
    (huntByte b fault s).store = s.store ∧ (huntByte b fault s).mem = s.mem ∧ (huntByte b fault s).mix = s.mix ∧
    (huntByte b fault s).job = s.job ∧ (huntByte b fault s).rest = s.rest ∧ (huntByte b fault s).openOrders = s.openOrders ∧
    (huntByte b fault s).pending = s.pending := by
  unfold huntByte
  (repeat' split) <;> simp

@[simp] theorem parseByte_frame (b : Byte) (fault : Bool) (s : State) :
    (parseByte b fault s).transport = s.transport ∧ (parseByte b fault s).table = s.table ∧
    (parseByte b fault s).cues = s.cues ∧ (parseByte b fault s).lanes = s.lanes ∧ (parseByte b fault s).takes = s.takes ∧
    (parseByte b fault s).store = s.store ∧ (parseByte b fault s).mem = s.mem ∧ (parseByte b fault s).mix = s.mix ∧
    (parseByte b fault s).job = s.job ∧ (parseByte b fault s).rest = s.rest ∧
    (parseByte b fault s).openOrders = s.openOrders ∧ (parseByte b fault s).pending = s.pending := by
  unfold parseByte
  (repeat' split) <;> simp

@[simp] theorem discardByte_frame (s : State) :
    (discardByte s).transport = s.transport ∧ (discardByte s).table = s.table ∧ (discardByte s).cues = s.cues ∧
    (discardByte s).lanes = s.lanes ∧ (discardByte s).takes = s.takes ∧ (discardByte s).store = s.store ∧
    (discardByte s).mem = s.mem ∧ (discardByte s).mix = s.mix ∧ (discardByte s).job = s.job ∧ (discardByte s).link = s.link ∧
    (discardByte s).openOrders = s.openOrders ∧ (discardByte s).pending = s.pending := by
  simp [discardByte]

@[simp] theorem takeByte_frame (b : Byte) (fault : Bool) (s : State) :
    (takeByte b fault s).transport = s.transport ∧ (takeByte b fault s).table = s.table ∧
    (takeByte b fault s).cues = s.cues ∧ (takeByte b fault s).lanes = s.lanes ∧ (takeByte b fault s).takes = s.takes ∧
    (takeByte b fault s).store = s.store ∧ (takeByte b fault s).mem = s.mem ∧ (takeByte b fault s).mix = s.mix ∧
    (takeByte b fault s).job = s.job ∧ (takeByte b fault s).openOrders = s.openOrders ∧
    (takeByte b fault s).pending = s.pending := by
  unfold takeByte
  (repeat' split) <;> simp

@[simp] theorem expireGap_frame (s : State) :
    (expireGap s).transport = s.transport ∧ (expireGap s).table = s.table ∧ (expireGap s).cues = s.cues ∧
    (expireGap s).lanes = s.lanes ∧ (expireGap s).takes = s.takes ∧ (expireGap s).store = s.store ∧
    (expireGap s).mem = s.mem ∧ (expireGap s).mix = s.mix ∧ (expireGap s).job = s.job ∧ (expireGap s).rest = s.rest ∧
    (expireGap s).openOrders = s.openOrders ∧ (expireGap s).pending = s.pending := by
  unfold expireGap
  (repeat' split) <;> simp

@[simp] theorem startFrame_frame (s : State) :
    (startFrame s).transport = s.transport ∧ (startFrame s).table = s.table ∧ (startFrame s).cues = s.cues ∧
    (startFrame s).lanes = s.lanes ∧ (startFrame s).takes = s.takes ∧ (startFrame s).store = s.store ∧
    (startFrame s).mem = s.mem ∧ (startFrame s).mix = s.mix ∧ (startFrame s).job = s.job ∧ (startFrame s).rest = s.rest ∧
    (startFrame s).openOrders = s.openOrders ∧ (startFrame s).pending = s.pending := by
  unfold startFrame
  (repeat' split) <;> simp

@[simp] theorem startFrameDue_frame (s : State) :
    (startFrameDue s).transport = s.transport ∧ (startFrameDue s).table = s.table ∧ (startFrameDue s).cues = s.cues ∧
    (startFrameDue s).lanes = s.lanes ∧ (startFrameDue s).takes = s.takes ∧ (startFrameDue s).store = s.store ∧
    (startFrameDue s).mem = s.mem ∧ (startFrameDue s).mix = s.mix ∧ (startFrameDue s).job = s.job ∧
    (startFrameDue s).rest = s.rest ∧ (startFrameDue s).openOrders = s.openOrders ∧ (startFrameDue s).pending = s.pending := by
  unfold startFrameDue
  (repeat' split) <;> simp

@[simp] theorem finishFrame_frame (s : State) :
    (finishFrame s).mem = s.mem ∧ (finishFrame s).openOrders = s.openOrders ∧ (finishFrame s).pending = s.pending := by
  unfold finishFrame
  dsimp only
  (repeat' split) <;> simp

end Sys2Proof.Machine
end

