-- ==== Sys2Proof/Laws/FrameRequests.lean ====
section
/-! SUPPORT. What each operation leaves unchanged: the requests and the events between commands. -/

namespace Sys2Proof.Machine

@[simp] theorem doHello_frame (s : State) :
    (doHello s).transport = s.transport ∧ (doHello s).table = s.table ∧ (doHello s).cues = s.cues ∧
    (doHello s).lanes = s.lanes ∧ (doHello s).takes = s.takes ∧ (doHello s).store = s.store ∧ (doHello s).mem = s.mem ∧
    (doHello s).mix = s.mix ∧ (doHello s).job = s.job ∧ (doHello s).rest = s.rest ∧ (doHello s).openOrders = s.openOrders ∧
    (doHello s).pending = s.pending := by
  simp [doHello]

@[simp] theorem doUnknownKind_frame (kind : Byte) (s : State) :
    (doUnknownKind kind s).transport = s.transport ∧ (doUnknownKind kind s).table = s.table ∧
    (doUnknownKind kind s).cues = s.cues ∧ (doUnknownKind kind s).lanes = s.lanes ∧ (doUnknownKind kind s).takes = s.takes ∧
    (doUnknownKind kind s).store = s.store ∧ (doUnknownKind kind s).mem = s.mem ∧ (doUnknownKind kind s).mix = s.mix ∧
    (doUnknownKind kind s).job = s.job ∧ (doUnknownKind kind s).rest = s.rest ∧
    (doUnknownKind kind s).openOrders = s.openOrders ∧ (doUnknownKind kind s).pending = s.pending := by
  simp [doUnknownKind]

@[simp] theorem doBadLength_frame (kind : Byte) (s : State) :
    (doBadLength kind s).transport = s.transport ∧ (doBadLength kind s).table = s.table ∧
    (doBadLength kind s).cues = s.cues ∧ (doBadLength kind s).lanes = s.lanes ∧ (doBadLength kind s).takes = s.takes ∧
    (doBadLength kind s).store = s.store ∧ (doBadLength kind s).mem = s.mem ∧ (doBadLength kind s).mix = s.mix ∧
    (doBadLength kind s).job = s.job ∧ (doBadLength kind s).rest = s.rest ∧ (doBadLength kind s).openOrders = s.openOrders ∧
    (doBadLength kind s).pending = s.pending := by
  simp [doBadLength]

@[simp] theorem doLaneSetup_frame (q : LaneSetup) (s : State) :
    (doLaneSetup q s).transport = s.transport ∧ (doLaneSetup q s).table = s.table ∧ (doLaneSetup q s).cues = s.cues ∧
    (doLaneSetup q s).takes = s.takes ∧ (doLaneSetup q s).store = s.store ∧ (doLaneSetup q s).mem = s.mem ∧
    (doLaneSetup q s).mix = s.mix ∧ (doLaneSetup q s).job = s.job ∧ (doLaneSetup q s).rest = s.rest ∧
    (doLaneSetup q s).openOrders = s.openOrders ∧ (doLaneSetup q s).pending = s.pending := by
  unfold doLaneSetup
  dsimp only
  (repeat' split) <;> simp

@[simp] theorem doGridSetup_frame (q : GridSetup) (s : State) :
    (doGridSetup q s).table = s.table ∧ (doGridSetup q s).cues = s.cues ∧ (doGridSetup q s).lanes = s.lanes ∧
    (doGridSetup q s).takes = s.takes ∧ (doGridSetup q s).store = s.store ∧ (doGridSetup q s).mem = s.mem ∧
    (doGridSetup q s).mix = s.mix ∧ (doGridSetup q s).job = s.job ∧ (doGridSetup q s).rest = s.rest ∧
    (doGridSetup q s).openOrders = s.openOrders ∧ (doGridSetup q s).pending = s.pending := by
  unfold doGridSetup
  (repeat' split) <;> simp

@[simp] theorem outputAfter_frame (q : OutputSetup) (s : State) :
    (outputAfter q s).table = s.table ∧ (outputAfter q s).cues = s.cues ∧ (outputAfter q s).lanes = s.lanes ∧
    (outputAfter q s).takes = s.takes ∧ (outputAfter q s).store = s.store ∧ (outputAfter q s).mem = s.mem ∧
    (outputAfter q s).job = s.job ∧ (outputAfter q s).rest = s.rest ∧ (outputAfter q s).openOrders = s.openOrders ∧
    (outputAfter q s).pending = s.pending := by
  simp [outputAfter]

@[simp] theorem doOutputSetup_frame (q : OutputSetup) (s : State) :
    (doOutputSetup q s).table = s.table ∧ (doOutputSetup q s).cues = s.cues ∧ (doOutputSetup q s).lanes = s.lanes ∧
    (doOutputSetup q s).takes = s.takes ∧ (doOutputSetup q s).store = s.store ∧ (doOutputSetup q s).mem = s.mem ∧
    (doOutputSetup q s).job = s.job ∧ (doOutputSetup q s).rest = s.rest ∧ (doOutputSetup q s).openOrders = s.openOrders ∧
    (doOutputSetup q s).pending = s.pending := by
  unfold doOutputSetup
  (repeat' split) <;> simp

@[simp] theorem cueNow_frame (q : Cue) (kind : CueKind) (s : State) :
    (cueNow q kind s).mem = s.mem ∧ (cueNow q kind s).rest = s.rest ∧ (cueNow q kind s).pending = s.pending := by
  unfold cueNow
  dsimp only
  (repeat' split) <;> simp

@[simp] theorem cueAdmit_frame (q : Cue) (kind : CueKind) (w : WaitQuant) (s : State) :
    (cueAdmit q kind w s).transport = s.transport ∧ (cueAdmit q kind w s).table = s.table ∧
    (cueAdmit q kind w s).lanes = s.lanes ∧ (cueAdmit q kind w s).takes = s.takes ∧ (cueAdmit q kind w s).store = s.store ∧
    (cueAdmit q kind w s).mem = s.mem ∧ (cueAdmit q kind w s).mix = s.mix ∧ (cueAdmit q kind w s).job = s.job ∧
    (cueAdmit q kind w s).rest = s.rest ∧ (cueAdmit q kind w s).openOrders = s.openOrders ∧
    (cueAdmit q kind w s).pending = s.pending := by
  unfold cueAdmit
  dsimp only
  (repeat' split) <;> simp

@[simp] theorem doCue_frame (q : Cue) (s : State) :
    (doCue q s).mem = s.mem ∧ (doCue q s).rest = s.rest ∧ (doCue q s).pending = s.pending := by
  unfold doCue
  (repeat' split) <;> simp

@[simp] theorem doLayerSetup_frame (q : LayerSetup) (s : State) :
    (doLayerSetup q s).transport = s.transport ∧ (doLayerSetup q s).cues = s.cues ∧ (doLayerSetup q s).lanes = s.lanes ∧
    (doLayerSetup q s).takes = s.takes ∧ (doLayerSetup q s).store = s.store ∧ (doLayerSetup q s).mem = s.mem ∧
    (doLayerSetup q s).mix = s.mix ∧ (doLayerSetup q s).job = s.job ∧ (doLayerSetup q s).rest = s.rest ∧
    (doLayerSetup q s).openOrders = s.openOrders ∧ (doLayerSetup q s).pending = s.pending := by
  unfold doLayerSetup
  dsimp only
  (repeat' split) <;> simp

@[simp] theorem doBounce_frame (n : Byte) (bytes : List Byte) (s : State) :
    (doBounce n bytes s).transport = s.transport ∧ (doBounce n bytes s).cues = s.cues ∧
    (doBounce n bytes s).lanes = s.lanes ∧ (doBounce n bytes s).mem = s.mem ∧ (doBounce n bytes s).mix = s.mix ∧
    (doBounce n bytes s).rest = s.rest ∧ (doBounce n bytes s).openOrders = s.openOrders ∧
    (doBounce n bytes s).pending = s.pending := by
  unfold doBounce
  dsimp only
  (repeat' split) <;> simp

@[simp] theorem doFlush_frame (mode tag : Byte) (s : State) :
    (doFlush mode tag s).transport = s.transport ∧ (doFlush mode tag s).table = s.table ∧
    (doFlush mode tag s).lanes = s.lanes ∧ (doFlush mode tag s).takes = s.takes ∧ (doFlush mode tag s).store = s.store ∧
    (doFlush mode tag s).mem = s.mem ∧ (doFlush mode tag s).mix = s.mix ∧ (doFlush mode tag s).job = s.job ∧
    (doFlush mode tag s).rest = s.rest ∧ (doFlush mode tag s).openOrders = s.openOrders ∧
    (doFlush mode tag s).pending = s.pending := by
  unfold doFlush
  dsimp only
  (repeat' split) <;> simp

@[simp] theorem doQuery_frame (form n : Byte) (s : State) :
    (doQuery form n s).transport = s.transport ∧ (doQuery form n s).table = s.table ∧ (doQuery form n s).cues = s.cues ∧
    (doQuery form n s).lanes = s.lanes ∧ (doQuery form n s).takes = s.takes ∧ (doQuery form n s).store = s.store ∧
    (doQuery form n s).mem = s.mem ∧ (doQuery form n s).mix = s.mix ∧ (doQuery form n s).job = s.job ∧
    (doQuery form n s).rest = s.rest ∧ (doQuery form n s).openOrders = s.openOrders ∧ (doQuery form n s).pending = s.pending := by
  unfold doQuery
  (repeat' split) <;> simp

@[simp] theorem clearSong_frame (s : State) :
    (clearSong s).lanes = s.lanes ∧ (clearSong s).mem = s.mem ∧ (clearSong s).link = s.link ∧ (clearSong s).rest = s.rest ∧
    (clearSong s).openOrders = s.openOrders ∧ (clearSong s).pending = s.pending := by
  simp [clearSong]

@[simp] theorem doClear_frame (s : State) :
    (doClear s).lanes = s.lanes ∧ (doClear s).mem = s.mem ∧ (doClear s).rest = s.rest ∧
    (doClear s).openOrders = s.openOrders ∧ (doClear s).pending = s.pending := by
  simp [doClear]

@[simp] theorem doRestart_frame (s : State) :
    (doRestart s).transport = s.transport ∧ (doRestart s).table = s.table ∧ (doRestart s).cues = s.cues ∧
    (doRestart s).lanes = s.lanes ∧ (doRestart s).takes = s.takes ∧ (doRestart s).store = s.store ∧
    (doRestart s).mem = s.mem ∧ (doRestart s).mix = s.mix ∧ (doRestart s).job = s.job ∧
    (doRestart s).openOrders = s.openOrders ∧ (doRestart s).pending = s.pending := by
  simp [doRestart]

@[simp] theorem doRest_frame (s : State) :
    (doRest s).transport = s.transport ∧ (doRest s).table = s.table ∧ (doRest s).cues = s.cues ∧ (doRest s).lanes = s.lanes ∧
    (doRest s).takes = s.takes ∧ (doRest s).store = s.store ∧ (doRest s).mem = s.mem ∧ (doRest s).mix = s.mix ∧
    (doRest s).job = s.job ∧ (doRest s).openOrders = s.openOrders ∧ (doRest s).pending = s.pending := by
  unfold doRest
  (repeat' split) <;> simp

@[simp] theorem handle_frame (q : Request) (s : State) :
    (handle q s).mem = s.mem ∧ (handle q s).pending = s.pending := by
  unfold handle
  (repeat' split) <;> simp

@[simp] theorem popFrame_frame (s : State) :
    (popFrame s).transport = s.transport ∧ (popFrame s).table = s.table ∧ (popFrame s).cues = s.cues ∧
    (popFrame s).lanes = s.lanes ∧ (popFrame s).takes = s.takes ∧ (popFrame s).store = s.store ∧ (popFrame s).mem = s.mem ∧
    (popFrame s).mix = s.mix ∧ (popFrame s).job = s.job ∧ (popFrame s).rest = s.rest ∧
    (popFrame s).openOrders = s.openOrders ∧ (popFrame s).pending = s.pending := by
  simp [popFrame]

@[simp] theorem dispatch_frame (s : State) :
    (dispatch s).mem = s.mem ∧ (dispatch s).pending = s.pending := by
  unfold dispatch
  (repeat' split) <;> simp

@[simp] theorem takeFullAt_frame (s : State) (r : Recorder) :
    (takeFullAt s r).cues = s.cues ∧ (takeFullAt s r).lanes = s.lanes ∧ (takeFullAt s r).mem = s.mem ∧
    (takeFullAt s r).mix = s.mix ∧ (takeFullAt s r).rest = s.rest ∧ (takeFullAt s r).openOrders = s.openOrders ∧
    (takeFullAt s r).pending = s.pending := by
  unfold takeFullAt
  (repeat' split) <;> simp

@[simp] theorem takeFulls_frame (s : State) :
    (takeFulls s).cues = s.cues ∧ (takeFulls s).lanes = s.lanes ∧ (takeFulls s).mem = s.mem ∧ (takeFulls s).mix = s.mix ∧
    (takeFulls s).rest = s.rest ∧ (takeFulls s).openOrders = s.openOrders ∧ (takeFulls s).pending = s.pending := by
  simp [takeFulls]

@[simp] theorem endPulse_frame (s : State) :
    (endPulse s).table = s.table ∧ (endPulse s).cues = s.cues ∧ (endPulse s).lanes = s.lanes ∧ (endPulse s).takes = s.takes ∧
    (endPulse s).store = s.store ∧ (endPulse s).mem = s.mem ∧ (endPulse s).mix = s.mix ∧ (endPulse s).job = s.job ∧
    (endPulse s).link = s.link ∧ (endPulse s).rest = s.rest ∧ (endPulse s).openOrders = s.openOrders ∧
    (endPulse s).pending = s.pending := by
  simp [endPulse]

@[simp] theorem pulseEndIfDue_frame (s : State) :
    (pulseEndIfDue s).table = s.table ∧ (pulseEndIfDue s).cues = s.cues ∧ (pulseEndIfDue s).lanes = s.lanes ∧
    (pulseEndIfDue s).takes = s.takes ∧ (pulseEndIfDue s).store = s.store ∧ (pulseEndIfDue s).mem = s.mem ∧
    (pulseEndIfDue s).mix = s.mix ∧ (pulseEndIfDue s).job = s.job ∧ (pulseEndIfDue s).link = s.link ∧
    (pulseEndIfDue s).rest = s.rest ∧ (pulseEndIfDue s).openOrders = s.openOrders ∧ (pulseEndIfDue s).pending = s.pending := by
  unfold pulseEndIfDue
  (repeat' split) <;> simp

@[simp] theorem endClick_frame (s : State) :
    (endClick s).transport = s.transport ∧ (endClick s).table = s.table ∧ (endClick s).cues = s.cues ∧
    (endClick s).lanes = s.lanes ∧ (endClick s).takes = s.takes ∧ (endClick s).store = s.store ∧ (endClick s).mem = s.mem ∧
    (endClick s).job = s.job ∧ (endClick s).link = s.link ∧ (endClick s).rest = s.rest ∧
    (endClick s).openOrders = s.openOrders ∧ (endClick s).pending = s.pending := by
  simp [endClick]

@[simp] theorem clickEndIfDue_frame (s : State) :
    (clickEndIfDue s).transport = s.transport ∧ (clickEndIfDue s).table = s.table ∧ (clickEndIfDue s).cues = s.cues ∧
    (clickEndIfDue s).lanes = s.lanes ∧ (clickEndIfDue s).takes = s.takes ∧ (clickEndIfDue s).store = s.store ∧
    (clickEndIfDue s).mem = s.mem ∧ (clickEndIfDue s).job = s.job ∧ (clickEndIfDue s).link = s.link ∧
    (clickEndIfDue s).rest = s.rest ∧ (clickEndIfDue s).openOrders = s.openOrders ∧ (clickEndIfDue s).pending = s.pending := by
  unfold clickEndIfDue
  (repeat' split) <;> simp

@[simp] theorem selfClose_frame (s : State) :
    (selfClose s).lanes = s.lanes ∧ (selfClose s).mem = s.mem ∧ (selfClose s).rest = s.rest ∧
    (selfClose s).pending = s.pending := by
  simp [selfClose]

@[simp] theorem selfCloseIfDue_frame (s : State) :
    (selfCloseIfDue s).lanes = s.lanes ∧ (selfCloseIfDue s).mem = s.mem ∧ (selfCloseIfDue s).rest = s.rest ∧
    (selfCloseIfDue s).pending = s.pending := by
  unfold selfCloseIfDue
  (repeat' split) <;> simp

@[simp] theorem windowEndAt_frame (s : State) (l : Lane) :
    (windowEndAt s l).mem = s.mem ∧ (windowEndAt s l).rest = s.rest ∧ (windowEndAt s l).pending = s.pending := by
  unfold windowEndAt
  (repeat' split) <;> simp

@[simp] theorem boundaryIfDue_frame (s : State) :
    (boundaryIfDue s).lanes = s.lanes ∧ (boundaryIfDue s).mem = s.mem ∧ (boundaryIfDue s).rest = s.rest ∧
    (boundaryIfDue s).pending = s.pending := by
  unfold boundaryIfDue
  (repeat' split) <;> simp

@[simp] theorem urgent_frame (s : State) :
    (urgent s).rest = s.rest ∧ (urgent s).pending = s.pending := by
  unfold urgent
  dsimp only
  (repeat' split) <;> simp

@[simp] theorem dispatchAll_frame (n : Nat) (s : State) :
    (dispatchAll n s).pending = s.pending := by
  induction n generalizing s with
  | zero => rfl
  | succ n ih =>
    unfold dispatchAll
    split <;> simp [ih]

@[simp] theorem settle_frame (s : State) :
    (settle s).pending = s.pending := by
  simp [settle]

@[simp] theorem handleIfFree_frame (q : Request) (s : State) :
    (handleIfFree q s).mem = s.mem ∧ (handleIfFree q s).pending = s.pending := by
  unfold handleIfFree
  (repeat' split) <;> simp

@[simp] theorem takeInTurn_frame (q : Request) (n : Nat) (s : State) :
    (takeInTurn q n s).pending = s.pending := by
  induction n generalizing s with
  | zero => simp [takeInTurn]
  | succ n ih =>
    unfold takeInTurn
    (repeat' split) <;> simp [ih]

@[simp] theorem takeRequest_frame (q : Request) (s : State) :
    (takeRequest q s).pending = s.pending := by
  simp [takeRequest]

@[simp] theorem completeNow_frame (s : State) :
    (completeNow s).cues = s.cues ∧ (completeNow s).lanes = s.lanes ∧ (completeNow s).mix = s.mix ∧
    (completeNow s).rest = s.rest ∧ (completeNow s).openOrders = s.openOrders ∧ (completeNow s).pending = s.pending := by
  unfold completeNow
  (repeat' split) <;> simp

@[simp] theorem setHold_frame (level : Bool) (s : State) :
    (setHold level s).transport = s.transport ∧ (setHold level s).table = s.table ∧ (setHold level s).cues = s.cues ∧
    (setHold level s).lanes = s.lanes ∧ (setHold level s).takes = s.takes ∧ (setHold level s).store = s.store ∧
    (setHold level s).mem = s.mem ∧ (setHold level s).mix = s.mix ∧ (setHold level s).job = s.job ∧
    (setHold level s).rest = s.rest ∧ (setHold level s).openOrders = s.openOrders ∧ (setHold level s).pending = s.pending := by
  simp [setHold]

@[simp] theorem startWindowIfDue_frame (s : State) :
    (startWindowIfDue s).table = s.table ∧ (startWindowIfDue s).cues = s.cues ∧ (startWindowIfDue s).lanes = s.lanes ∧
    (startWindowIfDue s).mem = s.mem ∧ (startWindowIfDue s).mix = s.mix ∧ (startWindowIfDue s).link = s.link ∧
    (startWindowIfDue s).rest = s.rest ∧ (startWindowIfDue s).openOrders = s.openOrders ∧
    (startWindowIfDue s).pending = s.pending := by
  unfold startWindowIfDue
  (repeat' split) <;> simp

@[simp] theorem stopAll_frame (s : State) :
    (stopAll s).table = s.table ∧ (stopAll s).cues = s.cues ∧ (stopAll s).lanes = s.lanes ∧ (stopAll s).mem = s.mem ∧
    (stopAll s).rest = s.rest ∧ (stopAll s).openOrders = s.openOrders ∧ (stopAll s).pending = s.pending := by
  simp [stopAll]

@[simp] theorem probe_frame (device : StoreDevice) (s : State) :
    (probe device s).transport = s.transport ∧ (probe device s).table = s.table ∧ (probe device s).cues = s.cues ∧
    (probe device s).lanes = s.lanes ∧ (probe device s).takes = s.takes ∧ (probe device s).mix = s.mix ∧
    (probe device s).job = s.job ∧ (probe device s).link = s.link ∧ (probe device s).rest = s.rest ∧
    (probe device s).openOrders = s.openOrders ∧ (probe device s).pending = s.pending := by
  simp [probe]

@[simp] theorem setWake_frame (level : Bool) (s : State) :
    (setWake level s).transport = s.transport ∧ (setWake level s).table = s.table ∧ (setWake level s).cues = s.cues ∧
    (setWake level s).lanes = s.lanes ∧ (setWake level s).takes = s.takes ∧ (setWake level s).store = s.store ∧
    (setWake level s).mem = s.mem ∧ (setWake level s).mix = s.mix ∧ (setWake level s).job = s.job ∧
    (setWake level s).link = s.link ∧ (setWake level s).openOrders = s.openOrders ∧ (setWake level s).pending = s.pending := by
  simp [setWake]

end Sys2Proof.Machine
end

