-- ==== Sys2Proof/Laws/Memory.lean ====
section
/-! SUPPORT. The laws of the loop memory: every write keeps the canonical form, a byte written reads back, and every other byte
reads as before. -/

namespace Sys2Proof.Machine

/-! ## The canonical form -/

/-- The canonical form, one cell at a time. -/
theorem Memory.wf_cons (c : Host.Cell) (m : List Host.Cell) :
    Memory.wf (c :: m) = true ↔ c.2 ≠ blankByte ∧ (∀ d ∈ m, c.1 < d.1) ∧ Memory.wf m = true := by
  induction m generalizing c with
  | nil => simp [Memory.wf]
  | cons e m ih =>
    have he := ih e
    simp only [Memory.wf, Bool.and_eq_true, decide_eq_true_eq]
    constructor
    · rintro ⟨⟨h1, h2⟩, h3⟩
      refine ⟨h1, ?_, h3⟩
      intro d hd
      rcases List.mem_cons.mp hd with rfl | hd
      · exact h2
      · exact lt_trans h2 ((he.mp h3).2.1 d hd)
    · rintro ⟨h1, h2, h3⟩
      exact ⟨⟨h1, h2 e (List.mem_cons_self ..)⟩, h3⟩

/-- A cell of memory after a write is the one written or was there before. -/
theorem mem_writeByte (m : List Host.Cell) (a : Nat) (b : Byte) (d : Host.Cell) (h : d ∈ writeByte m a b) :
    d = (a, b) ∨ d ∈ m := by
  induction m with
  | nil => unfold writeByte at h; split at h <;> simp_all
  | cons c m ih =>
    unfold writeByte at h
    split at h
    · split at h <;> simp_all
    · split at h
      · split at h <;> simp_all; tauto
      · rcases List.mem_cons.mp h with rfl | h
        · simp
        · rcases ih h with h | h <;> simp [h]

/-- A write of one byte keeps the canonical form. -/
theorem writeByte_wf (m : List Host.Cell) (a : Nat) (b : Byte) (h : Memory.wf m = true) :
    Memory.wf (writeByte m a b) = true := by
  induction m with
  | nil =>
    unfold writeByte
    split
    · rfl
    · simp [Memory.wf, *]
  | cons c m ih =>
    obtain ⟨h1, h2, h3⟩ := (Memory.wf_cons c m).mp h
    unfold writeByte
    split
    · split
      · exact h
      · rename_i hlt hb
        refine (Memory.wf_cons _ _).mpr ⟨hb, ?_, h⟩
        intro d hd
        rcases List.mem_cons.mp hd with rfl | hd
        · exact hlt
        · exact lt_trans hlt (h2 d hd)
    · split
      · split
        · exact h3
        · rename_i hlt heq hb
          refine (Memory.wf_cons _ _).mpr ⟨hb, ?_, h3⟩
          intro d hd
          exact heq ▸ h2 d hd
      · rename_i hlt hne
        refine (Memory.wf_cons _ _).mpr ⟨h1, ?_, ih h3⟩
        intro d hd
        rcases mem_writeByte m a b d hd with rfl | hd
        · show c.1 < a
          omega
        · exact h2 d hd

/-- A write of one word keeps the canonical form. -/
theorem writeWord_wf (m : List Host.Cell) (n : Nat) (w : BitVec 16) (h : Memory.wf m = true) :
    Memory.wf (writeWord m n w) = true := writeByte_wf _ _ _ (writeByte_wf _ _ _ h)

/-- A write of samples keeps the canonical form. -/
theorem writeSamples_wf (m : List Host.Cell) (n : Nat) (vs : List Int) (h : Memory.wf m = true) :
    Memory.wf (writeSamples m n vs) = true := by
  induction vs generalizing m n with
  | nil => exact h
  | cons v vs ih => exact ih _ _ (writeWord_wf _ _ _ h)

/-! ## Reading after writing -/

/-- An address below every cell reads as blank. -/
theorem readByte_below (m : List Host.Cell) (a : Nat) (h : ∀ d ∈ m, a < d.1) : readByte m a = blankByte := by
  induction m with
  | nil => rfl
  | cons c m ih =>
    have hc := h c (List.mem_cons_self ..)
    unfold readByte
    rw [if_neg (by omega)]
    exact ih fun d hd => h d (List.mem_cons_of_mem _ hd)

/-- What every address reads after a write. -/
theorem readByte_writeByte (m : List Host.Cell) (a x : Nat) (b : Byte) (h : Memory.wf m = true) :
    readByte (writeByte m a b) x = if x = a then b else readByte m x := by
  induction m with
  | nil =>
    unfold writeByte
    split
    · rename_i hb
      simp [readByte, hb]
    · by_cases hx : x = a
      · simp [readByte, hx]
      · simp [readByte, hx, Ne.symm hx]
  | cons c m ih =>
    obtain ⟨h1, h2, h3⟩ := (Memory.wf_cons c m).mp h
    unfold writeByte
    split
    · rename_i hlt
      have hbelow : readByte (c :: m) a = blankByte := by
        refine readByte_below _ _ fun d hd => ?_
        rcases List.mem_cons.mp hd with rfl | hd
        · exact hlt
        · exact lt_trans hlt (h2 d hd)
      split
      · rename_i hb
        by_cases hx : x = a
        · subst hx; rw [hbelow, hb]; simp
        · rw [if_neg hx]
      · by_cases hx : x = a
        · subst hx; simp [readByte]
        · rw [if_neg hx, readByte, if_neg (fun e => hx e.symm)]
    · split
      · rename_i heq
        have hbelow : readByte m a = blankByte := readByte_below _ _ fun d hd => heq ▸ h2 d hd
        split
        · rename_i hb
          by_cases hx : x = a
          · subst hx; rw [hbelow, hb]; simp
          · rw [if_neg hx]
            conv_rhs => rw [readByte, if_neg (by omega)]
        · by_cases hx : x = a
          · subst hx; simp [readByte]
          · rw [if_neg hx, readByte, if_neg (fun e => hx e.symm)]
            conv_rhs => rw [readByte, if_neg (by omega)]
      · rename_i hlt hne
        by_cases hx : c.1 = x
        · rw [readByte, if_pos hx, readByte, if_pos hx, if_neg (by omega)]
        · rw [readByte, if_neg hx, ih h3, readByte, if_neg hx]

/-- What every address reads after a word is written at sample address `n`. -/
theorem readByte_writeWord (m : List Host.Cell) (n x : Nat) (w : BitVec 16) (h : Memory.wf m = true) :
    readByte (writeWord m n w) x =
      if x = 2 * n + 1 then w.extractLsb' 8 8 else if x = 2 * n then w.extractLsb' 0 8 else readByte m x := by
  unfold writeWord
  rw [readByte_writeByte _ _ _ _ (writeByte_wf _ _ _ h), readByte_writeByte _ _ _ _ h]

/-- A sample written at `n` reads back as its value in 16 bits, and every other sample address reads as before. -/
theorem readSample_writeSample (m : List Host.Cell) (n x : Nat) (v : Int) (h : Memory.wf m = true) :
    readSample (writeSample m n v) x = if x = n then (BitVec.ofInt 16 v).toInt else readSample m x := by
  unfold readSample writeSample
  rw [readByte_writeWord _ _ _ _ h, readByte_writeWord _ _ _ _ h]
  by_cases hx : x = n
  · subst hx
    have hsplit : ∀ w : BitVec 16, w.extractLsb' 8 8 ++ w.extractLsb' 0 8 = w := fun w => by
      ext i hi
      simp only [BitVec.getElem_append, BitVec.getElem_extractLsb']
      split
      · simp [BitVec.getLsbD_eq_getElem hi]
      · rw [show 8 + (i - 8) = i by omega]; simp [BitVec.getLsbD_eq_getElem hi]
    simp [hsplit]
  · have h1 : 2 * x + 1 ≠ 2 * n + 1 := by omega
    have h2 : 2 * x + 1 ≠ 2 * n := by omega
    have h3 : 2 * x ≠ 2 * n + 1 := by omega
    have h4 : 2 * x ≠ 2 * n := by omega
    simp [hx, h2, h3]

/-- Samples written from `n` on leave every byte outside them as it was. -/
theorem readByte_writeSamples_outside (m : List Host.Cell) (n x : Nat) (vs : List Int) (h : Memory.wf m = true)
    (hx : x < 2 * n ∨ 2 * (n + vs.length) ≤ x) : readByte (writeSamples m n vs) x = readByte m x := by
  induction vs generalizing m n with
  | nil => rfl
  | cons v vs ih =>
    simp only [List.length_cons] at hx
    unfold writeSamples writeSample
    rw [ih _ _ (writeWord_wf _ _ _ h) (by omega), readByte_writeWord _ _ _ _ h, if_neg (by omega), if_neg (by omega)]

end Sys2Proof.Machine
end

