-- ==== Sys2Proof/Laws/Ops.lean ====
section
/-! SUPPORT. What the shared operations do: the outgoing queue, the orders that the spec leaves open, the rounding and
saturation, and how a command that finds the part quiet acts. -/

namespace Sys2Proof.Machine

/-! ## The outgoing queue -/

@[simp] theorem reply_link (m : Message) (s : State) :
    (reply m s).link = { s.link with outQ := s.link.outQ ++ [m] } := rfl

/-- A report joins the queue or is counted as omitted. -/
theorem raiseWithin_cases (room : Nat) (m : Message) (s : State) :
    (s.link.outQ.length < room ∧ raiseWithin room m s = reply m s) ∨
      (room ≤ s.link.outQ.length ∧
        raiseWithin room m s = s.setLink { s.link with omitted := satAdd 255 s.link.omitted 1 }) := by
  unfold raiseWithin
  split
  · exact .inl ⟨‹_›, rfl⟩
  · exact .inr ⟨by omega, rfl⟩

/-- A report leaves a queue of at most 32 frames with at most 32. -/
theorem raiseWithin_length (room : Nat) (m : Message) (s : State) (hr : room ≤ 32) (h : s.link.outQ.length ≤ 32) :
    (raiseWithin room m s).link.outQ.length ≤ 32 := by
  rcases raiseWithin_cases room m s with ⟨hlt, he⟩ | ⟨_, he⟩
  · rw [he]; simp; omega
  · rw [he]; simpa using h

/-- A report leaves an omitted counter of at most 255 so. -/
theorem raiseWithin_omitted (room : Nat) (m : Message) (s : State) (h : s.link.omitted ≤ 255) :
    (raiseWithin room m s).link.omitted ≤ 255 := by
  rcases raiseWithin_cases room m s with ⟨_, he⟩ | ⟨_, he⟩
  · rw [he]; simpa using h
  · rw [he]; simp [satAdd]

/-- A report leaves the receive side of the link, the transmitter and the switches as they were. -/
theorem raiseWithin_receive (room : Nat) (m : Message) (s : State) :
    (raiseWithin room m s).link.parser = s.link.parser ∧ (raiseWithin room m s).link.frames = s.link.frames ∧
    (raiseWithin room m s).link.rdy = s.link.rdy ∧ (raiseWithin room m s).link.tx = s.link.tx ∧
    (raiseWithin room m s).link.hold = s.link.hold ∧ (raiseWithin room m s).link.beatReports = s.link.beatReports := by
  rcases raiseWithin_cases room m s with ⟨_, he⟩ | ⟨_, he⟩ <;> rw [he] <;> simp

/-! ## Orders the spec leaves open -/

theorem permuteFuel_perm {α : Type} (n seed : Nat) (xs : List α) : (permuteFuel n seed xs).Perm xs := by
  induction n generalizing seed xs with
  | zero => exact List.Perm.refl _
  | succ n ih =>
    unfold permuteFuel
    split
    · exact List.Perm.refl _
    · rename_i x h
      obtain ⟨hlt, rfl⟩ := List.getElem?_eq_some_iff.mp h
      exact ((ih _ _).cons _).trans (List.getElem_cons_eraseIdx_perm hlt)

/-- The order taken holds exactly the items. -/
theorem permute_perm {α : Type} (seed : Nat) (xs : List α) : (permute seed xs).Perm xs := permuteFuel_perm _ _ _

/-- An open order holds exactly the items. -/
theorem openOrder_perm {α : Type} (xs : List α) (s : State) : (openOrder xs s).1.Perm xs := by
  unfold openOrder
  split
  · exact List.Perm.refl _
  · exact permute_perm _ _

/-- With fewer than two items no order is open. -/
theorem openOrder_short {α : Type} (xs : List α) (s : State) (h : xs.length < 2) : openOrder xs s = (xs, s) := by
  simp [openOrder, h]

/-! ## Refills -/

/-- The test of PRIMING leaves the transport as it is, or takes it from PRIMING into RUNNING. -/
theorem primingCheck_cases (s : State) :
    primingCheck s = s ∨
      (s.transport.state = .priming ∧ primingCheck s = s.setTransport (enterRunning s.transport)) := by
  unfold primingCheck
  split
  · exact .inr ⟨(‹_ ∧ _›).1, rfl⟩
  · exact .inl rfl

/-- Entries that land change their layer's buffer, and with it perhaps the state PRIMING. -/
theorem landEntries_cases (sl : Slot) (entries : List Entry) (s : State) :
    ∃ b, landEntries sl entries s = s.setBuffer sl b ∨
      (s.transport.state = .priming ∧
        landEntries sl entries s = (s.setBuffer sl b).setTransport (enterRunning s.transport)) := by
  unfold landEntries
  split
  · rename_i h
    exact ⟨none, .inl (by rw [← h]; simp [State.setBuffer, State.setStore, State.buffer])⟩
  · rcases primingCheck_cases (s.setBuffer sl (some _)) with h | ⟨hp, h⟩
    · exact ⟨_, .inl h⟩
    · exact ⟨_, .inr ⟨by simpa using hp, by simpa using h⟩⟩

/-- A layer with no refill request, or one that needs a read, is given nothing. -/
theorem placeSilent_idle (s : State) (sl : Slot)
    (h : refillPending s sl = false ∨ refillReads s sl (composedEntries s sl) ≠ 0) : placeSilent s sl = s := by
  unfold placeSilent
  rcases h with h | h <;> simp [h]

/-- Raising a request that is not raised, or that needs a read, places nothing. -/
theorem raiseRefill_idle (s : State) (sl : Slot)
    (h : refillPending s sl = false ∨ refillReads s sl (composedEntries s sl) ≠ 0) : raiseRefill sl s = s := by
  simp [raiseRefill, placeSilent_idle s sl h]

/-! ## Rounding and saturation -/

/-- Saturation brings every value into the signed range. -/
theorem saturate_range (bits : Nat) (x : Int) :
    -(2 ^ (bits - 1)) ≤ saturate bits x ∧ saturate bits x ≤ 2 ^ (bits - 1) - 1 := by
  have : (0 : Int) < 2 ^ (bits - 1) := by positivity
  unfold saturate
  omega

/-- A value in range is left as it is. -/
theorem saturate_of_range (bits : Nat) (x : Int) (h1 : -(2 ^ (bits - 1)) ≤ x) (h2 : x ≤ 2 ^ (bits - 1) - 1) :
    saturate bits x = x := by
  unfold saturate
  omega

/-- A trimmed value is a 24-bit value. -/
theorem trimmed_is24 (x : Int) (t : Nat) : is24 (trimmed x t) := by
  have := saturate_range 24 (roundShift (x * t) 12)
  simpa [is24, trimmed, sat24] using this

/-! ## Commands that find the part quiet -/

/-- With nothing due and no frame waiting, settling changes nothing. -/
theorem settle_quiet (s : State) (h : quiet s) : settle s = s := by
  unfold settle
  rw [h.1]
  rcases h.2 with hf | hc
  · rw [hf]; rfl
  · cases hl : s.link.frames.length with
    | zero => rfl
    | succ n => simp [dispatchAll, hc]

/-- A request row that finds the part ready is the handing over of the request. -/
theorem takeRequest_ready (q : Request) (s : State) (h : ready s) : takeRequest q s = handle q s := by
  have hf : s.link.frames = [] := h.1.2.resolve_right (by simp [h.2])
  unfold takeRequest
  rw [h.1.1, hf]
  simp [takeInTurn, handleIfFree, h.2]

/-- While no request may be taken, a request row leaves a quiet part as it is. -/
theorem takeRequest_held (q : Request) (s : State) (h : quiet s) (hc : canTake s = false) : takeRequest q s = s := by
  unfold takeRequest
  rw [h.1]
  cases hl : s.link.frames with
  | nil => simp [takeInTurn, handleIfFree, hc]
  | cons f fs => simp [takeInTurn, hl, hc]

/-- While the part does not run, no event comes about. -/
theorem urgent_stopped (s : State) (h : isRunning s = false) : urgent s = s := by
  simp [urgent, h]

/-- While the part does not run, no frame is taken. -/
theorem canTake_stopped (s : State) (h : isRunning s = false) : canTake s = false := by
  unfold isRunning at h
  unfold canTake
  cases hn : s.rest.nrst <;> cases hr : s.rest.run <;> simp_all

/-- While the part does not run, settling changes nothing. -/
theorem settle_stopped (s : State) (h : isRunning s = false) : settle s = s := by
  unfold settle
  rw [urgent_stopped s h]
  cases hl : s.link.frames.length with
  | zero => rfl
  | succ n => simp [dispatchAll, canTake_stopped s h]

/-- An event row takes a due event of the running part. -/
theorem takeEvent_due (due : Bool) (f : State → State) (s : State) (hr : isRunning s = true) (hd : due = true) :
    takeEvent due f s = f s := by
  simp [takeEvent, hr, hd]

/-- An event row that is not due leaves the part as it is. -/
theorem takeEvent_idle (due : Bool) (f : State → State) (s : State) (hd : due = false) : takeEvent due f s = s := by
  simp [takeEvent, hd]

/-- The part runs wherever its dispatcher may take a request. -/
theorem isRunning_of_canTake (s : State) (h : canTake s = true) : isRunning s = true := by
  by_contra hr
  rw [canTake_stopped s (by simpa using hr)] at h
  cases h

end Sys2Proof.Machine
end

