-- ==== Sys2Proof/Tests/Slice0.lean ====
section
/-! SUPPORT. Tests: the worked figures of the spec, the smoke test of `wellFormed`, one or two small tests for the commands, and
for each statement with hypotheses a witness, named after the statement, whose hypotheses hold of a concrete state. -/

namespace Sys2Proof.Tests

set_option Elab.async false

open Sys2Proof Sys2Proof.Machine

/-! ## Small states -/

/-- AWAKE in IDLE with a store of 1,024 pages, three of them free, and a port window under way. -/
def calm : State :=
  { State.reset with
    rest := { State.reset.rest with run := .awake }
    store := { State.reset.store with present := true, pages := 1024, pool := [5, 6, 9], windowPos := 5, credit := 40 }
    link := { State.reset.link with rdy := true } }

/-- An ACTIVE layer of two pages that fills a cycle of 4,800. -/
def aLayer : LayerRec :=
  { LayerRec.freed with state := .active, origin := some (.lane 0), k := some 0, len := 4800, extents := [⟨10, 2⟩], fade := 64 }

/-- RUNNING at p = 100 of 4,800 with layers of multiple 1 and 2 in slots 0 and 1, nothing being read ahead. -/
def playing : State :=
  { calm with
    transport := { calm.transport with state := .running, length := some 4800, p := 100, c := 7 }
    table :=
      { calm.table with
        layers := (calm.table.layers.set 0 aLayer).set 1 { aLayer with multiple := 2, k := some 1, extents := [⟨12, 2⟩] }
        stack := [0, 1] } }

/-- A recorder in a take of lane 1 with two samples in its FIFO. -/
def aTake : RecorderRec :=
  { RecorderRec.idle with state := .recording, lane := some 1, slot := some 2, fifo := [.sample 5, .sample (-6)] }

/-- A layer in RECORDING with two samples. -/
def aPart : LayerRec :=
  { LayerRec.freed with state := .recording, origin := some (.lane 1), k := some 0, len := 2, extents := [⟨14, 1⟩] }

/-- `playing` with a take in recorder 0 and slot 2. -/
def taking : State :=
  { playing with
    takes := { recs := playing.takes.recs.set 0 aTake, order := [0] }
    table := { playing.table with layers := playing.table.layers.set 2 aPart } }

/-- FREE DEFINING after 4,800 samples, the last two of them in the FIFO. -/
def defining : State :=
  { calm with
    transport := { calm.transport with state := .defining, p := 4800 }
    takes :=
      { recs := calm.takes.recs.set 0 { aTake with lane := some 0, slot := some 0, base := true, cursor := 4798 }
        order := [0] }
    table := { calm.table with layers := calm.table.layers.set 0 { aLayer with state := .recording } } }

/-- HALTED with the layers of `playing`. -/
def halted : State := { playing with transport := { playing.transport with state := .halted, p := 0 } }

/-- `playing` with a bounce of slots 1 and 0 into slot 3 under way, its burst not granted. -/
def aJob : Job :=
  { Job.idle with
    running := true, result := some 3, sources := [⟨1, 2, 1, 4096, 64⟩, ⟨0, 1, 0, 4096, 64⟩], anchor := some 0, anchorK := 1
    multiple := 2, total := 9600, chunk := some ⟨0, 2, [4096, -6144], 0, [⟨0, 0, 1⟩, ⟨1, 4800, 1⟩], .read⟩, inFlight := true }

/-- A state in the middle of a bounce. -/
def bouncing : State :=
  { playing with
    job := aJob
    store := { playing.store with transfer := some ⟨.bounceRead, 1⟩ }
    table :=
      { playing.table with
        layers := playing.table.layers.set 3
          { LayerRec.freed with
            state := .building, origin := some .bounce, multiple := 2, len := 9600, extents := [⟨20, 3⟩] } } }

/-- The next state of a command, the state itself where there is none. -/
def after (i : Instr) (s : State) : State :=
  match exec i s with
  | .next t => t
  | .fault _ => s
  | .refused _ => s

/-! ## Worked figures -/

/-- The figures of section 1.2. -/
theorem test_samples_per_beat :
    (samplesPerBeat 1200, samplesPerBeat 1234, samplesPerBeat 3000, samplesPerBeat 400, samplesPerBeat 2048) =
      (24000, 23339, 9600, 72000, 14063) := by decide +kernel

/-- The beat starts of R4 for L = 100,000 and B = 3. -/
theorem test_beat_starts : (List.range 3).map (beatStart 100000 3) = [0, 33333, 66666] := by decide +kernel

/-- The worked figures for the trim (section 4.2). -/
theorem test_trim :
    [trimmed 1000000 6000, trimmed 3 2048, trimmed (-3) 2048, trimmed (-1) 4096, trimmed 8388607 8191, trimmed (-8388608) 8191] =
      [1464844, 2, -1, -1, 8388607, -8388608] := by decide +kernel

/-- The worked figures for the store conversion (section 5.4). -/
theorem test_store_conversion :
    [1464844, 127, 128, -128, -129, -384, 8388479, 8388607, -8388608].map stored16 =
      [5722, 0, 1, 0, -1, -1, 32767, 32767, -32768] := by decide +kernel

/-- The worked figures for the fade ramp (section 7.2). -/
theorem test_fade_ramp :
    [0, 10, 149, 150, 290, 299].map (effectiveGain 4096 256 300) = [16, 176, 2400, 2400, 160, 16] ∧
      effectiveGain 4096 64 96000 95937 = 4032 ∧ effectiveGain 8191 1024 100000 500 = 4007 := by decide +kernel

/-- The worked figures for the mix (section 7.3). -/
theorem test_master_stage :
    masterStage (sourceTerm 3072000 4096 64 + sourceTerm 1000000 4096 128) 4096 = 2536000 ∧
      masterStage (sourceTerm 3072000 4096 64 + sourceTerm (-768000) 2048 128) 4096 = 1152000 ∧
      masterStage 1329594368000 8191 = 5071381 ∧ masterStage (sourceTerm (-3) 2048 128) 4096 = -1 := by decide +kernel

/-- The worked figures for the bounce sum (section 8.5). -/
theorem test_bounce_sum :
    [2971328, 143360000, -2048, -6144].map (fun x => sat16 (bounceRounded x)) = [725, 32767, 0, -1] ∧
      clipped 16 (bounceRounded 143360000) = 1 := by decide +kernel

/-- The target cycles across the wrap (section 3.4). -/
theorem test_target_cycles :
    [0, 65534, 65533, 32766].map (fun t => isDue 65534 ⟨0, .undo, some t, 0, 0, 0⟩) = [false, true, true, false] ∧
      isDue 32766 ⟨0, .undo, some 32766, 0, 0, 0⟩ = true := by decide +kernel

/-- The storage of the wrapped span (section 2.3): layer page 11, sample 944, lies in pool page 217. -/
theorem test_wrapped_span :
    (backMod 10000 60000 96000, offsetAddress [⟨200, 10⟩, ⟨216, 7⟩] 46000) = (46000, some (217 * 4096 + 944)) := by
  decide +kernel

/-- A HELLO frame, and the CUE frame of section 9.2. -/
theorem test_frames :
    frameOf 0x01 [] = [0xC3, 0, 0x01, 0xFF] ∧
      (frameOf 0x05 [3, 2, 8, 0, 1, 1, 2, 0, 0]).getLast? = some 0xE1 := by decide +kernel

/-- The layer record with 16 extents is 95 bytes long (R176). -/
theorem test_layer_record_length :
    (Message.layer ⟨0, { aLayer with extents := List.replicate 16 ⟨1, 1⟩ }, Vector.replicate 4 false, 0, 255, 16⟩).payload.length =
      95 := by decide +kernel

/-- The payload lengths of BOUNDARY, TAKE_END, BOUNCE_END, LEVEL, WOKE, CUE_FIRED and FRAME_FAULT (R176). -/
theorem test_report_lengths :
    (Message.boundary ⟨1, 2, .running, [.low, .clip, .silent, .nominal], 5, true, 3, 4, 5⟩).payload.length = 11 ∧
      (Message.takeEnd 1 2 .full 3 4 5).payload.length = 12 ∧ (Message.bounceEnd .done 1 2 3 4 5).payload.length = 11 ∧
      (Message.level 1 .low .clip).payload = [1, 1, 3] ∧ (Message.woke .linkActivity 9 1024).payload = [3, 9, 0, 4] ∧
      (Message.cueFired 8 .startTake .ok 2).payload = [8, 3, 0, 2] ∧ (Message.frameFault .overrun 7).payload = [4, 7] := by
  decide +kernel

/-! ## The smoke test of `wellFormed` -/

/-- A frame of request kind is no UNKNOWN_KIND: refused by the check; kinds 0 and 13 pass. -/
theorem test_wellFormed_unknown_kind :
    (Instr.unknownKind 3).wellFormed = false ∧ (Instr.unknownKind 12).wellFormed = false ∧
      (Instr.unknownKind 0).wellFormed = true ∧ (Instr.unknownKind 13).wellFormed = true := by decide +kernel

/-- No word spells a command (log 17). -/
theorem test_no_word_spells_a_command : decodeTableWord 8 1 = none ∧ calm.withFetchWord 8 1 = calm := by decide +kernel

/-! ## Requests -/

/-- HELLO shows P and counts no reply of its own. -/
theorem test_hello : (after .hello calm).link.outQ = [.hello 1024 0 0 0] := by decide +kernel

/-- LANE_SETUP clamps the pan and pulls T_low down to T_nom. -/
theorem test_lane_setup :
    ((after (.laneSetup 1 0x28 0 0 0 200 0 100 0 0 0) calm).lane 1).pan = 128 ∧
      ((after (.laneSetup 1 0x28 0 0 0 200 0 100 0 0 0) calm).lane 1).tLow = 100 := by decide +kernel

/-- GRID_SETUP clamps the tempo and answers with the cycle length. -/
theorem test_grid_setup : (after (.gridSetup 1 4 1234 64) calm).link.outQ = [.gridSet 1234 93356] := by decide +kernel

/-- OUTPUT_SETUP writes what its mask names. -/
theorem test_output_setup :
    (after (.outputSetup 0x05 9000 1 2000000 9 9) calm).link.outQ = [.outputSet 8191 4096 2000000 .cycle false 0 0] := by
  decide +kernel

/-- LAYER_SETUP of a FREE slot. -/
theorem test_layer_setup : (after (.layerSetup 7 1 0 0 0 0) calm).link.outQ = [.refused 6 .noSuchLayer] := by decide +kernel

/-- A CLOSE_BASE below 4,800 samples. -/
theorem test_close_base_too_short :
    (after (.closeBase 3) { defining with transport := { defining.transport with p := 4799 } }).link.outQ =
      [.cue .tooShort 3 255 0 0] := by decide +kernel

/-- A closure at p = 4,800: the cycle is as long as the take. -/
theorem test_close_base : (after (.closeBase 3) defining).transport.length = some 4800 := by decide +kernel

/-- MUTE of a group leaves the flags of its layers. -/
theorem test_mute_group :
    (after (.muteGroup 1 2) playing).table.groupMutes[2] = true ∧ ((after (.muteGroup 1 2) playing).layer 0).muted = false := by
  decide +kernel

/-- UNDO and REDO are each other's opposite on the stack. -/
theorem test_undo_redo :
    (after (.undo 1) playing).table.stack = [0] ∧ (after (.undo 1) playing).table.redo = [1] ∧
      (after (.redo 2) (after (.undo 1) playing)).table.stack = [0, 1] := by decide +kernel

/-- A HALT with BEAT is a form fault, with CYCLE it waits. -/
theorem test_cue_queued :
    (after (.cueQueued 9 .beat 4 none 0 0 0) playing).link.outQ = [.cue .badValue 4 255 0 0] ∧
      (after (.cueQueued 9 .cycle 4 none 0 0 0) playing).link.outQ = [.cue .queued 4 255 1 0] := by decide +kernel

/-- A BOUNCE of one slot is a bad value; of two, it is admitted with the larger multiple. -/
theorem test_bounce :
    (after (.bounce 1 #v[0, 1, 0, 0, 0, 0, 0, 0]) playing).link.outQ = [.bounce .badValue 255 0 255 0 255] ∧
      (after (.bounce 2 #v[0, 1, 0, 0, 0, 0, 0, 0]) playing).link.outQ = [.bounce .ok 2 2 1 3 255] := by decide +kernel

/-- FLUSH in mode TAG keeps the entries of other tags. -/
theorem test_flush_tag :
    (after (.flushTag 1) { playing with cues := ⟨[⟨1, .undo, none, 0, 0, 0⟩], [⟨2, .redo, none, 0, 0, 0⟩]⟩ }).link.outQ =
      [.flushed 1 0 1] := by decide +kernel

/-- QUERY LANE of lane 4 is a bad value. -/
theorem test_query_lane : (after (.queryLane 4) calm).link.outQ = [.refused 9 .badValue] := by decide +kernel

/-- QUERY STORE counts the free pages and runs. -/
theorem test_query_store :
    ((after .queryStore calm).link.outQ.map fun m => (m.payload.take 19).drop 1) =
      [[0, 0, 4, 3, 0, 0, 0, 0, 0, 0, 0, 0, 0, 2, 0, 2, 0, 5]] := by decide +kernel

/-- CLEAR returns every page to the pool and keeps the settings. -/
theorem test_clear :
    (after .clear playing).store.pool.length = 1024 ∧ (after .clear playing).transport.tempo = 1200 := by decide +kernel

/-- REST is refused while RUNNING. -/
theorem test_rest : (after .rest playing).link.outQ = [.refused 12 .busy] := by decide +kernel

/-- An unknown KIND is answered with itself. -/
theorem test_unknown_kind : ((after (.unknownKind 0x41) calm).link.outQ.map Message.bytes) =
    [[0xC3, 2, 0x80, 4, 0x41, 0x39]] := by decide +kernel

/-! ## The line -/

/-- The four bytes of a HELLO, a wrong CHECK, and the request that a right one brings. -/
theorem test_frame_received :
    (after .linkWake (after (.rxdByte 0xFF false) (after (.rxdByte 1 false) (after (.rxdByte 0 false)
      (after (.rxdByte 0xC3 false) calm))))).link.outQ = [.hello 1024 0 0 0] ∧
      (after (.rxdByte 0xFE false) (after (.rxdByte 1 false) (after (.rxdByte 0 false)
      (after (.rxdByte 0xC3 false) calm)))).link.outQ = [.frameFault .check 1] := by decide +kernel

/-- A stop-bit fault on the byte in the place of the KIND: that byte has been taken into the frame, and its KIND is reported (R165). -/
theorem test_line_fault_on_the_kind :
    (after (.rxdByte 5 true) (after (.rxdByte 9 false) (after (.rxdByte 0xC3 false) calm))).link.outQ =
      [.frameFault .line 5] := by decide +kernel

/-- The timeout discards a frame that was begun. -/
theorem test_inter_byte_timeout :
    (after .interByteTimeout (after (.rxdByte 0xC3 false) calm)).link.outQ = [.frameFault .timeout 0] := by decide +kernel

/-- The restart comes when the last stop bit of its reply has been sent. -/
theorem test_restart :
    (after .frameSent (after .restart playing)).rest.run = .starting ∧
      (after .frameSent (after .restart playing)).rest.cause = .restart := by decide +kernel

/-- HOLD holds back the start of a frame. -/
theorem test_hold :
    (after .linkWake (after .hello (after .holdAsserted calm))).link.tx = .idle ∧
      (after .linkWake (after .hello calm)).link.tx ≠ .idle := by decide +kernel

/-! ## The sample clock -/

/-- A lane alone, panned to the left, comes through at unity; the frame carries the pair formed before. -/
theorem test_sample_period :
    let s := { calm with lanes := (Vector.replicate 4 { LaneRec.initial with enable := false }).set 0 { LaneRec.initial with pan := 0 } }
    (after (.samplePeriod 1000000 0 0 0) s).mix.formed = ⟨1000000, 0, 1000000, 0⟩ ∧
      (after (.samplePeriod 1000000 0 0 0) s).mix.frame = ⟨0, 0, 0, 0⟩ := by decide +kernel

/-- A sample joins the FIFO, and the playhead moves on. -/
theorem test_sample_period_records :
    ((after (.samplePeriod 0 1000000 0 0) taking).recorder 0).fifo = [.sample 5, .sample (-6), .sample 3906] ∧
      (after (.samplePeriod 0 1000000 0 0) taking).transport.p = 101 := by decide +kernel

/-- The counter c wraps from 65535 to 0 at a cycle start, and k of multiple 2 from 1 to 0. -/
theorem test_cycle_start :
    let s := { playing with transport := { playing.transport with p := 4800, c := 65535 } }
    (after .cycleStart s).transport.c = 0 ∧ ((after .cycleStart s).layer 1).k = some 0 := by decide +kernel

/-- A beat boundary starts a click of half the amplitude. -/
theorem test_beat_boundary :
    (after .beatBoundary
      { playing with
        transport := { playing.transport with p := 1200, beatDue := true }
        mix := { playing.mix with clickAmp := 2000000 } }).mix.burstAmp = 1000000 := by decide +kernel

/-- A HALT ends a click burst at the next sample period, a PLAY between them or not: no click is left to sound (R145). -/
theorem test_halt_play_click :
    let s := { playing with
        table := calm.table
        mix := { playing.mix with burstPos := some 24, burstAmp := 1000 } }
    let t := after (.samplePeriod 0 0 0 0) (after (.play 2) (after (.halt 1) s))
    t.transport.state = .running ∧ t.mix.burstPos = none ∧ (after (.samplePeriod 0 0 0 0) s).mix.burstPos = some 25 := by
  decide +kernel

/-- Windows 3 and 12 of the worked example of section 4.5. -/
theorem test_window_end :
    let w := fun (band : Band) (below peak : Nat) =>
      let r := { LaneRec.initial with riseMask := 12, fallMask := 1, band := band, below := below, peak := peak, pos := 480 }
      let t := after (.windowEnd 0) { calm with lanes := calm.lanes.set 0 r }
      ((t.lane 0).band, (t.lane 0).below, t.link.outQ)
    w .low 0 300000 = (.nominal, 0, [.level 0 .low .nominal]) ∧ w .clip 7 270000 = (.nominal, 0, []) := by decide +kernel

/-! ## The memory port -/

/-- Two samples drain to the pages of their layer. -/
theorem test_drain :
    (after .drainBurstComplete
      { taking with store := { taking.store with transfer := some ⟨.drain 0 2, 0⟩ } }).mem =
      [(14 * 8192, 5), (14 * 8192 + 2, 0xFA), (14 * 8192 + 3, 0xFF)] := by decide +kernel

/-- A drain of 150 samples is granted as one burst of 128 for one credit. -/
theorem test_grant :
    let s := { taking with takes := { taking.takes with recs := taking.takes.recs.set 0 { aTake with fifo := List.replicate 150 (.sample 1) } } }
    (after .portGrant s).store.transfer = some ⟨.drain 0 128, 3⟩ ∧ (after .portGrant s).store.credit = 39 := by decide +kernel

/-- PLAY with a layer that is SILENT over its first 256 indices enters RUNNING at once, its buffer holding 256 entries (R121, R18). -/
theorem test_play_silent :
    let s := { halted with table := { halted.table with layers := halted.table.layers.set 0 { aLayer with start := 1000, len := 100 } } }
    let t := after (.play 1) { s with table := { s.table with layers := s.table.layers.set 1 LayerRec.freed, stack := [0] } }
    t.transport.state = .running ∧ ((t.buffer 0).map fun b => b.entries.length) = some 256 ∧ t.link.outQ = [.cue .ok 1 255 0 0] := by
  decide +kernel

/-- A bounce write stores the sums of the worked figures. -/
theorem test_bounce_write :
    let s :=
      { bouncing with
        job := { aJob with total := 2, chunk := some ⟨0, 2, [2971328, 143360000], 1, [], .write⟩ }
        store := { bouncing.store with transfer := some ⟨.bounceWrite, 0⟩ } }
    readSample (after .bounceWriteComplete s).mem (20 * 4096) = 725 ∧
      readSample (after .bounceWriteComplete s).mem (20 * 4096 + 1) = 32767 ∧
      (after .bounceWriteComplete s).table.stack = [3] := by decide +kernel

/-! ## Start-up and wake -/

/-- From reset to AWAKE with WOKE, P as the probe finds it. -/
theorem test_start_up :
    (after .probePeriodEnd (after (.oscillatorStartUpEnd .missing) State.reset)).link.outQ = [.woke .power 0 0] ∧
      (after (.oscillatorStartUpEnd .missing) State.reset).store.pages = 0 := by decide +kernel

/-- A wake by the line, and a false one. -/
theorem test_wake :
    let s := { calm with rest := { calm.rest with run := .rest } }
    (after .wakeStartingEnd (after .wakeAsserted s)).rest.run = .awake ∧
      (after .wakeStartingEnd (after .wakeReleased (after .wakeAsserted s))).rest.run = .rest ∧
      (after .wakeStartingEnd (after .linkWake s)).link.outQ = [.woke .linkActivity 0 1024] := by decide +kernel

/-- NRST low and high again: every block has its power-on values. -/
theorem test_reset : after .nrstRise (after .nrstLow calm) = { State.reset with rest := State.reset.rest } := by decide +kernel

/-! ## Witnesses

`witness_<Name>` shows concrete states and operands that meet the hypotheses of `Obligations.<Name>`, clause by clause, at the
boundary values of the ranges. Statements without hypotheses have none. -/

/-- `playing` with a full queue of each kind and a command that waits. -/
def full : State :=
  { playing with
    cues := ⟨List.replicate 8 ⟨1, .undo, some 9, 0, 0, 0⟩, List.replicate 8 ⟨2, .redo, none, 0, 0, 0⟩⟩
    link := { playing.link with outQ := List.replicate 32 (.accepted 10), omitted := 255 }
    lanes := playing.lanes.set 1 { LaneRec.initial with peak := 8388608, pos := 479, below := 7, trim := 8191 }
    transport := { playing.transport with pin := true, pulseRemaining := 480 }
    mix := { playing.mix with formed := ⟨8388607, -8388608, 0, 0⟩ }
    store := { playing.store with windowPos := 128 }
    mem := [(3, 7)]
    pending := [.samplePeriod 0x7FFFFF 0x800000 0 1] }

theorem witness_StepTakesTheFrontCommand : State.reset.pending = [] := rfl

theorem witness_ExecLeavesTheQueue : exec .portWindowStart full = .next (after .portWindowStart full) := rfl

/-- `full` and the state that its step gives. -/
theorem full_steps : step full = .next (after (.samplePeriod 0x7FFFFF 0x800000 0 1) { full with pending := [] }) := rfl

theorem witness_StepKeepsMemoryCanonical : memoryCanonical full ∧ ∃ t, step full = .next t :=
  ⟨by unfold memoryCanonical; decide +kernel, _, full_steps⟩

theorem witness_StepKeepsLinkAndCueQueuesBounded :
    (outgoingBounded full ∧ receiveBounded full) ∧ cueQueuesBounded full ∧ ∃ t, step full = .next t := by
  refine ⟨?_, ?_, _, full_steps⟩
  · unfold outgoingBounded receiveBounded; decide +kernel
  · unfold cueQueuesBounded; decide +kernel

theorem witness_StepKeepsPortAndPulseBounded : portBounded full ∧ pulseSound full ∧ ∃ t, step full = .next t := by
  refine ⟨?_, ?_, _, full_steps⟩
  · unfold portBounded; decide +kernel
  · unfold pulseSound; decide +kernel

theorem witness_StepKeepsLanesAndOutputsInRange : lanesInRange full ∧ outputsInRange full ∧ ∃ t, step full = .next t := by
  refine ⟨?_, ?_, _, full_steps⟩
  · unfold lanesInRange LaneRec.inRange; decide +kernel
  · unfold outputsInRange OutPair.inRange is24; decide +kernel

/-- A MUTE of group 3 for target `t`. -/
def muteAt (t : Nat) : CueEntry := ⟨1, .mute, some t, 1, 3, 0⟩

/-- A song of two layers, both the sources of a bounce, with a take of two samples and a parked layer, over 32 pages; a sample period
waits. -/
def singing : State :=
  { taking with
    job := { aJob with inFlight := false }
    store :=
      { taking.store with pages := 32, pool := List.range 10 ++ [15, 16, 17, 18, 19] ++ (List.range 8).map (· + 24) }
    table :=
      { taking.table with
        layers :=
          ((((taking.table.layers.set 0 { aLayer with held := true }).set 1
              { aLayer with multiple := 2, k := some 1, extents := [⟨12, 2⟩], held := true }).set 3
              { LayerRec.freed with
                state := .building, origin := some .bounce, multiple := 2, len := 9600, extents := [⟨20, 3⟩] }).set 4
              { aLayer with state := .parked, len := 1, extents := [⟨23, 1⟩] })
        redo := [4] }
    pending := [.samplePeriod 0x7FFFFF 0x800000 0 1] }

/-- The song of `singing` hangs together, and the step gives a next state. -/
theorem witness_StepKeepsTheSongSound :
    songSound singing ∧ step singing = .next (after (.samplePeriod 0x7FFFFF 0x800000 0 1) { singing with pending := [] }) := by
  refine ⟨?_, rfl⟩
  constructor
  case burst => intro r n left h; exact nomatch (h : none = some (⟨.drain r n, left⟩ : Transfer))
  all_goals decide +kernel

/-- `singing` with the buffers of its two ACTIVE layers, a refill in flight for one of them, and a cue in each queue. -/
def streaming : State :=
  { singing with
    lanes := Vector.replicate 4 { LaneRec.initial with armed := false }
    cues := ⟨[muteAt 9], [⟨2, .redo, none, 0, 0, 0⟩]⟩
    store :=
      { singing.store with
        buffers :=
          (singing.store.buffers.set 0 (some ⟨List.replicate 128 ⟨99, 99, some 7⟩, true, true⟩)).set 1
            (some ⟨List.replicate 256 ⟨99, 99, some 7⟩, true, false⟩)
        transfer := some ⟨.refill 0 (List.replicate 128 ⟨227, 227, some 7⟩), 3⟩ } }

/-- The song of `streaming` and its playhead hang together, and the step gives a next state. -/
theorem witness_StepKeepsThePlayheadSound :
    songSound streaming ∧ playheadSound streaming ∧
      step streaming = .next (after (.samplePeriod 0x7FFFFF 0x800000 0 1) { streaming with pending := [] }) := by
  refine ⟨?_, ?_, rfl⟩
  · constructor
    case burst => intro r n left h; exact nomatch h
    all_goals decide +kernel
  · constructor
    case cycle => intro _ _; exact ⟨4800, by decide +kernel⟩
    case refill =>
      intro sl entries left h
      cases h
      exact ⟨by decide +kernel, _, rfl, by decide +kernel⟩
    case buffers =>
      have h : ∀ sl, ∀ b ∈ streaming.buffer sl, b.entries.length ≤ 256 := by decide +kernel
      exact fun sl => ⟨by revert sl; decide +kernel, fun b hb => h sl b hb⟩
    case cycles =>
      have h : ∀ sl, if (streaming.layer sl).state = .free ∨ (streaming.layer sl).state = .building then (streaming.layer sl).k = none
          else 1 ≤ (streaming.layer sl).multiple ∧ (streaming.layer sl).multiple ≤ 8 ∧
            ∃ k ∈ (streaming.layer sl).k, k < (streaming.layer sl).multiple := by decide +kernel
      intro sl
      have := h sl
      split at this <;> simp_all [streaming, singing, taking, playing]
    case anchor => intro _; exact ⟨0, ⟨1, 2, 1, 4096, 64⟩, 3, by decide +kernel⟩
    all_goals decide +kernel

theorem witness_BeatsAreAsR3AndR4Give :
    ∃ T B T' B' : Nat, (400 ≤ T ∧ T ≤ 3000 ∧ 1 ≤ B ∧ B ≤ 32) ∧ (400 ≤ T' ∧ T' ≤ 3000 ∧ 1 ≤ B' ∧ B' ≤ 32) ∧ T < T' ∧ B < B' :=
  ⟨400, 1, 3000, 32, by decide⟩

theorem witness_BeatsAreAsR3AndR4Give_grid : ∃ L B p n : Nat, 4800 ≤ L ∧ 1 ≤ B ∧ B ≤ 32 ∧ p < L ∧ L = B * n := ⟨4800, 32, 4799, 150, by decide⟩

theorem witness_FadeRampIsAsR133Gives :
    ∃ F len o o' : Nat, o < len ∧ o' < len ∧ 0 < F ∧ (F ≤ o + 1 ∧ o + F ≤ len) ∧ (o' + 1 ≤ F ∧ 2 * o' + 1 ≤ len) :=
  ⟨32, 64, 32, 31, by decide⟩

theorem witness_TargetsAreDueForHalfTheCounter :
    (⟨1, .undo, some 65535, 0, 0, 0⟩ : CueEntry).target = some 65535 ∧ 65535 < 65536 ∧ 32768 < 65536 := by decide

theorem witness_ReturnedPagesAreInThePool : [5, 6, 9].Pairwise (· < ·) := by decide

theorem witness_ReadsAreCutAtPagesAndJumps :
    piecesOf [(0, 4094), (1, 4095), (2, 4096), (4, 4097)] = [] ++ ⟨0, 4094, 2⟩ :: ⟨2, 4096, 1⟩ :: [⟨4, 4097, 1⟩] := by decide +kernel

theorem witness_HelloIsAnsweredAndChangesNothing : ready calm := by decide +kernel

theorem witness_LaneSetupIsAsR72Gives_refused :
    ready calm ∧ 3 < (4 : Byte).toNat ∧ ((1 : Byte).getLsbD 0 = true ∧ 1 < (2 : Byte).toNat) ∧
      ((0x40 : Byte).getLsbD 6 = true ∧ 15 < (16 : Byte).toNat) ∧ ((0x80 : Byte).getLsbD 7 = true ∧ 1 < (2 : Byte).toNat) := by
  decide +kernel

theorem witness_LaneSetupIsAsR72Gives :
    ready calm ∧ (3 : Byte).toNat = (3 : Lane).val ∧ ((0xFF : Byte).getLsbD 0 = true → (1 : Byte).toNat ≤ 1) ∧
      ((0xFF : Byte).getLsbD 6 = true → (15 : Byte).toNat ≤ 15 ∧ (0 : Byte).toNat ≤ 15) ∧
      ((0xFF : Byte).getLsbD 7 = true → (1 : Byte).toNat ≤ 1) := by decide +kernel

theorem witness_GridSetupIsAsR2Gives : ready calm ∧ ready playing := by decide +kernel

theorem witness_OutputSetupIsAsR139Gives : ready playing := by decide +kernel

theorem witness_LayerSetupIsAsR44Gives :
    ready playing ∧ 23 < (24 : Byte).toNat ∧ ((4 : Byte).getLsbD 2 = true ∧ (33 : BitVec 16).toNat ∉ [0, 32, 64, 128, 256, 512, 1024]) ∧
      ((8 : Byte).getLsbD 3 = true ∧ 3 < (4 : Byte).toNat) ∧
      (¬(23 < (1 : Byte).toNat ∨ ((0x0F : Byte).getLsbD 2 = true ∧ (32 : BitVec 16).toNat ∉ [0, 32, 64, 128, 256, 512, 1024]) ∨
        ((0x0F : Byte).getLsbD 3 = true ∧ 3 < (3 : Byte).toNat)) ∧ (1 : Byte).toNat = (1 : Slot).val) := by decide +kernel

theorem witness_CuesAreTestedForFormAndState :
    ready playing ∧ (0 : Byte).toNat = 0 ∧ (8 < (9 : Byte).toNat ∧ ¬((9 : Byte).toNat = 9 ∧ WaitQuant.beat = .cycle)) ∧
      3 < (4 : Byte).toNat ∧ 8 < (9 : Byte).toNat ∧ 1 < (2 : Byte).toNat ∧ 23 < (24 : Byte).toNat ∧ (4 : Byte).toNat ≠ 255 := by
  decide +kernel

theorem witness_CuesAreTestedForFormAndState_state :
    (3 : Byte).toNat ≤ 3 ∧ 1 ≤ (8 : Byte).toNat ∧ (8 : Byte).toNat ≤ 8 ∧ ((3 : Byte).toNat ≤ 3 ∨ (3 : Byte).toNat = 255) ∧
      (23 : Byte).toNat ≤ 23 ∧ (ready calm ∧ calm.transport.state = .idle) ∧
      (ready playing ∧ playing.transport.state ≠ .idle ∧ playing.transport.state ≠ .defining ∧ playing.transport.state ≠ .halted) ∧
      (ready halted ∧ halted.transport.state ≠ .running ∧ halted.transport.state ≠ .priming ∧
        ¬(halted.transport.state = .defining ∧ halted.transport.mode = .grid)) := by decide +kernel

theorem witness_StartBaseBeginsTheBaseTake :
    ready calm ∧ (3 : Byte).toNat = (3 : Lane).val ∧ calm.transport.state = .idle ∧ calm.transport.mode = .free ∧
      (calm.lane 3).enable = true ∧ calm.store.pages ≠ 0 ∧ calm.store.pool = [5, 6, 9] ∧
      (∀ sl, (calm.layer sl).state = .free) ∧ (∀ r, (calm.recorder r).state = .idle) ∧ calm.table.redo = [] := by decide +kernel

/-- `calm` in GRID mode. -/
def gridCalm : State := { calm with transport := { calm.transport with mode := .grid } }

theorem witness_StartBaseBeginsTheBaseTake_grid :
    ready gridCalm ∧ (0 : Byte).toNat = (0 : Lane).val ∧ gridCalm.transport.state = .idle ∧ gridCalm.transport.mode = .grid ∧
      (gridCalm.lane 0).enable = true ∧ gridCalm.store.pages ≠ 0 ∧ gridCalm.store.pool = [5, 6, 9] ∧
      (∀ sl, (gridCalm.layer sl).state = .free) ∧ (∀ r, (gridCalm.recorder r).state = .idle) ∧ gridCalm.table.redo = [] ∧
      gridCalm.cues = ⟨[], []⟩ := by decide +kernel

/-- `playing` with every slot and every recorder in use, and no page free. -/
def noSlots : State :=
  { playing with table := { playing.table with layers := Vector.replicate 24 { aLayer with state := .building } } }

/-- `playing` with four takes, none of them with samples to drain. -/
def noRecorders : State :=
  { playing with takes := { recs := Vector.replicate 4 { RecorderRec.idle with state := .recording }, order := [0, 1, 2, 3] } }

theorem witness_StartsAreTestedInOrder :
    (3 : Byte).toNat = (3 : Lane).val ∧ playing.transport.moves = true ∧
      (let s := { playing with lanes := playing.lanes.set 3 { LaneRec.initial with enable := false } }
       ready s ∧ (s.lane 3).enable = false) ∧
      (let s := { calm with store := { calm.store with present := false, pages := 0, pool := [] } }
       ready s ∧ s.transport.state = .idle ∧ (s.lane 3).enable = true ∧ s.store.pages = 0) ∧
      (ready noRecorders ∧ (noRecorders.lane 3).enable = true ∧ noRecorders.store.pages ≠ 0 ∧
        ∀ r, (noRecorders.recorder r).state ≠ .idle) ∧
      (ready noSlots ∧ (noSlots.lane 3).enable = true ∧ noSlots.store.pages ≠ 0 ∧ (noSlots.recorder 0).state = .idle ∧
        ∀ sl, (noSlots.layer sl).state ≠ .free ∧ (noSlots.layer sl).state ≠ .parked) ∧
      (let s := { playing with store := { playing.store with pool := [] } }
       ready s ∧ (s.lane 3).enable = true ∧ s.store.pages ≠ 0 ∧ (s.recorder 0).state = .idle ∧ (s.layer 5).state = .free ∧
          s.store.pool = [] ∧ ∀ sl, (s.layer sl).state = .parked → (s.layer sl).extents = []) := by decide +kernel

theorem witness_StartTakeBeginsATake :
    ready taking ∧ (2 : Byte).toNat = (2 : Lane).val ∧ (3 : Byte).toNat = (3 : Group).val ∧ 1 ≤ (8 : Byte).toNat ∧
      (8 : Byte).toNat ≤ 8 ∧ taking.transport.moves = true ∧ (taking.lane 2).enable = true ∧ taking.store.pages ≠ 0 ∧
      taking.store.pool = [5, 6, 9] ∧ taking.table.redo = [] ∧ (∀ x, (taking.layer x).state ≠ .parked) ∧
      (taking.recorder 1).state = .idle ∧ (∀ x, x < (1 : Recorder) → (taking.recorder x).state ≠ .idle) ∧
      (taking.layer 3).state = .free ∧ (∀ x, x < (3 : Slot) → (taking.layer x).state ≠ .free) := by decide +kernel

/-- `playing` with the layer of slot 1 parked. -/
def undone : State :=
  { playing with
    table :=
      { playing.table with
        layers := playing.table.layers.set 1 { playing.layer 1 with state := .parked }
        stack := [0]
        redo := [1] } }

/-- A take that begins over a parked layer, with pages in the pool and with none but the parked layer's. -/
theorem witness_StartTakeBeginsATake_redo :
    (∀ s ∈ [undone, { undone with store := { undone.store with pool := [] } }],
      ready s ∧ (0 : Byte).toNat = (0 : Lane).val ∧ s.transport.moves = true ∧ (s.lane 0).enable = true ∧
        s.store.pages ≠ 0 ∧ (s.recorder 3).state = .idle ∧ s.table.redo ≠ [] ∧
        (∀ x, x ∈ s.table.redo ↔ (s.layer x).state = .parked) ∧ s.store.pool.Pairwise (· < ·) ∧
        (s.withRedoReleased.recorder 0).state = .idle ∧ (s.withRedoReleased.layer 1).state = .free ∧
        ∀ x, x < (1 : Slot) → (s.withRedoReleased.layer x).state ≠ .free) ∧
      undone.withRedoReleased.store.pool = 5 :: [6, 9, 12, 13] ∧
      ({ undone with store := { undone.store with pool := [] } } : State).withRedoReleased.store.pool = 12 :: [13] := by
  decide +kernel

/-- `defining` in GRID mode at the end of its eighth cycle of 4,800. -/
def gridDefining : State :=
  { defining with
    transport := { defining.transport with mode := .grid, length := some 4800, cyclesRecorded := 7, p := 4800 }
    table := { defining.table with layers := defining.table.layers.set 0 { defining.layer 0 with multiple := 8, len := 38400 } } }

theorem witness_CloseBaseWaitsOrIsTooShort :
    (let s := { defining with transport := { defining.transport with p := 4799 } }
     ready s ∧ s.transport.state = .defining ∧ s.transport.mode = .free ∧ s.transport.p < 4800) ∧
      (let s := { gridDefining with transport := { gridDefining.transport with p := 1 } }
       ready s ∧ s.transport.state = .defining ∧ s.transport.mode = .grid) := by decide +kernel

/-- `s` with these cues and nothing in the FIFO of the base take. -/
def drainedWith (s : State) (cycle beat : List CueEntry) : State :=
  { s with
    cues := ⟨cycle, beat⟩
    takes := { s.takes with recs := s.takes.recs.set 0 { s.recorder 0 with fifo := [] } } }

/-- The closures with nothing that fires, by the eighth cycle and by close pending, with samples to drain and with none. -/
theorem witness_BaseTakeCloses :
    (∀ s ∈ [defining, gridDefining, drainedWith defining [] [], drainedWith gridDefining [muteAt 2] []],
      s.transport.state = .defining ∧ (s.recorder 0).base = true ∧ (s.recorder 0).tail = false ∧
        (∀ x, x < (0 : Recorder) → ¬((s.recorder x).base = true ∧ (s.recorder x).tail = false)) ∧
        (s.recorder 0).slot = some 0) ∧
      (∀ s ∈ [defining, drainedWith defining [] []],
        ready s ∧ s.transport.mode = .free ∧ 4800 ≤ s.transport.p ∧ s.cues = ⟨[], []⟩) ∧
      (let s := { defining with transport := { defining.transport with p := 2304000 } }
       isRunning s = true ∧ s.transport.mode = .free ∧ s.transport.p = 2304000) ∧
      (∀ s ∈ [gridDefining, drainedWith gridDefining [muteAt 2] [],
          { gridDefining with transport := { gridDefining.transport with closePending := true, cyclesRecorded := 0 } }],
        isRunning s = true ∧ s.transport.mode = .grid ∧ s.transport.length = some 4800 ∧
        s.transport.p = 4800 ∧ (∀ x, takeFullDue s x = false) ∧
        (s.transport.closePending = true ∨ s.transport.cyclesRecorded = 7) ∧
        s.cues.cycle.filter (isDue ((s.transport.c + 1) % 65536)) ++ s.cues.beat = []) := by decide +kernel

/-- `defining` closed with a MUTE and an UNDO that fire, its recorder in the tail drain. -/
def closing : State :=
  let s := { defining with cues := ⟨[muteAt 40000], [⟨2, .undo, none, 0, 0, 0⟩]⟩ }
  (s.queued [.cue .ok 9 255 0 0]).withBaseTakeClosed 0 0 1 4800 0

/-- The closures at which cues fire, the base recorder then in its tail drain or IDLE. -/
theorem witness_BaseTakeCloses_cues :
    ready { defining with cues := ⟨[muteAt 40000], [⟨2, .undo, none, 0, 0, 0⟩]⟩ } ∧ (closing.recorder 0).tail = true ∧
      closing.firesAny (fun _ => true) ∧ closing.walkRuns fun _ => true := by
  unfold State.firesAny State.walkRuns State.undoSpares; exact ⟨by decide +kernel, by decide +kernel, by decide +kernel, by decide +kernel⟩

theorem witness_BaseTakeCloses_cues_grid :
    let c := (drainedWith gridDefining [muteAt 1, muteAt 2] [⟨2, .mute, none, 0, 0, 0⟩]).withBaseTakeClosed 0 0 8 4800 1
    (gridDefining.transport.c + 1) % 65536 = 1 ∧ c.firesAny (isDue 1) ∧ c.walkRuns (isDue 1) := by
  unfold State.firesAny State.walkRuns State.undoSpares; exact ⟨by decide +kernel, by decide +kernel, by decide +kernel⟩

/-- The closures of both modes at which a HALT fires behind other entries, in the cycle queue and in the beat queue. -/
theorem witness_BaseTakeCloses_halt :
    let e : CueEntry := ⟨2, .halt, none, 0, 0, 0⟩
    (let s := drainedWith defining [muteAt 7, ⟨3, .undo, none, 0, 0, 0⟩, e, muteAt 1] [muteAt 5]
     let c := (s.queued [.cue .ok 9 255 0 0]).withBaseTakeClosed 0 0 1 4800 0
     (ready s ∧ s.transport.mode = .free ∧ 4800 ≤ s.transport.p ∧
        ∀ q, (s.recorder q).state = .recording → (s.recorder q).base = false → (s.recorder q).tail = false) ∧
      c.undoSpares ∧ c.firesBehind (fun _ => true) [muteAt 7, ⟨3, .undo, none, 0, 0, 0⟩] e ⟨[muteAt 1], [muteAt 5]⟩) ∧
      (let s := drainedWith gridDefining [muteAt 2, muteAt 1] [muteAt 5, e]
       (isRunning s = true ∧ s.transport.p = 4800 ∧ (s.transport.c + 1) % 65536 = 1 ∧ e.kind = .halt ∧
        ∀ y ∈ [muteAt 1, muteAt 5], y.kind ≠ .halt ∧ y.kind ≠ .undo) ∧
        (s.withBaseTakeClosed 0 0 8 4800 1).firesBehind (isDue 1) [muteAt 1, muteAt 5] e ⟨[muteAt 2], []⟩) := by
  unfold State.undoSpares
  exact ⟨⟨by decide +kernel, by decide +kernel, .inl ⟨[muteAt 7, _], [muteAt 1], rfl, rfl, rfl, rfl⟩⟩,
    by decide +kernel, .inr ⟨[muteAt 5], [], rfl, by decide +kernel, by decide +kernel⟩⟩

/-- `taking` with every sample of the take in memory. -/
def takingDrained : State := { taking with takes := { taking.takes with recs := taking.takes.recs.set 0 { aTake with fifo := [] } } }

/-- `taking` with no sample recorded yet. -/
def takingNothing : State :=
  { takingDrained with table := { taking.table with layers := taking.table.layers.set 2 { aPart with len := 0 } } }

/-- `takingDrained` with an open gap of this length, or with its last burst in flight. -/
def takingGap (gap : Nat) (inFlight : Bool) : State :=
  { takingDrained with
    takes :=
      { taking.takes with recs := taking.takes.recs.set 0 { aTake with fifo := [], gap := gap, inFlight := inFlight } } }

/-- The takes that end: with samples to drain, with none, with none recorded, with an open gap and with a burst in flight. -/
theorem witness_TakesEndWhenStoppedOrFull :
    (∀ s ∈ [taking, takingDrained, takingNothing, takingGap 7 false, takingGap 0 true],
      ready s ∧ s.transport.state ≠ .idle ∧ (s.recorder 0).state = .recording ∧ (s.recorder 0).base = false ∧
        (s.recorder 0).tail = false ∧ (s.recorder 0).slot ≠ none ∧ s.takes.order = [] ++ 0 :: []) ∧
      (0 : Byte).toNat = (0 : Recorder).val ∧ (255 : Byte).toNat = 255 ∧ (takingNothing.layer 2).len = 0 ∧
      (∀ s ∈ [taking, takingDrained, takingGap 7 false, takingGap 0 true],
        let t := { s with table := { s.table with layers := s.table.layers.set 2 { aPart with len := 4800 } } }
        isRunning t = true ∧ (t.recorder 0).slot = some 2 ∧ 0 < (t.layer 2).len ∧
          (t.layer 2).len = (t.layer 2).multiple * t.transport.length.getD 0) := by decide +kernel

theorem witness_TakesEndWhenStoppedOrFull_nothing :
    (ready playing ∧ playing.transport.state ≠ .idle ∧ (3 : Byte).toNat = (3 : Recorder).val ∧
      ¬((playing.recorder 3).state = .recording ∧ (playing.recorder 3).base = false)) ∧
      (∀ s ∈ [playing, defining], ready s ∧ s.transport.state ≠ .idle ∧
        ∀ r ∈ s.takes.order, ¬((s.recorder r).state = .recording ∧ (s.recorder r).base = false)) := by decide +kernel

theorem witness_MuteRowsWriteOneFlag :
    ready playing ∧ playing.transport.state ≠ .idle ∧ (23 : Byte).toNat = (23 : Slot).val ∧ (3 : Byte).toNat = (3 : Group).val ∧
      (playing.layer 0).state = .active ∧ (playing.layer 23).state = .free := by decide +kernel

/-- `playing` with the top of the stack held. -/
def heldTop : State := { playing with table := { playing.table with layers := playing.table.layers.set 1 { aLayer with held := true } } }

theorem witness_UndoParksAndRedoRestores :
    (∀ s ∈ [playing, heldTop, { playing with table := { playing.table with stack := [] } }],
      ready s ∧ s.transport.state ≠ .idle ∧ ∀ x, (s.layer x).state ≠ .recording ∧ (s.layer x).state ≠ .closing) ∧
      (playing.table.stack = [0] ++ [1] ∧ 1 ∉ [(0 : Slot)] ∧ (playing.layer 1).held = false) ∧ (heldTop.layer 1).held = true := by
  decide +kernel

theorem witness_UndoAbortsTheNewestTake :
    (ready taking ∧ taking.transport.state ≠ .idle ∧ taking.takes.order = [] ++ 0 :: [] ∧ (taking.recorder 0).slot = some 2 ∧
      (taking.layer 2).state = .recording ∧ (taking.recorder 0).base = false) ∧
      (ready defining ∧ defining.transport.state ≠ .idle ∧ defining.takes.order = [] ++ 0 :: [] ∧
        (defining.recorder 0).slot = some 0 ∧ (defining.layer 0).state = .recording ∧ (defining.recorder 0).base = true) := by
  decide +kernel

/-- The premises that stand in `baseTakeAborted`, with a second take in progress and cues waiting. -/
theorem witness_UndoAbortsTheNewestTake_base :
    let s : State :=
      { gridDefining with
        transport := { gridDefining.transport with p := 7 }
        cues := ⟨[muteAt 5], [muteAt 6]⟩
        takes := { recs := gridDefining.takes.recs.set 2 { aTake with lane := some 2 }, order := [2, 0] }
        table := { gridDefining.table with layers := gridDefining.table.layers.set 2 aPart } }
    ready s ∧ s.transport.state ≠ .idle ∧ s.takes.order = [2] ++ 0 :: [] ∧ (s.recorder 0).slot = some 0 ∧
      (s.layer 0).state = .recording ∧ (s.recorder 0).base = true ∧
      ((0 :: s.takes.order.filter (· != 0)).map fun q => (s.recorder q).slot).Nodup := by decide +kernel

theorem witness_UndoParksAndRedoRestores_redo :
    (ready playing ∧ playing.transport.state ≠ .idle ∧ playing.table.redo = []) ∧
      (ready undone ∧ undone.transport.state ≠ .idle ∧ undone.table.redo = 1 :: []) := by decide +kernel

theorem witness_HaltStopsThePlayhead :
    (let s := { playing with transport := { playing.transport with state := .priming, p := 0 }, cues := full.cues }
     ready s ∧ s.transport.state = .priming) ∧
      ready playing ∧ playing.transport.state = .running ∧ playing.job.running = false ∧
      playing.takes.order.filter (fun q => (playing.recorder q).state == .recording && (playing.recorder q).base == false) = [] := by
  decide +kernel

/-- A HALT that finds two takes, one of them with no sample, two cues and a job. -/
theorem witness_HaltStopsThePlayhead_blocks :
    let s : State :=
      { bouncing with
        cues := ⟨[muteAt 5], [muteAt 6]⟩
        takes :=
          { recs := (taking.takes.recs.set 0 aTake).set 1 { aTake with lane := some 2, slot := some 4, fifo := [] }
            order := [0, 1] }
        table :=
          { bouncing.table with
            layers :=
              (bouncing.table.layers.set 2 aPart).set 4 { aPart with origin := some (.lane 2), len := 0, extents := [⟨15, 1⟩] } } }
    ready s ∧ s.transport.state = .running ∧ s.job.running = true ∧ s.cues.cycle ++ s.cues.beat ≠ [] ∧
      s.takes.order.filter (fun q => (s.recorder q).state == .recording && (s.recorder q).base == false) = [0, 1] ∧
      (∀ q ∈ [(0 : Recorder), 1], (s.recorder q).tail = false) ∧ (s.layer 4).len = 0 := by decide +kernel

theorem witness_HaltAbortsTheBounce :
    ready bouncing ∧ bouncing.transport.state = .running ∧ (∀ r, (bouncing.recorder r).state ≠ .recording) ∧
      bouncing.cues = ⟨[], []⟩ ∧ bouncing.job.running = true ∧ bouncing.job.result = some 3 ∧
      (bouncing.layer 3).state = .building ∧ 3 ∉ bouncing.job.sources.map Source.slot ∧
      (∀ r, (bouncing.recorder r).slot ≠ some 3) := by decide +kernel

/-- `halted` with the two layers placed from index `start` on with `len` samples. -/
def haltedWith (start len : Nat) : State :=
  { halted with
    table :=
      { halted.table with
        layers :=
          (halted.table.layers.set 0 { halted.layer 0 with start := start, len := len }).set 1
            { halted.layer 1 with k := some 0, start := start, len := len } } }

theorem witness_PlayPrimesEveryActiveLayer :
    (ready halted ∧ halted.transport.state = .halted ∧ (halted.layer 0).state = .active) ∧
      (let s := { halted with table := calm.table }
       ready s ∧ s.transport.state = .halted ∧ ∀ sl, (s.layer sl).state ≠ .active) := by decide +kernel

/-- A first refill that must be read for each ACTIVE layer, and 256 SILENT entries for each of them, the last at the edge of the span. -/
theorem witness_PlayPrimesEveryActiveLayer_refills :
    (let s := haltedWith 127 1
     let u := { s with transport := { s.transport with state := .priming, p := 0, beatDue := false } }
     ready s ∧ s.transport.state = .halted ∧ (∃ sl, (s.layer sl).state = .active) ∧
      ∀ sl, (s.layer sl).state = .active → ∃ e ∈ u.refillFrom sl (u.presentIndex sl),
        e.value ≠ none ∧ fromFifo s sl e.offset = false) ∧
      (let s := haltedWith 256 100
       ready s ∧ s.transport.state = .halted ∧
        ∀ sl, (s.layer sl).state = .active →
          (s.layer sl).k = some 0 ∧ 256 ≤ (s.layer sl).multiple * s.transport.length.getD 0 ∧
          ∀ i, i < 256 →
            let m := (s.layer sl).multiple * s.transport.length.getD 0
            (s.layer sl).len ≤ (i + m - (s.layer sl).start % m) % m) := by decide +kernel

/-- A targeted HALT for the cycle queue, and a START_TAKE for the beat queue, in each of the three cases. -/
theorem witness_CueQueuesFillAndFlush :
    cueForm (Cue.read ⟨9, 2, 1, true, 0, 0, 0, 65535⟩) = some (.halt, .wait .cycle) ∧
      cueForm (Cue.read ⟨3, 1, 1, false, 3, 8, 3, 0⟩) = some (.startTake, .wait .beat) ∧
      (ready calm ∧ calm.transport.state = .idle) ∧ (ready playing ∧ playing.cues.beat.length < 8) ∧
      (let s := { playing with cues := full.cues }
       ready s ∧ s.transport.state ≠ .idle ∧ 8 ≤ s.cues.beat.length ∧ 8 ≤ s.cues.cycle.length) := by decide +kernel

theorem witness_CueQueuesFillAndFlush_flush : ready { playing with cues := full.cues } := by decide +kernel

/-- The eight slot bytes 0, 1, 0, 0, 0, 0, 0, 0. -/
def named01 : Vector Byte 8 := #v[0, 1, 0, 0, 0, 0, 0, 0]

theorem witness_BouncesAreTestedInOrder :
    ((1 : Byte).toNat < 2 ∧ 8 < (9 : Byte).toNat ∧ 23 < (24 : Byte).toNat ∧ ¬(named01.toList.take 3).Nodup) ∧
      (2 ≤ (2 : Byte).toNat ∧ (2 : Byte).toNat ≤ 8 ∧
        (named01.toList.take (2 : Byte).toNat).map BitVec.toNat = [(0 : Slot), 1].map Fin.val ∧ [(0 : Slot), 1].Nodup) ∧
      (ready defining ∧ defining.transport.state ≠ .running ∧ defining.transport.state ≠ .halted) ∧
      (let s := { playing with job := { Job.idle with running := true } }
       ready s ∧ s.job.running = true) ∧
      (ready undone ∧ undone.job.running = false ∧ [(0 : Slot), 1] = [0] ++ 1 :: [] ∧ (undone.layer 1).state ≠ .active ∧
        ∀ y ∈ [(0 : Slot)], (undone.layer y).state = .active) := by decide +kernel

/-- The tests of the multiples and of the result's slot. -/
theorem witness_BouncesAreTestedInOrder_sources :
    (let s := { playing with
          table := { playing.table with layers := (playing.table.layers.set 0 { aLayer with multiple := 3 }) } }
     ready s ∧ (∀ x ∈ [(0 : Slot), 1], (s.layer x).state = .active ∧ (s.layer x).multiple ≤ 3) ∧ (s.layer 0).multiple = 3 ∧
          3 % (s.layer 0).multiple = 0 ∧ 3 % (s.layer 1).multiple ≠ 0) ∧
      (let s := { noSlots with
          table := { noSlots.table with layers := (noSlots.table.layers.set 0 aLayer).set 1 { aLayer with multiple := 2 } } }
       ready s ∧ (∀ x ∈ [(0 : Slot), 1], (s.layer x).state = .active ∧ 2 % (s.layer x).multiple = 0) ∧
          ∀ x, (s.layer x).state ≠ .free ∧ (s.layer x).state ≠ .parked) := by decide +kernel

/-- The tests of the result's pages. -/
theorem witness_BouncesAreTestedInOrder_pages :
    (let s := { playing with store := { playing.store with pool := [5, 6] } }
     ready s ∧ (s.layer 2).state = .free ∧ (countedPool s).length < (2 * s.transport.length.getD 0 + 4095) / 4096) ∧
      (let s :=
        { playing with
          transport := { playing.transport with length := some 40000 }
          store := { playing.store with pool := (List.range 20).map (2 * · + 100) } }
       ready s ∧ (s.layer 2).state = .free ∧ (2 * s.transport.length.getD 0 + 4095) / 4096 ≤ (countedPool s).length ∧
          16 < (runsOf ((countedPool s).take ((2 * s.transport.length.getD 0 + 4095) / 4096))).length) := by decide +kernel

/-- `playing` with a parked layer of one page in slot 2, and two pages in the pool. -/
def parkedBelow : State :=
  { playing with
    table :=
      { playing.table with
        layers := playing.table.layers.set 2 { aLayer with state := .parked, len := 4000, extents := [⟨7, 1⟩] }
        redo := [2] }
    store := { playing.store with pool := [5, 6] } }

/-- A bounce with the redo list empty, and with a parked layer whose slot and page the result takes. -/
theorem witness_BounceReservesAndLatches :
    (∀ s ∈ [playing, parkedBelow],
      ready s ∧ (∀ x ∈ [(0 : Slot), 1], (s.layer x).multiple ≤ 2) ∧ (s.layer 1).multiple = 2 ∧ (s.layer 0).multiple ≠ 2 ∧
        s.transport.length = some 4800 ∧ s.transport.state = .running ∧ s.job.running = false ∧
        (∀ x ∈ [(0 : Slot), 1], (s.layer x).state = .active ∧ 2 % (s.layer x).multiple = 0) ∧
        (∀ x, x ∈ s.table.redo ↔ (s.layer x).state = .parked) ∧ s.store.pool.Pairwise (· < ·) ∧
        (s.withRedoReleased.layer 2).state = .free ∧ (∀ x, x < (2 : Slot) → (s.withRedoReleased.layer x).state ≠ .free) ∧
        s.table.stack = [0] ++ 1 :: [] ∧ (2 * 4800 + 4095) / 4096 ≤ s.withRedoReleased.store.pool.length ∧
        (runsOf (s.withRedoReleased.store.pool.take ((2 * 4800 + 4095) / 4096))).length ≤ 16) ∧
      2 ≤ (2 : Byte).toNat ∧ (2 : Byte).toNat ≤ 8 ∧
      (named01.toList.take (2 : Byte).toNat).map BitVec.toNat = [(0 : Slot), 1].map Fin.val ∧ [(0 : Slot), 1].Nodup ∧
      [(0 : Slot), 1][1]? = some 1 := by decide +kernel

theorem witness_QueriesShowTheState :
    ready taking ∧ (23 : Byte).toNat = (23 : Slot).val ∧ 23 < (24 : Byte).toNat ∧ (3 : Byte).toNat = (3 : Lane).val ∧
      3 < (4 : Byte).toNat := by decide +kernel

theorem witness_ClearAndSystemRequestsAreAnswered : ready taking ∧ ready bouncing := by decide +kernel

theorem witness_ClearAndSystemRequestsAreAnswered_system :
    (ready halted ∧ (halted.transport.state = .idle ∨ halted.transport.state = .halted) ∧
      (∀ r, (halted.recorder r).state = .idle) ∧ halted.job.running = false) ∧
      (ready playing ∧ ¬((playing.transport.state = .idle ∨ playing.transport.state = .halted) ∧
        (∀ r, (playing.recorder r).state = .idle) ∧ playing.job.running = false)) ∧
      ((0 : Byte) = 0 ∧ 12 < (13 : Byte).toNat) := by decide +kernel

/-- `calm` in RECEIVING with these bytes, in the run state `run`. -/
def receiving (run : RunState) (held : List Byte) : State :=
  { calm with rest := { calm.rest with run := run }, link := { calm.link with parser := .receiving held } }

theorem witness_ParserTakesEachByte :
    (∀ s ∈ [calm, receiving .awake [0xC3], receiving .awake [0xC3, 5], receiving .draining [0xC3, 0, 1], receiving .starting [0xC3, 96]],
      quiet s ∧ s.rest.nrst = true) ∧
      calm.link.parser = .hunting ∧ (receiving .awake [0xC3]).link.parser = .receiving [0xC3] ∧
      (let s := { calm with link := { calm.link with parser := .receiving (List.replicate 80 0xC3), rdy := false } }
       quiet s ∧ s.link.parser = .receiving (List.replicate 80 0xC3)) ∧
      (let s := { (receiving .draining [0xC3]) with
          link := { (receiving .draining [0xC3]).link with frames := [⟨1, List.replicate 96 0⟩, ⟨1, List.replicate 96 0⟩, ⟨1, List.replicate 51 0⟩] } }
       quiet s ∧ 256 ≤ receivedBytes s.link) := by decide +kernel

/-- `playing` with 32 frames to send, HOLD high, and this frame at the front of the frames that wait, a HELLO behind it. -/
def waitingFull (f : Frame) : State :=
  { playing with
    link := { playing.link with outQ := List.replicate 32 (.accepted 10), hold := true, frames := [f, ⟨1, []⟩] } }

/-- `playing` with this frame at the front of the frames that wait, a HELLO behind it. -/
def waiting (f : Frame) : State := { playing with link := { playing.link with frames := [f, ⟨1, []⟩] } }

/-- A frame that a row spells, one of another length, one of a mode or a form that no row spells and one of a quantisation that none
spells, each at the front, and the two ways in which none is taken. -/
theorem witness_DispatchTakesWaitingFrames :
    (∀ f ∈ [(⟨8, [1, 7]⟩ : Frame), ⟨1, []⟩, ⟨9, [4, 0]⟩, ⟨2, [0]⟩, ⟨8, [2, 0]⟩, ⟨9, [5, 0]⟩, ⟨5, [7, 3, 1, 0, 0, 0, 0, 0, 0]⟩,
        ⟨5, [7, 0, 1, 1, 0, 0, 0, 0, 0]⟩],
      let s := waiting f
      urgent s = s ∧ s.link.frames = f :: [⟨1, []⟩] ∧ s.rest.nrst = true ∧ s.rest.run = .awake ∧ s.link.outQ.length < 32 ∧
        s.rest.restartPending = false) ∧
      (Frame.spells ⟨8, [1, 7]⟩ (.flushTag 7) ∧ Frame.spells ⟨1, []⟩ .hello ∧ Frame.spells ⟨9, [4, 0]⟩ .queryBusy) ∧
      (1 ≤ (2 : Byte).toNat ∧ (2 : Byte).toNat ≤ 12 ∧ ([0] : List Byte).length ≠ 17) ∧ 1 < (2 : Byte).toNat ∧ 4 < (5 : Byte).toNat ∧
      (2 < (3 : Byte).toNat ∧ (1 : Byte).getLsbD 0 = true) ∧
      (urgent (waitingFull ⟨1, []⟩) = waitingFull ⟨1, []⟩ ∧ ¬(waitingFull ⟨1, []⟩).link.outQ.length < 32 ∧
        isRunning (waitingFull ⟨1, []⟩) = true) ∧
      (let s := { (waiting ⟨1, []⟩) with rest := { playing.rest with restartPending := true } }
       urgent s = s ∧ isRunning s = true ∧ s.rest.restartPending ≠ false) := by
  refine ⟨by decide +kernel, ⟨rfl, rfl, 0, rfl⟩, by decide +kernel, by decide +kernel, by decide +kernel, by decide +kernel,
    by decide +kernel, by decide +kernel⟩

theorem witness_PayloadsAreLaidOutAsR176Gives :
    (⟨1, 2, .running, [.low, .clip, .silent, .nominal], 5, true, 3, 4, 5⟩ : BoundaryView).bands = [.low, .clip, .silent, .nominal] :=
  rfl

/-- `calm` with a frame to send, HOLD high. -/
def holding : State := { calm with link := { calm.link with outQ := [.accepted 10], hold := true } }

theorem witness_LineRowsAreAsR166AndR171Give :
    (quiet calm ∧ isRunning calm = true ∧ calm.link.parser = .hunting ∧ calm.link.outQ = []) ∧
      (quiet (receiving .awake [0xC3]) ∧ isRunning (receiving .awake [0xC3]) = true) ∧
      (quiet holding ∧ isRunning holding = true ∧ holding.link.outQ = .accepted 10 :: [] ∧ holding.link.tx = .idle) ∧
      (let s := { holding with link := { holding.link with hold := false } }
       isRunning s = true ∧ s.link.outQ = .accepted 10 :: [] ∧ s.link.tx = .idle ∧ s.link.hold = false) := by decide +kernel

/-- `s` sending the reply `m`, its last frame. -/
def sending (s : State) (m : Message) : State := { s with link := { s.link with outQ := [m], tx := .sending m.bytes } }

/-- `calm` in DRAINING. -/
def draining : State := { calm with rest := { calm.rest with run := .draining } }

theorem witness_FrameSentLeavesTheQueue :
    (∀ s ∈ [sending calm (.accepted 0x0A), sending (after .restart calm) (.accepted 0x0B), sending draining (.accepted 0x0C),
        sending { draining with rest := { draining.rest with linkActivity := true } } (.accepted 0x0C),
        sending { playing with rest := draining.rest } (.accepted 0x0C)],
      quiet s ∧ isRunning s = true ∧ s.link.tx ≠ .idle ∧ s.link.outQ.length = 1) ∧
      (sending (after .restart calm) (.accepted 0x0B)).rest.restartPending = true ∧
      (sending draining (.accepted 0x0C)).rest.run = .draining ∧ receivedBytes (sending draining (.accepted 0x0C)).link = 0 := by
  decide +kernel

theorem witness_SamplePeriodFormsTheMix :
    quiet playing ∧ isRunning playing = true ∧ playing.store.windowPos < 128 ∧ (∀ r, (playing.recorder r).state ≠ .recording) := by
  decide +kernel

/-- `taking` with a FIFO of these entries and a layer of this length with these extents. -/
def recordingAt (fifo : List FifoEntry) (len : Nat) (extents : List Extent) (pool : List Nat) : State :=
  { taking with
    transport := { taking.transport with length := some 9600 }
    takes := { taking.takes with recs := taking.takes.recs.set 0 { aTake with fifo := fifo, gap := 3, inFlight := true } }
    table := { taking.table with layers := taking.table.layers.set 2 { aPart with len := len, extents := extents } }
    store := { taking.store with pool := pool, transfer := some ⟨.drain 0 128, 2⟩ } }

/-- `recordingAt` with another gap, and no burst in flight. -/
def recordingGap (gap : Nat) (fifo : List FifoEntry) (len : Nat) (extents : List Extent) (pool : List Nat) : State :=
  let s := recordingAt fifo len extents pool
  { s with
    takes := { s.takes with recs := s.takes.recs.set 0 { aTake with fifo := fifo, gap := gap } }
    store := { s.store with transfer := none, credit := 0 } }

/-- A gap that is full, and the failed acquisitions: by an empty pool and by a 17th extent, with samples to drain and with none. -/
theorem witness_SamplePeriodRecordsATake_failures :
    (∀ s ∈ [recordingGap 65535 (List.replicate 512 (.sample 1)) 4097 [⟨14, 2⟩] [15], recordingGap 0 [] 4096 [⟨14, 1⟩] [],
        recordingGap 0 [.sample 1] 4096 (List.replicate 16 ⟨14, 1⟩) [16]],
      quiet s ∧ isRunning s = true ∧ s.store.windowPos < 128 ∧ (s.recorder 0).state = .recording ∧ (s.recorder 0).lane = some 1 ∧
        (s.recorder 0).slot = some 2 ∧ (∀ q, q ≠ (0 : Recorder) → (s.recorder q).state ≠ .recording) ∧
        (s.layer 2).state = .recording ∧ (s.recorder 0).base = false ∧ (s.recorder 0).tail = false) ∧
      (let s := recordingGap 0 [] 4096 [⟨14, 1⟩] []
       s.pageFails (s.layer 2) .memoryFull ∧ (s.recorder 0).filled = [] ∧ (s.recorder 0).inFlight = false) ∧
      (let s := recordingGap 0 [.sample 1] 4096 (List.replicate 16 ⟨14, 1⟩) [16]
       s.pageFails (s.layer 2) .extentsFull ∧ (s.recorder 0).filled ≠ []) := by
  refine ⟨by decide +kernel, ⟨.inl ⟨rfl, rfl⟩, by decide +kernel⟩, ⟨.inr ⟨16, [], List.replicate 15 ⟨14, 1⟩, ⟨14, 1⟩, ?_⟩, by decide +kernel⟩⟩
  decide +kernel

theorem witness_SamplePeriodRecordsATake :
    (∀ s ∈ [recordingAt (List.replicate 511 (.sample 1)) 4095 [⟨14, 1⟩] [15], recordingAt (List.replicate 512 (.sample 1)) 4097 [⟨14, 2⟩] [15],
        recordingAt [.sample 1] 4096 [⟨14, 1⟩] [15], recordingAt [.sample 1] 4096 [⟨14, 1⟩] [16], recordingAt [.sample 1] 4096 [⟨14, 1⟩] []],
      quiet s ∧ isRunning s = true ∧ s.store.windowPos < 128 ∧ (s.recorder 0).state = .recording ∧ (s.recorder 0).lane = some 1 ∧
        (s.recorder 0).slot = some 2 ∧ (∀ q, q ≠ (0 : Recorder) → (s.recorder q).state ≠ .recording) ∧
        (s.layer 2).state = .recording) ∧
      (0 < 4096 ∧ 4096 % 4096 = 0 ∧ ¬(0 < 4095 ∧ 4095 % 4096 = 0) ∧ ¬(0 < 4097 ∧ 4097 % 4096 = 0)) ∧
      storedCount (List.replicate 511 (.sample 1)) < 512 ∧ 512 ≤ storedCount (List.replicate 512 (.sample 1)) := by decide +kernel

/-- `taking` with a second take, of lane 2 in recorder 1 and slot 3, both layers of this length with pages from 14 and from 20 on. -/
def takingTwo (len : Nat) (pool : List Nat) : State :=
  { taking with
    transport := { taking.transport with length := some 9600 }
    takes := { recs := (taking.takes.recs.set 0 aTake).set 1 { aTake with lane := some 2, slot := some 3 }, order := [0, 1] }
    table :=
      { taking.table with
        layers := (taking.table.layers.set 2 { aPart with len := len }).set 3 { aPart with len := len, extents := [⟨20, 1⟩] } }
    store := { taking.store with pool := pool } }

/-- `taking` with drains of the takes in recorders 0 and 1 pending. -/
def draining2 (m n : Nat) : State :=
  { taking with
    takes :=
      { recs := (taking.takes.recs.set 0 { aTake with fifo := List.replicate m (.sample 1) }).set 1
          { aTake with slot := some 3, fifo := List.replicate n (.sample 1) }
        order := [0, 1] } }

/-- Takes that record beside each other, one or both of them without a page, and a FREE base take. -/
theorem witness_SamplePeriodFormsTheMix_recording :
    (∀ s ∈ [takingTwo 4095 [15], takingTwo 4096 [15], takingTwo 4096 [], defining],
      quiet s ∧ isRunning s = true ∧ s.store.windowPos < 128 ∧ s.transport.state ≠ .priming ∧
        (s.recorder 0).state = .recording) ∧
      (∀ r sl, (defining.recorder r).state = .recording → (defining.recorder r).slot = some sl →
        (defining.layer sl).len % 4096 ≠ 0) ∧
      (takingTwo 4096 []).transport.state = .running := by decide +kernel

/-- A window that is over, its credit spent, with a drain waiting for the next one. -/
theorem witness_SamplePeriodFormsTheMix_window :
    let s := draining2 128 1
    let t := { s with store := { s.store with windowPos := 128, credit := 0 } }
    quiet t ∧ isRunning t = true ∧ t.store.windowPos = 128 ∧
      (after .portGrant (after .portWindowStart t)).store.transfer = some ⟨.drain 0 128, 3⟩ := by decide +kernel

theorem witness_TakesShareASamplePeriod :
    (∀ s ∈ [takingTwo 4095 [15], takingTwo 4096 [15, 21], takingTwo 4096 [15]],
      quiet s ∧ isRunning s = true ∧ s.store.windowPos < 128 ∧
        (∀ y, (s.recorder y).state = .recording ↔ y = 0 ∨ y = 1) ∧
        ((s.recorder 0).slot = some 2 ∧ (s.recorder 1).slot = some 3 ∧ (s.recorder 0).lane = some 1 ∧ (s.recorder 1).lane = some 2) ∧
        (s.recorder 0).base = false ∧ (s.recorder 1).base = false ∧
        (s.layer 2).state = .recording ∧ (s.layer 3).state = .recording ∧
        (s.layer 2).extents.length < 16 ∧ (s.layer 3).extents.length < 16 ∧
        (s.recorder 0).filled ≠ [] ∧ (s.recorder 1).filled ≠ []) ∧
      (¬(0 < 4095 ∧ 4095 % 4096 = 0) ∧ 0 < 4096 ∧ 4096 % 4096 = 0) ∧
      (takingTwo 4096 [15, 21]).store.pool = 15 :: 21 :: [] ∧ (takingTwo 4096 [15]).store.pool = 15 :: [] := by decide +kernel

/-- A base take of 4,096 or 8,192 samples that finds no page, in this mode. -/
def runningOut (mode : DefineMode) (len : Nat) : State :=
  { defining with
    transport := { defining.transport with mode := mode, p := len, length := if mode = .grid then some 9600 else none }
    table :=
      { defining.table with
        layers := defining.table.layers.set 0
          { aLayer with state := .recording, multiple := if mode = .grid then 8 else 1, len := len, extents := [⟨10, 2⟩] } }
    store := { defining.store with pool := [] } }

theorem witness_BaseTakesRunOut :
    (∀ s ∈ [runningOut .grid 8192, runningOut .free 8192, runningOut .free 4096],
      quiet s ∧ isRunning s = true ∧ s.store.windowPos < 128 ∧ s.transport.state = .defining ∧
        (s.recorder 0).state = .recording ∧ (s.recorder 0).base = true ∧ (s.recorder 0).tail = false ∧
        (s.recorder 0).lane = some 0 ∧ (s.recorder 0).slot = some 0 ∧
        (∀ q, q ≠ (0 : Recorder) → (s.recorder q).state ≠ .recording ∧ (s.recorder q).base = false) ∧
        0 < (s.layer 0).len ∧ (s.layer 0).len % 4096 = 0 ∧ s.store.pool = [] ∧ (s.layer 0).state = .recording ∧
        s.cues = ⟨[], []⟩) ∧
      (runningOut .grid 8192).transport.mode = .grid ∧
      ((runningOut .free 8192).transport.mode = .free ∧ 4800 ≤ (runningOut .free 8192).transport.p) ∧
      ((runningOut .free 4096).transport.mode = .free ∧ (runningOut .free 4096).transport.p < 4800) := by decide +kernel

/-- An empty pool is a failure by MEMORY_FULL. -/
theorem witness_BaseTakesRunOut_failure :
    (runningOut .free 4096).pageFails ((runningOut .free 4096).layer 0) .memoryFull := .inl ⟨rfl, rfl⟩

/-- `playing` at the end of its cycle, with these cues in the cycle queue. -/
def atTheEnd (cycle : List CueEntry) : State :=
  { playing with transport := { playing.transport with p := 4800, c := 65535 }, cues := ⟨cycle, []⟩ }

theorem witness_CycleStartsAdvanceTheSong :
    (∀ s ∈ [atTheEnd [⟨1, .undo, some 1, 0, 0, 0⟩], atTheEnd [⟨1, .undo, some 1, 0, 0, 0⟩, ⟨2, .mute, some 0, 1, 3, 0⟩]],
      isRunning s = true ∧ s.transport.length = some 4800 ∧ s.transport.p = 4800 ∧ (∀ r, takeFullDue s r = false) ∧
        s.transport.state = .running ∧ (s.transport.c + 1) % 65536 = 0 ∧ s.cues.beat = []) ∧
      (let s := { gridDefining with transport := { gridDefining.transport with cyclesRecorded := 6 } }
       isRunning s = true ∧ s.transport.length = some 4800 ∧ s.transport.p = 4800 ∧ (∀ r, takeFullDue s r = false) ∧
        s.transport.state = .defining ∧ s.transport.mode = .grid ∧ s.transport.closePending = false ∧
        s.transport.cyclesRecorded ≠ 7) ∧
      (isDue 0 ⟨1, .undo, some 1, 0, 0, 0⟩ = false ∧ isDue 0 ⟨2, .mute, some 0, 1, 3, 0⟩ = true ∧ (3 : Byte).toNat = (3 : Group).val) := by
  decide +kernel

/-- A cycle start at which a MUTE and an UNDO fire while a later entry stays. -/
theorem witness_CycleStartsAdvanceTheSong_fires :
    let s := { (atTheEnd [muteAt 0, muteAt 1, ⟨2, .undo, none, 0, 0, 0⟩]) with
        cues := ⟨[muteAt 0, muteAt 1, ⟨2, .undo, none, 0, 0, 0⟩], [⟨3, .redo, none, 0, 0, 0⟩]⟩ }
    isRunning s = true ∧ s.transport.length = some 4800 ∧ s.transport.p = 4800 ∧ (∀ r, takeFullDue s r = false) ∧
      s.transport.state = .running ∧ s.firesAny (isDue 0) ∧ s.walkRuns (isDue 0) := by
  unfold State.firesAny State.walkRuns State.undoSpares; decide +kernel

theorem witness_BeatBoundariesFireTheBeatQueue :
    let s :=
      { playing with
        transport := { playing.transport with p := 3600, beatDue := true }
        cues := ⟨[], [⟨1, .mute, none, 1, 3, 0⟩, ⟨2, .unmute, none, 1, 0, 0⟩]⟩ }
    ∀ t ∈ [s, { s with cues := ⟨[], []⟩ }],
      isRunning t = true ∧ t.transport.moves = true ∧ t.transport.beatDue = true ∧ (∀ r, takeFullDue t r = false) ∧
        currentBeat (t.transport.length.getD 0) t.transport.beats t.transport.p = 3 ∧ t.link.beatReports = false := by decide +kernel

/-- A beat boundary at which entries fire, with beat reports off and on. -/
theorem witness_BeatBoundariesFireTheBeatQueue_fires :
    let s := fun on : Bool =>
      { playing with
        transport := { playing.transport with p := 1200, beatDue := true }
        link := { playing.link with beatReports := on }
        cues := ⟨[muteAt 1], [⟨1, .stopTake, none, 255, 0, 0⟩, ⟨2, .undo, none, 0, 0, 0⟩]⟩ }
    ∀ on, isRunning (s on) = true ∧ (s on).transport.moves = true ∧ (s on).transport.beatDue = true ∧
      (∀ r, takeFullDue (s on) r = false) ∧ currentBeat 4800 4 (s on).transport.p = 1 ∧ (s on).cues.beat ≠ [] ∧
      ((s on).walkRuns fun _ => false) ∧ (s on).link.beatReports = on := by
  unfold State.walkRuns State.undoSpares; decide +kernel

/-- An entry of each kind that can fire, with the command that is the same cue. -/
theorem witness_FiredCuesActAsTheSameCueTaken :
    (∀ s ∈ [taking, playing, undone, halted], ready s) ∧
      ∀ e ∈ ([⟨1, .startTake, none, 3, 8, 3⟩, ⟨1, .stopTake, none, 255, 0, 0⟩, ⟨1, .mute, some 4, 0, 23, 0⟩,
          ⟨1, .unmute, some 4, 1, 3, 0⟩, ⟨1, .undo, none, 0, 0, 0⟩, ⟨1, .redo, none, 0, 0, 0⟩, ⟨1, .halt, none, 0, 0, 0⟩] :
          List CueEntry),
        e.command.isSome = true ∧ paramsInRange e.kind e.p1 e.p2 e.p3 = true := by decide +kernel

/-- `taking` at a cycle start and at the start of beat 1, with a bounce under way and these cues. -/
def ending (p : Nat) (cycle beat : List CueEntry) (reports : Bool) : State :=
  { taking with
    transport := { taking.transport with p := p, c := 65535, beatDue := p == 1200 }
    job := aJob
    table := { taking.table with layers := taking.table.layers.set 3 (bouncing.layer 3) }
    store := { taking.store with pool := [5, 6], transfer := some ⟨.bounceRead, 1⟩ }
    link := { taking.link with beatReports := reports }
    cues := ⟨cycle, beat⟩ }

/-- A HALT behind a START_TAKE and an UNDO, with a take and a bounce running, at a cycle start and at a beat boundary. -/
theorem witness_WalksEndWithAHaltOrAnAbort :
    let e : CueEntry := ⟨2, .halt, none, 0, 0, 0⟩
    let begin : CueEntry := ⟨3, .startTake, none, 2, 1, 0⟩
    let undo : CueEntry := ⟨4, .undo, none, 0, 0, 0⟩
    (∀ s ∈ [ending 4800 [muteAt 1, begin, undo, e, muteAt 0] [muteAt 5] true, ending 1200 [muteAt 1] [begin, undo, e, muteAt 5] true,
        ending 1200 [muteAt 1] [begin, undo, e, muteAt 5] false],
      isRunning s = true ∧ s.transport.length = some 4800 ∧ (∀ r, takeFullDue s r = false) ∧ s.transport.state = .running ∧
        (∀ y ∈ [begin, undo], y.kind ≠ .halt ∧ (y.kind = .undo → s.undoSpares)) ∧ s.job.running = true ∧ s.takes.order = [0] ∧
        ∀ q, (s.recorder q).state = .recording → (s.recorder q).base = false → (s.recorder q).tail = false) ∧
      (ending 4800 [muteAt 1, begin, undo, e, muteAt 0] [muteAt 5] true).firesBehind (isDue ((65535 + 1) % 65536)) [begin, undo] e
        ⟨[muteAt 1, muteAt 0], [muteAt 5]⟩ ∧
      (∀ on, (ending 1200 [muteAt 1] [begin, undo, e, muteAt 5] on).firesBehind (fun _ => false) [begin, undo] e
        ⟨[muteAt 1], [muteAt 5]⟩) ∧
      (ending 1200 [] [] true).transport.beatDue = true ∧ 0 < currentBeat 4800 4 1200 := by
  unfold State.undoSpares
  exact ⟨by decide +kernel, .inl ⟨[muteAt 1, _, _], [muteAt 0], rfl, rfl, by decide +kernel, by decide +kernel⟩,
    fun _ => .inr ⟨[_, _], [muteAt 5], rfl, rfl, rfl⟩, by decide +kernel, by decide +kernel⟩

/-- An UNDO of the base take behind a MUTE, at a cycle start and at a beat boundary. -/
theorem witness_WalksEndWithAHaltOrAnAbort_undo :
    let e : CueEntry := ⟨2, .undo, none, 0, 0, 0⟩
    let s := fun (p : Nat) (cycle beat : List CueEntry) (on : Bool) =>
      { gridDefining with
        transport := { gridDefining.transport with p := p, beatDue := p == 1200, cyclesRecorded := 2 }
        link := { gridDefining.link with beatReports := on }
        cues := ⟨cycle, beat⟩ }
    let start := s 4800 [muteAt 1, e, muteAt 1] [muteAt 5] true
    let beat := s 1200 [muteAt 1] [muteAt 7, e, muteAt 5]
    (∀ t ∈ [start, beat false, beat true],
      isRunning t = true ∧ t.transport.length = some 4800 ∧ (∀ r, takeFullDue t r = false) ∧
        t.transport.state = .defining ∧ t.transport.mode = .grid ∧ t.transport.closePending = false ∧
        t.transport.cyclesRecorded ≠ 7) ∧
      (∀ w ∈ [start.cycleStarted.walked [muteAt 1] ⟨[muteAt 1], [muteAt 5]⟩,
          (beat false).beatBegun.walked [muteAt 7] ⟨[muteAt 1], [muteAt 5]⟩],
        (w.recorder 0).base = true ∧ (w.recorder 0).slot = some 0 ∧ (w.layer 0).state = .recording ∧ w.takes.order = [] ++ 0 :: []) ∧
      start.firesBehind (isDue ((0 + 1) % 65536)) [muteAt 1] e ⟨[muteAt 1], [muteAt 5]⟩ ∧
      ∀ on, (beat on).firesBehind (fun _ => false) [muteAt 7] e ⟨[muteAt 1], [muteAt 5]⟩ :=
  ⟨by decide +kernel, by decide +kernel, .inl ⟨[_], [_], rfl, by decide +kernel, by decide +kernel, by decide +kernel⟩,
    fun _ => .inr ⟨[_], [_], rfl, rfl, rfl⟩⟩

theorem witness_CountsRunOut :
    isRunning playing = true ∧
      (let s := { full with transport := { full.transport with pulseRemaining := 0 }, mix := { full.mix with burstPos := some 480 } }
       isRunning s = true ∧ s.transport.pin = true ∧ s.transport.pulseRemaining = 0 ∧ s.mix.burstPos = some 480 ∧
        s.store.windowPos = 128) := by decide +kernel

/-- `calm` with lane 3 armed at the end of a window of this peak. -/
def armedAt (peak : Nat) : State :=
  { calm with lanes := calm.lanes.set 3 { LaneRec.initial with armed := true, peak := peak, pos := 480, riseMask := 15 } }

theorem witness_WindowEndsJudgeTheBand :
    ∀ s ∈ [armedAt 264999, armedAt 265000, armedAt 8388607], isRunning s = true ∧ (s.lane 3).pos = 480 := by decide +kernel

/-- The starts of an armed lane in FREE and in GRID mode, the admission tests that fail, and a lane that is not armed. -/
theorem witness_WindowEndsReportAndStart :
    (∀ mode, let s := { armedAt 265000 with transport := { calm.transport with mode := mode } }
     isRunning s = true ∧ (s.lane 3).pos = 480 ∧ (s.lane 3).armed = true ∧ s.transport.state = .idle ∧
        (s.lane 3).band.number < Band.nominal.number ∧ 2 ≤ Band.nominal.number ∧ (s.lane 3).enable = true ∧
        s.store.pages ≠ 0 ∧ s.store.pool = 5 :: [6, 9] ∧ (∀ sl, (s.layer sl).state = .free) ∧
        (∀ r, (s.recorder r).state = .idle) ∧ s.table.redo = [] ∧ s.transport.mode = mode ∧ s.cues = ⟨[], []⟩) ∧
      (let s := { armedAt 8388607 with store := { calm.store with present := false, pages := 0, pool := [] } }
       (isRunning s = true ∧ (s.lane 3).pos = 480 ∧ (s.lane 3).armed = true) ∧ s.startFails 3 .noStore) ∧
      (let s := { armedAt 8388607 with store := { calm.store with pool := [] } }
       (isRunning s = true ∧ (s.lane 3).pos = 480 ∧ (s.lane 3).armed = true) ∧ s.startFails 3 .noMemory) ∧
      (let s := { (armedAt 8388607) with lanes := playing.lanes.set 3 { LaneRec.initial with pos := 480, peak := 8388607, armed := false } }
       isRunning s = true ∧ (s.lane 3).pos = 480 ∧ (s.lane 3).armed = false) := by
  unfold State.startFails
  exact ⟨by intro mode; cases mode <;> decide +kernel, by decide +kernel, by decide +kernel, by decide +kernel⟩

/-- `playing` with these buffers in slots 0 and 1 and this credit. -/
def buffered (b : Option Stream) (credit : Nat) : State :=
  { playing with store := { playing.store with credit := credit, buffers := playing.store.buffers.set 0 b } }

theorem witness_PortGrantsByLeastSlack :
    (∀ s ∈ [draining2 128 129, draining2 512 512, playing, { bouncing with
        store := playing.store, job := { aJob with inFlight := false } }, buffered (some ⟨[], false, false⟩) 1,
        buffered (some ⟨[⟨4700, 4700, none⟩], true, false⟩) 1],
      isRunning s = true ∧ s.store.transfer = none ∧ 0 < s.store.credit ∧ s.store.stalled = false) ∧
      (∀ s ∈ [draining2 128 129, draining2 512 512], (∀ sl, refillPending s sl = false) ∧
        drainPending (s.recorder 0) = true ∧ drainPending (s.recorder 1) = true ∧ (∀ q, drainPending (s.recorder q) = true → q ≤ (1 : Recorder))) ∧
      (∀ r, drainPending (playing.recorder r) = false) ∧ (∀ sl, refillPending playing sl = false) ∧
      (∀ s ∈ [buffered (some ⟨[], false, false⟩) 1, buffered (some ⟨[⟨4700, 4700, none⟩], true, false⟩) 1],
        (∀ r, drainPending (s.recorder r) = false) ∧ (∀ x, refillPending s x = decide (x = 0))) := by decide +kernel

/-- A drain and two refills pending, every refill with a read to make: the drain has the least slack, or the refill of slot 0 has. -/
theorem witness_PortGrantsByLeastSlack_mixed :
    let s := fun (m f : Nat) =>
      { (draining2 m 127) with
        store :=
          { taking.store with
            credit := 1
            buffers := (taking.store.buffers.set 0 (some ⟨List.replicate f ⟨99, 99, some 7⟩, true, false⟩)).set 1
              (some ⟨List.replicate 128 ⟨99, 99, some 7⟩, true, false⟩) } }
    (∀ t ∈ [s 512 1, s 400 112, s 400 111],
      isRunning t = true ∧ t.store.transfer = none ∧ 0 < t.store.credit ∧ t.store.stalled = false ∧
        drainPending (t.recorder 0) = true ∧ drainPending (t.recorder 1) = false ∧
        (∀ x, refillPending t x = decide (x ≤ 1)) ∧
        ∀ x : Slot, x ≤ 1 → ∀ b ∈ t.buffer x, ∃ e ∈ t.nextRefill x b, e.value ≠ none ∧ fromFifo t x e.offset = false) ∧
      storedCount ((s 512 1).recorder 0).fifo = 512 ∧ 512 - storedCount ((s 400 112).recorder 0).fifo = 112 := by decide +kernel

theorem witness_DrainsAndRefillsComplete :
    (let s := { taking with store := { taking.store with transfer := some ⟨.drain 0 2, 1⟩ } }
     isRunning s = true ∧ (s.recorder 0).slot = some 2 ∧ (s.recorder 0).state = .recording ∧
        2 ≤ fifoOffsets (s.recorder 0).fifo ∧ offsetAddress (s.layer 2).extents (s.recorder 0).cursor = some (14 * 4096) ∧
        Memory.wf s.mem = true ∧ fifoValue (s.recorder 0).fifo 0 = some 5 ∧ fifoValue (s.recorder 0).fifo 1 = some (-6) ∧
        fifoValue (s.recorder 0).fifo 2 = none) ∧
      (let s := { buffered (some ⟨[], false, true⟩) 1 with
          store := { (buffered (some ⟨[], false, true⟩) 1).store with transfer := some ⟨.refill 0 [⟨99, 99, some 7⟩, ⟨100, 100, some 8⟩], 0⟩ } }
       isRunning s = true ∧ s.buffer 0 = some ⟨[], false, true⟩) := by decide +kernel

/-- `taking` in the last burst of a recorder in CLOSING: of a take, in its tail drain, or of an exhausted base take. -/
def finishing (base tail : Bool) (reason : EndReason) : State :=
  { taking with
    takes :=
      { taking.takes with
        recs := taking.takes.recs.set 0
          { aTake with
            state := .closing, endReason := some reason, base := base, tail := tail, inFlight := true
            fifo := [.sample 5, .zeros 3] } }
    store := { taking.store with transfer := some ⟨.drain 0 4, 1⟩ } }

theorem witness_FinishedDrainsHandOver :
    ∀ s ∈ [finishing false false .stopped, finishing true true .memoryFull, finishing true false .memoryFull],
      isRunning s = true ∧ s.store.transfer = some ⟨.drain 0 4, 1⟩ ∧ (s.recorder 0).slot = some 2 ∧
        (s.recorder 0).state = .closing ∧ (s.recorder 0).gap = 0 ∧ 4 = fifoOffsets (s.recorder 0).fifo ∧
        (s.recorder 0).endReason.isSome = true ∧
        (∀ e ∈ (s.recorder 0).fifo, e ≠ FifoEntry.zeros 0) ∧
        offsetAddress (s.layer 2).extents (s.recorder 0).cursor = some (14 * 4096) ∧ Memory.wf s.mem = true ∧
        (List.range 5).map (fifoValue (s.recorder 0).fifo) = [some 5, some 0, some 0, some 0, none] := by decide +kernel

/-- `bouncing` with the last chunk ready to be written. -/
def writing : State :=
  { bouncing with
    job := { aJob with progress := 9472, chunk := some ⟨9472, 128, List.replicate 128 (-6144), 1, [], .write⟩ }
    store := { bouncing.store with transfer := some ⟨.bounceWrite, 1⟩ } }

theorem witness_BounceReadsAndWritesComplete :
    (isRunning bouncing = true ∧ bouncing.store.transfer = some ⟨.bounceRead, 1⟩ ∧
      bouncing.job.chunk = some ⟨0, 2, [4096, -6144], 0, [⟨0, 0, 1⟩, ⟨1, 4800, 1⟩], .read⟩ ∧
      bouncing.job.sources[0]? = some ⟨1, 2, 1, 4096, 64⟩) ∧
      (isRunning writing = true ∧ writing.store.transfer = some ⟨.bounceWrite, 1⟩ ∧ writing.job.result = some 3 ∧
        offsetAddress (writing.layer 3).extents 9472 = some (20 * 4096 + 9472) ∧ Memory.wf writing.mem = true ∧
        (List.replicate 128 (-6144 : Int)).length = 128) ∧
      (writing.job.progress + 128 = writing.job.total ∧ writing.job.anchor = some 0 ∧
        (writing.job.sources.map Source.slot)[0]? = some 1 ∧
        (∀ x ∈ writing.job.sources.map Source.slot, (writing.layer x).state = .active ∧ x ≠ 3) ∧
        writing.table.stack = [0] ++ 1 :: [] ∧ 1 ∈ writing.job.sources.map Source.slot ∧ 1 ∉ [(0 : Slot)]) ∧
      (let s := { writing with job := { writing.job with total := 9601 } }
       s.job.progress + 128 ≠ s.job.total) := by decide +kernel

/-- The last piece of the first source, with the second to read behind it, and the last piece of the last source. -/
theorem witness_BounceReadsTakeTheNextSource :
    ∀ i ∈ [0, 1],
      let ch : Chunk := ⟨0, 2, [4096, 2147483647], i, [⟨1, 4799, 1⟩], .read⟩
      let s := { bouncing with job := { aJob with chunk := some ch } }
      isRunning s = true ∧ s.store.transfer = some ⟨.bounceRead, 1⟩ ∧ s.job.chunk = some ch ∧
        ch.pieces = [⟨1, 4799, 1⟩] ∧ ch.phase = .read ∧ ch.sums.length = ch.length ∧
        (s.job.sources[ch.source]?).isSome = true := by decide +kernel

theorem witness_ResetAndStartUpRunTheirCourse :
    (quiet bouncing ∧ bouncing.rest.nrst = true) ∧ (after .nrstLow bouncing).rest.nrst = false ∧
      (State.reset.rest.nrst = true ∧ State.reset.rest.run = .starting ∧ State.reset.rest.cause = .power ∧
        State.reset.rest.probing = false ∧ Memory.wf State.reset.mem = true) ∧
      (let s := after (.oscillatorStartUpEnd .full16) State.reset
       s.rest.nrst = true ∧ s.rest.run = .starting ∧ s.rest.probing = true) := by decide +kernel

theorem witness_WakesRunTheirCourse :
    (let s := { calm with rest := { calm.rest with run := .rest } }
     quiet s ∧ s.rest.nrst = true ∧ s.rest.run = .rest) ∧ quiet calm ∧
      (∀ c ∈ [WakeCause.wakeLine, WakeCause.linkActivity],
        let s := { calm with rest := { calm.rest with run := .starting, cause := c } }
        s.rest.nrst = true ∧ s.rest.run = .starting ∧ (s.rest.cause = .wakeLine ∨ s.rest.cause = .linkActivity)) := by decide +kernel

end Sys2Proof.Tests
end

section
/-! SUPPORT. How a command is taken: the request rows and the event rows as the effect of their owner, the answers as `State.queued` and
`State.reported`, and the equality of two states field by field. -/

namespace Sys2Proof.Machine

/-! ## Equality of states -/

/-- Two states with the same records are the same. -/
theorem State.eq_of_fields {s t : State} (transport : s.transport = t.transport) (table : s.table = t.table)
    (cues : s.cues = t.cues) (lanes : s.lanes = t.lanes) (takes : s.takes = t.takes) (store : s.store = t.store)
    (mem : s.mem = t.mem) (mix : s.mix = t.mix) (job : s.job = t.job) (link : s.link = t.link) (rest : s.rest = t.rest)
    (openOrders : s.openOrders = t.openOrders) (pending : s.pending = t.pending) : s = t := by
  cases s; cases t; simp_all

/-! ## Answers -/

theorem raiseReport_eq_reported (m : Message) (s : State) : raiseReport m s = s.reported 31 m := rfl

theorem raiseLevel_eq_reported (m : Message) (s : State) : raiseLevel m s = s.reported 24 m := rfl

theorem reportTakeEnd_eq_reported (r : Recorder) (sl : Slot) (reason : EndReason) (s : State) :
    reportTakeEnd r sl reason s =
      s.reported 31 (.takeEnd r sl reason (s.layer sl).len (s.layer sl).lost (pageCount (s.layer sl).extents)) := rfl

/-! ## Cues taken with NONE -/

/-- Every kind may be taken with NONE, so a cue with its parameters in range passes the form check. -/
theorem doCue_cueRequest (kind : CueKind) (tag p1 p2 p3 : Byte) (s : State) (hp : paramsInRange kind p1 p2 p3 = true) :
    handle (cueRequest kind tag p1 p2 p3) s = cueNow ⟨byte kind.number, 0, tag, false, p1, p2, p3, 0⟩ kind s := by
  have hk : cueKindOf (byte kind.number).toNat = some kind := by cases kind <;> rfl
  have ha : quantAllowed kind .now = true := by cases kind <;> rfl
  have hf : cueForm ⟨byte kind.number, 0, tag, false, p1, p2, p3, 0⟩ = some (kind, .now) := by
    unfold cueForm
    rw [hk]
    simp only [show quantOf (0 : Byte).toNat = some .now from rfl, ha, hp]
    rfl
  simp only [handle, cueRequest, doCue, hf]

/-- A cue that finds the part ready and is refused is answered with its outcome, and nothing else changes. -/
theorem takeRequest_cue_refused (kind : CueKind) (tag p1 p2 p3 : Byte) (s : State) (code : Code) (affected : Nat)
    (h : ready s) (hp : paramsInRange kind p1 p2 p3 = true) (hr : cueResult kind p1 p2 s = (code, affected))
    (hc : code ≠ .ok) :
    takeRequest (cueRequest kind tag p1 p2 p3) s = s.queued [s.cueReply code tag affected] := by
  rw [takeRequest_ready _ _ h, doCue_cueRequest _ _ _ _ _ _ hp]
  simp only [cueNow, hr, if_neg hc]
  rfl

/-- A cue that finds the part ready and whose outcome is OK takes effect behind its reply. -/
theorem takeRequest_cue_ok (kind : CueKind) (tag p1 p2 p3 : Byte) (s : State) (affected : Nat)
    (h : ready s) (hp : paramsInRange kind p1 p2 p3 = true) (hr : cueResult kind p1 p2 s = (.ok, affected)) :
    takeRequest (cueRequest kind tag p1 p2 p3) s =
      applyCue kind p1 p2 p3 (s.queued [(applyCue kind p1 p2 p3 s).cueReply .ok tag affected]) := by
  rw [takeRequest_ready _ _ h, doCue_cueRequest _ _ _ _ _ _ hp]
  simp only [cueNow, hr, if_true]
  rfl

end Sys2Proof.Machine
end

section
/-! The settings, queries and system requests, the counts that run out, and the arithmetic of the beats. -/

namespace Sys2Proof.Machine

/-! ## Counts -/

/-- Settles O51: each of the three rows is its count's test. -/
theorem countsRunOut : Obligations.CountsRunOut := by
  intro s hr
  refine ⟨?_, ?_, ?_⟩
  · simp only [exec, execPulseEnd, takeEvent, hr, pulseEndDue, Bool.true_and, Bool.and_eq_true, decide_eq_true_eq]
    rfl
  · simp only [exec, execClickBurstEnd, takeEvent, hr, clickEndDue, Bool.true_and, beq_iff_eq]
    rfl
  · simp only [exec, execPortWindowStart, takeEvent, hr, portWindowDue, Bool.true_and, decide_eq_true_eq]
    rfl

/-! ## GRID_SETUP -/

/-- The value check of GRID_SETUP fails exactly for a value out of its range. -/
theorem gridValid_eq_false_iff (mode beats : Byte) (tempo fade : BitVec 16) :
    gridValid ⟨mode, beats, tempo, fade⟩ = false ↔
      1 < mode.toNat ∨ beats.toNat = 0 ∨ 32 < beats.toNat ∨ fade.toNat ∉ [0, 32, 64, 128, 256, 512, 1024] := by
  rw [← Bool.not_eq_true]
  simp only [gridValid, isFade, Bool.and_eq_true, decide_eq_true_eq, List.contains_iff_mem, not_and_or, not_le, or_assoc,
    Nat.lt_one_iff]

/-- Settles O17: the two checks in their order, then the four fields. -/
theorem gridSetupIsAsR2Gives : Obligations.GridSetupIsAsR2Gives := by
  intro s mode beats tempo fade h T
  have hexec : exec (.gridSetup mode beats tempo fade) s = .next (doGridSetup ⟨mode, beats, tempo, fade⟩ s) :=
    congrArg Host.Outcome.next (takeRequest_ready _ s h)
  rw [hexec, doGridSetup]
  cases hv : gridValid ⟨mode, beats, tempo, fade⟩ with
  | false =>
    rw [if_pos ((gridValid_eq_false_iff mode beats tempo fade).mp hv)]
    rfl
  | true =>
    have hbad : ¬(1 < mode.toNat ∨ beats.toNat = 0 ∨ 32 < beats.toNat ∨
        fade.toNat ∉ [0, 32, 64, 128, 256, 512, 1024]) := by
      rw [← gridValid_eq_false_iff mode beats tempo fade, hv]; simp
    rw [if_neg hbad]
    by_cases hi : s.transport.state = .idle
    · rw [if_pos hi, if_neg (not_not.mpr hi)]
      rfl
    · rw [if_neg hi, if_pos hi]
      rfl

/-! ## CLEAR, RESTART, REST and frames of unknown kind -/

/-- The busy mask is 0 exactly where every recorder is IDLE. -/
theorem busyMask_eq_zero_iff (s : State) : busyMask s = 0 ↔ ∀ r, (s.recorder r).state = .idle := by
  have each : ∀ r : Recorder, (if (s.recorder r).state = .idle then 0 else 2 ^ r.val) = 0 ↔ (s.recorder r).state = .idle := by
    intro r
    by_cases h : (s.recorder r).state = .idle <;> simp [h]
  simp only [busyMask, recorderNumbers, List.sum_eq_zero_iff, List.mem_map, forall_exists_index, and_imp,
    forall_apply_eq_imp_iff₂, each]
  exact ⟨fun h r => h r (by fin_cases r <;> simp), fun h r _ => h r⟩

/-- The conditions of R181. -/
theorem mayRest_iff (s : State) :
    mayRest s = true ↔ (s.transport.state = .idle ∨ s.transport.state = .halted) ∧ (∀ r, (s.recorder r).state = .idle) ∧
      s.job.running = false := by
  simp only [mayRest, Bool.and_eq_true, Bool.or_eq_true, beq_iff_eq, busyMask_eq_zero_iff, Bool.not_eq_true', and_assoc]

/-- Settles O37: each request is handed to its owner, and REST is decided by R181. -/
theorem clearAndSystemRequestsAreAnswered : Obligations.ClearAndSystemRequestsAreAnswered := by
  refine ⟨fun s h => ?_, fun s kind h => ⟨?_, fun hm => ?_, fun hm => ?_, fun hk => ⟨?_, rfl, ?_⟩⟩⟩
  · exact congrArg Host.Outcome.next (takeRequest_ready .clear s h)
  · exact congrArg Host.Outcome.next (takeRequest_ready .restart s h)
  · have hr : mayRest s = true := (mayRest_iff s).mpr hm
    have hd : doRest s = (reply (.accepted 0x0C) s).setRest { s.rest with run := .draining, linkActivity := false } := by
      simp [doRest, hr]
    exact congrArg Host.Outcome.next ((takeRequest_ready .rest s h).trans hd)
  · have hr : mayRest s = false := by simpa using mt (mayRest_iff s).mp hm
    have hd : doRest s = reply (.refused 0x0C .busy) s := by simp [doRest, hr]
    exact congrArg Host.Outcome.next ((takeRequest_ready .rest s h).trans hd)
  · have hk' : isRequestKind kind = false := by
      rcases hk with rfl | hk
      · rfl
      · simp only [isRequestKind, Bool.and_eq_false_iff, decide_eq_false_iff_not]; omega
    simp only [exec, execUnknownKind, hk', Bool.false_eq_true, if_false, takeRequest_ready _ s h]
    rfl
  · simp [Message.payload, byte, Code.number]

end Sys2Proof.Machine
end
section
namespace Sys2Proof.Machine

/-! ## Beats -/

/-- The last beat is one that has begun, and none after it has. -/
theorem lastBeat_spec (L B p n : Nat) (h : beatStart L B 0 ≤ p) (hn : 0 < n) :
    lastBeat L B p n < n ∧ beatStart L B (lastBeat L B p n) ≤ p ∧
      ∀ b, b < n → beatStart L B b ≤ p → b ≤ lastBeat L B p n := by
  induction n with
  | zero => omega
  | succ n ih =>
    unfold lastBeat
    split
    · next hb => exact ⟨by omega, hb, fun b hlt _ => by omega⟩
    · next hb =>
      have hpos : 0 < n := Nat.pos_of_ne_zero fun h0 => hb (h0 ▸ h)
      obtain ⟨hlt, hle, hmax⟩ := ih hpos
      refine ⟨by omega, hle, fun b hlt' hb' => hmax b ?_ hb'⟩
      exact lt_of_le_of_ne (by omega) fun he => hb (he ▸ hb')

/-- Two beats start at least `d` apart where the cycle has room for `d` at each. -/
theorem beatStart_add_le (L B b d : Nat) (hB : 0 < B) (h : d * B ≤ L) : beatStart L B b + d ≤ beatStart L B (b + 1) := by
  unfold beatStart
  rw [← Nat.add_mul_div_right _ _ hB]
  exact Nat.div_le_div_right (by rw [Nat.succ_mul]; omega)

/-- The nearest number to the quotient 28,800,000 / T. -/
theorem samplesPerBeat_spec (T : Nat) (h : 0 < T) :
    2 * (samplesPerBeat T * T) ≤ 2 * 28800000 + T ∧ 2 * 28800000 < 2 * (samplesPerBeat T * T) + T := by
  have hdiv := Nat.div_add_mod (28800000 + T / 2) T
  have hmod := Nat.mod_lt (28800000 + T / 2) h
  have hcomm : T * ((28800000 + T / 2) / T) = samplesPerBeat T * T := Nat.mul_comm _ _
  omega

/-- The samples per beat lie in the range of R3. -/
theorem samplesPerBeat_range (T : Nat) (h : 400 ≤ T) (h' : T ≤ 3000) :
    9600 ≤ samplesPerBeat T ∧ samplesPerBeat T ≤ 72000 := by
  have hpos : 0 < T := by omega
  unfold samplesPerBeat
  rw [Nat.le_div_iff_mul_le hpos]
  exact ⟨by omega, Nat.lt_succ_iff.mp ((Nat.div_lt_iff_lt_mul hpos).mpr (by omega))⟩

/-- Settles O10: the rounding from the division's remainder, the beats by recursion over their number. -/
theorem beatsAreAsR3AndR4Give : Obligations.BeatsAreAsR3AndR4Give := by
  refine ⟨fun T B hT hT' hB hB' => ?_, fun L B p hL hB hB' hp => ?_⟩
  · obtain ⟨hle, hlt⟩ := samplesPerBeat_spec T (by omega)
    obtain ⟨hlow, hhigh⟩ := samplesPerBeat_range T hT hT'
    have hmin : 1 * 9600 ≤ B * samplesPerBeat T := Nat.mul_le_mul hB hlow
    have hmax : B * samplesPerBeat T ≤ 32 * 72000 := Nat.mul_le_mul hB' hhigh
    rw [Nat.mul_assoc]
    omega
  · have h0 : beatStart L B 0 = 0 := by simp [beatStart]
    obtain ⟨hlt, hle, hmax⟩ := lastBeat_spec L B p B (by omega) hB
    refine ⟨h0, fun b => beatStart_add_le L B b 150 hB (by omega), hlt, hle, hmax, fun b n hn => ?_⟩
    rw [beatStart, hn, Nat.mul_left_comm, Nat.mul_div_cancel_left _ hB]

/-! ## Queries -/

theorem slotNumbers_eq : slotNumbers = List.finRange 24 := by decide

theorem recorderNumbers_eq : recorderNumbers = List.finRange 4 := by decide

theorem mem_slotNumbers (sl : Slot) : sl ∈ slotNumbers := by simp [slotNumbers_eq]

theorem mem_recorderNumbers (r : Recorder) : r ∈ recorderNumbers := by simp [recorderNumbers_eq]

/-- A sum over the slots in their order. -/
theorem sum_slotNumbers (f : Slot → Nat) : (slotNumbers.map f).sum = ∑ x : Slot, f x := by
  rw [slotNumbers_eq, Fin.sum_univ_def]

/-- A sum over the recorders in their order. -/
theorem sum_recorderNumbers (f : Recorder → Nat) : (recorderNumbers.map f).sum = ∑ r : Recorder, f r := by
  rw [recorderNumbers_eq, Fin.sum_univ_def]

/-- A count is a sum of ones. -/
theorem length_filter_eq_sum {α : Type} (p : α → Bool) (xs : List α) :
    (xs.filter p).length = (xs.map fun x => if p x = true then 1 else 0).sum := by
  induction xs with
  | nil => rfl
  | cons x xs ih => by_cases h : p x = true <;> simp [h, ih, Nat.add_comm]

/-- The greatest of a list of numbers, with 0 for none. -/
theorem foldl_max_spec (xs : List Nat) (a : Nat) :
    a ≤ xs.foldl max a ∧ (∀ x ∈ xs, x ≤ xs.foldl max a) ∧ (xs.foldl max a = a ∨ xs.foldl max a ∈ xs) := by
  induction xs generalizing a with
  | nil => simp
  | cons x xs ih =>
    obtain ⟨ha, hall, hmem⟩ := ih (max a x)
    refine ⟨by simp only [List.foldl_cons]; omega, fun y hy => ?_, ?_⟩
    · rcases List.mem_cons.mp hy with rfl | hy
      · simp only [List.foldl_cons]; omega
      · exact hall y hy
    · simp only [List.foldl_cons, List.mem_cons]
      rcases hmem with hmem | hmem
      · rcases max_cases a x with ⟨h, _⟩ | ⟨h, _⟩ <;> rw [hmem, h] <;> simp
      · exact .inr (.inr hmem)

theorem runsOf_ne_nil (xs : List Nat) (h : xs ≠ []) : runsOf xs ≠ [] := by
  cases xs with
  | nil => exact absurd rfl h
  | cons x xs =>
    unfold runsOf
    repeat' split
    all_goals simp

/-- A query that finds the part ready is answered by its owner. -/
theorem doQuery_ready (form n : Byte) (s : State) (h : ready s) :
    takeRequest (queryOf form n) s = doQuery form (if form = 1 ∨ form = 2 then n else 0) s :=
  takeRequest_ready _ s h

/-- The longest run that QUERY STORE shows is that of the pool. -/
theorem longestRun_spec (s : State) :
    (∀ e ∈ runsOf s.store.pool, e.count ≤ (storeView s).longestRun) ∧
      (s.store.pool ≠ [] → ∃ e ∈ runsOf s.store.pool, e.count = (storeView s).longestRun) ∧
      (s.store.pool = [] → (storeView s).longestRun = 0) := by
  obtain ⟨-, hall, hmem⟩ := foldl_max_spec ((runsOf s.store.pool).map Extent.count) 0
  have hle : ∀ e ∈ runsOf s.store.pool, e.count ≤ (storeView s).longestRun := fun e he => hall _ (List.mem_map_of_mem he)
  refine ⟨hle, fun hp => ?_, fun hp => by simp [storeView, hp, runsOf]⟩
  rcases hmem with hmem | hmem
  · obtain ⟨e, he⟩ := List.exists_mem_of_ne_nil _ (runsOf_ne_nil _ hp)
    exact ⟨e, he, le_antisymm (hle e he) (by rw [show (storeView s).longestRun = 0 from hmem]; omega)⟩
  · obtain ⟨e, he, hc⟩ := List.mem_map.mp hmem
    exact ⟨e, he, hc⟩

/-- Pages held by the layers in the states that `test` holds of. -/
theorem heldPages_eq_sum (s : State) (test : LState → Bool) :
    heldPages s test = ∑ x : Slot, (if test (s.layer x).state = true then ((s.layer x).extents.map Extent.count).sum else 0) :=
  sum_slotNumbers _

theorem unprimed_iff (s : State) (x : Slot) :
    unprimed s x = true ↔ (s.layer x).state = .active ∧ ∀ b, s.buffer x = some b → b.primed = false := by
  unfold unprimed
  cases s.buffer x <;> simp

theorem inProgress_iff (l : LState) : l.inProgress = true ↔ l = .recording ∨ l = .closing := by
  cases l <;> decide

theorem optNumber_eq_getD {n : Nat} (x : Option (Fin n)) : optNumber x = (x.map Fin.val).getD 255 := by
  cases x <;> rfl

theorem byteFin_eq {n : Nat} [NeZero n] (b : Byte) (i : Fin n) (h : b.toNat = i.val) : byteFin n b = i := by
  apply Fin.ext
  simp [byteFin, Fin.ofNat, h, Nat.mod_eq_of_lt i.isLt]

/-- Settles O36: the views that the owners compose, their sums written over all slots and recorders. -/
theorem queriesShowTheState : Obligations.QueriesShowTheState := by
  intro s n h t
  refine ⟨congrArg Host.Outcome.next (doQuery_ready 0 0 s h), fun sl hn => ?_, fun hn => ?_, fun l hn => ?_, fun hn => ?_,
    ⟨storeView s, rfl, rfl, rfl, rfl, rfl, rfl, (longestRun_spec s).1, (longestRun_spec s).2.1, (longestRun_spec s).2.2,
      ?_, ?_, ?_, ?_, ?_, ?_, ?_, rfl, ?_, congrArg Host.Outcome.next (doQuery_ready 3 0 s h)⟩,
    ⟨busyView s, rfl, rfl, rfl, ?_, ?_, rfl, optNumber_eq_getD _, rfl, rfl, rfl, rfl, rfl, rfl,
      congrArg Host.Outcome.next (doQuery_ready 4 0 s h)⟩⟩
  · have hd : doQuery 1 n s = reply (.layer (layerView sl s)) s := by
      have hle : n.toNat ≤ 23 := by omega
      simp only [doQuery, hle, if_true, byteFin_eq n sl hn]
      rfl
    refine congrArg Host.Outcome.next ((doQuery_ready 1 n s h).trans (hd.trans ?_))
    simp only [layerView, listPosition, List.contains_iff_mem]
    rfl
  · have hd : doQuery 1 n s = reply (.refused 0x09 .badValue) s := by
      have hle : ¬n.toNat ≤ 23 := by omega
      simp only [doQuery, hle, if_false]
      rfl
    exact congrArg Host.Outcome.next ((doQuery_ready 1 n s h).trans hd)
  · have hd : doQuery 2 n s = reply (.lane l (s.lane l)) s := by
      have hle : n.toNat ≤ 3 := by omega
      simp only [doQuery, hle, if_true, byteFin_eq n l hn]
      rfl
    exact congrArg Host.Outcome.next ((doQuery_ready 2 n s h).trans hd)
  · have hd : doQuery 2 n s = reply (.refused 0x09 .badValue) s := by
      have hle : ¬n.toNat ≤ 3 := by omega
      simp only [doQuery, hle, if_false]
      rfl
    exact congrArg Host.Outcome.next ((doQuery_ready 2 n s h).trans hd)
  · simp only [storeView, length_filter_eq_sum, sum_slotNumbers, unprimed_iff]
  · simp only [storeView, heldPages_eq_sum, beq_iff_eq]
  · simp only [storeView, heldPages_eq_sum, beq_iff_eq]
  · simp only [storeView, heldPages_eq_sum, beq_iff_eq]
  · simp only [storeView, heldPages_eq_sum, inProgress_iff]
  · simp only [storeView, length_filter_eq_sum, sum_recorderNumbers]
  · simp only [storeView, length_filter_eq_sum, sum_slotNumbers]
  · rcases hx : s.store.transfer with _ | ⟨_ | _ | _ | _, _⟩ <;> simp [storeView, portView, hx]
  · simp only [busyView, recorderView, recorderNumbers_eq]
  · simp only [busyView, busyMask, sum_recorderNumbers]

/-! ## CLOSE_BASE before its time -/

/-- Settles O24: FREE mode refuses below 4,800 samples, GRID mode leaves the closure to the cycle start. -/
theorem closeBaseWaitsOrIsTooShort : Obligations.CloseBaseWaitsOrIsTooShort := by
  intro s tag h hd
  have hstate : stateRefusal .closeBase s.transport = none := by simp [stateRefusal, hd]
  refine ⟨fun hm hp => ?_, fun hm => ?_⟩
  · have hr : cueResult .closeBase 0 0 s = (.tooShort, 255) := by simp [cueResult, hstate, hm, hp]
    exact congrArg Host.Outcome.next (takeRequest_cue_refused .closeBase tag 0 0 0 s _ _ h rfl hr (by decide))
  · have hr : cueResult .closeBase 0 0 s = (.ok, 255) := by simp [cueResult, hstate, hm]
    have ha : ∀ u : State, u.transport.mode = .grid →
        applyCue .closeBase 0 0 0 u = u.setTransport { u.transport with closePending := true } := by
      intro u hu
      simp [applyCue, applyCloseBase, hu]
    have ht := takeRequest_cue_ok .closeBase tag 0 0 0 s _ h rfl hr
    rw [ha s hm, ha (s.queued _) hm] at ht
    exact congrArg Host.Outcome.next ht

/-! ## The state after reset -/

theorem reset_layer (sl : Slot) : State.reset.layer sl = LayerRec.freed := by simp [State.layer, State.reset]

theorem reset_recorder (r : Recorder) : State.reset.recorder r = RecorderRec.idle := by simp [State.recorder, State.reset]

theorem reset_lane (l : Lane) : State.reset.lane l = LaneRec.initial := by simp [State.lane, State.reset]

theorem reset_buffer (sl : Slot) : State.reset.buffer sl = none := by simp [State.buffer, State.reset]

/-- With every layer FREE, every recorder IDLE and an empty store the song hangs together. -/
theorem songSound_reset : songSound State.reset where
  stack := ⟨List.nodup_nil, fun sl => by rw [reset_layer]; simp [LayerRec.freed, State.reset]⟩
  redo := ⟨List.nodup_nil, fun sl => by rw [reset_layer]; simp [LayerRec.freed, State.reset]⟩
  free sl _ := reset_layer sl
  pages := ⟨List.Pairwise.nil, by
    simp [reset_layer, LayerRec.freed, pagesOf]
    rfl⟩
  counts sl h := absurd (by rw [reset_layer]; rfl) h
  idle r _ := reset_recorder r
  take r h := absurd (by rw [reset_recorder]; rfl) h
  named r q sl h _ := by simp [reset_recorder, RecorderRec.idle] at h
  inTake sl h := by simp [reset_layer, LayerRec.freed] at h
  order := ⟨List.nodup_nil, fun r => by rw [reset_recorder]; simp [RecorderRec.idle, State.reset]⟩
  burst r n left h := by simp [State.reset] at h
  base r h := by simp [reset_recorder, RecorderRec.idle] at h
  jobIdle _ := rfl
  jobRuns h := by simp [State.reset, Job.idle] at h
  held sl := by rw [reset_layer]; simp [LayerRec.freed, State.reset, Job.idle]
  building sl h := by simp [reset_layer, LayerRec.freed] at h
  idleSong _ := ⟨fun sl => by rw [reset_layer]; rfl, fun r => by rw [reset_recorder]; rfl, rfl⟩
  starting _ _ := rfl

/-- In IDLE with no cycle and nothing waiting the playhead is sound. -/
theorem playheadSound_reset : playheadSound State.reset where
  grid := by decide
  counters := ⟨by decide, by decide, fun _ => ⟨rfl, rfl⟩⟩
  idle _ := ⟨rfl, rfl, rfl, rfl, rfl⟩
  defining h := by simp [State.reset] at h
  cycle h := absurd rfl h
  stopped _ := rfl
  beat h := by simp [State.reset] at h
  cycles sl := by simp [reset_layer, LayerRec.freed]
  buffers sl := by simp [reset_layer, reset_buffer, LayerRec.freed]
  refill sl entries left h := by simp [State.reset] at h
  waiting := by simp [State.reset]
  armed l _ := rfl
  anchor h := by simp [State.reset, Job.idle] at h

/-- Settles O9: every record of the reset state is written out, so each condition is read off it. -/
theorem resetMeetsEveryInvariant : Obligations.ResetMeetsEveryInvariant :=
  ⟨rfl, by simp [outgoingBounded, State.reset], by simp [receiveBounded, receivedBytes, State.reset],
    by simp [cueQueuesBounded, State.reset], by simp [portBounded, State.reset],
    fun l => by rw [reset_lane]; simp [LaneRec.inRange, LaneRec.initial], by simp [pulseSound, State.reset],
    by simp [outputsInRange, OutPair.inRange, is24, State.reset, OutPair.zero], songSound_reset, playheadSound_reset⟩

end Sys2Proof.Machine
end

section
/-! SUPPORT. The induction over a step, packaged once: a condition that every event keeps, taken where it is due, and that the handling of
every request keeps, is kept by every step. -/

namespace Sys2Proof.Machine

/-- The requests that the rows and the frames make: a BOUNCE brings as many slots as it says. -/
def Request.read : Request → Prop
  | .bounce n slots => slots.length = min n.toNat 8
  | _ => True

theorem bounceOf_read (n : Byte) (slots : List Byte) (h : slots.length = 8) : (bounceOf n slots).read :=
  (List.length_take ..).trans (by rw [h])

theorem requestOf_read (kind : Byte) (payload : List Byte) : (requestOf kind payload).read := by
  unfold requestOf
  split
  case h_7 =>
    split
    · exact bounceOf_read _ _ rfl
    · trivial
  case h_13 => trivial
  all_goals split <;> trivial

/-- Every event of the part but the sample period itself, where it is due, and every request, where it may be taken, keeps `P`. -/
structure KeptByEvents (P : State → Prop) : Prop where
  pending : ∀ s q, P s → P (s.setPending q)
  takeFull : ∀ s r, takeFullDue s r = true → P s → P (endTake .full s r)
  pulseEnd : ∀ s, pulseEndDue s = true → P s → P (endPulse s)
  clickEnd : ∀ s, P s → P (endClick s)
  selfClose : ∀ s, selfCloseDue s = true → P s → P (selfClose s)
  windowEnd : ∀ s l, windowEndDue s l = true → P s → P (endWindow l s)
  cycleStart : ∀ s, cycleStartDue s = true → P s → P (wrapCycle s)
  beat : ∀ s, beatDue s = true → P s → P (takeBeat s)
  complete : ∀ s x, s.store.transfer = some x → P s → P (complete x s)
  decidePort : ∀ s, P s → P (decidePort s)
  startFrame : ∀ s, P s → P (startFrame s)
  pop : ∀ s, P s → P (popFrame s)
  handle : ∀ q s, q.read → canTake s = true → P s → P (handle q s)
  window : ∀ s, P s → P (beginWindow s)
  byte : ∀ b fault s, P s → P (takeByte b fault s)
  gap : ∀ s, P s → P (expireGap s)
  sent : ∀ s, P s → P (finishFrame s)
  hold : ∀ level s, P s → P (setHold level s)
  nrstLow : ∀ s, P s → P ((stopAll s).setRest { (stopAll s).rest with nrst := false })
  powerOn : ∀ cause s, P s → P (powerOn cause s)
  probe : ∀ device s, inStartUp s.rest = true → P s →
    P ((probe device s).setRest { (probe device s).rest with probing := true })
  awake : ∀ s, P s → P (becomeAwake s)
  wake : ∀ level s, P s → P (setWake level s)
  startWake : ∀ cause s, inRest s.rest = true → cause = .wakeLine ∨ cause = .linkActivity → P s → P (startWake cause s)
  falseWake : ∀ s, inWake s.rest = true → P s → P (s.setRest { s.rest with run := .rest })

/-! ## What stays due -/

theorem landEntries_transport (sl : Slot) (entries : List Entry) (s : State) (h : s.transport.state ≠ .priming) :
    (landEntries sl entries s).transport = s.transport := by
  obtain ⟨b, he | ⟨hp, -⟩⟩ := landEntries_cases sl entries s
  · rw [he]; rfl
  · exact absurd hp h

theorem placeSilent_transport (sl : Slot) (s : State) (h : s.transport.state ≠ .priming) :
    (placeSilent s sl).transport = s.transport := by
  unfold placeSilent
  split
  · exact landEntries_transport _ _ _ h
  · rfl

theorem raiseRefill_transport (sl : Slot) (s : State) (h : s.transport.state ≠ .priming) :
    (raiseRefill sl s).transport = s.transport := by
  have h1 := placeSilent_transport sl s h
  exact (placeSilent_transport sl _ (by rwa [h1])).trans h1

theorem activate_transport (sl : Slot) (s : State) (h : s.transport.state ≠ .priming) :
    (activate sl s).transport = s.transport := raiseRefill_transport sl _ h

theorem joinStack_transport (sl : Slot) (s : State) (h : s.transport.state ≠ .priming) :
    (joinStack sl s).transport = s.transport := activate_transport sl _ h

theorem finishTake_transport (r : Recorder) (sl : Slot) (s : State) (h : s.transport.state ≠ .priming) :
    (finishTake r sl s).transport = s.transport := by
  simp [finishTake, joinStack_transport, h]

theorem drainDone_transport (r : Recorder) (s : State) (h : s.transport.state ≠ .priming) :
    (drainDone r s).transport = s.transport := by
  unfold drainDone
  repeat' split
  all_goals simp [finishTake_transport, h]

theorem endTake_transport (reason : EndReason) (s : State) (r : Recorder) (h : s.transport.state ≠ .priming) :
    (endTake reason s r).transport = s.transport := by
  unfold endTake
  dsimp only
  repeat' split
  all_goals simp [drainDone_transport, h]

theorem takeFulls_transport (s : State) (h : s.transport.state ≠ .priming) :
    (takeFulls s).transport = s.transport := by
  have each : ∀ (rs : List Recorder) (u : State), u.transport.state ≠ .priming →
      (rs.foldl takeFullAt u).transport = u.transport := by
    intro rs
    induction rs with
    | nil => exact fun _ _ => rfl
    | cons r rs ih =>
      intro u hu
      have h1 : (takeFullAt u r).transport = u.transport := by
        unfold takeFullAt
        split
        · exact endTake_transport _ _ _ hu
        · rfl
      exact (ih _ (by rwa [h1])).trans h1
  exact each _ _ h

/-- While the playhead moves the transport is not in PRIMING. -/
theorem Transport.moves_not_priming (t : Transport) (h : t.moves = true) : t.state ≠ .priming := by
  intro hp
  simp [Transport.moves, hp] at h

theorem moves_of_cycleStartDue (s : State) (h : cycleStartDue s = true) : s.transport.moves = true :=
  (Bool.and_eq_true_iff.mp h).1

theorem moves_of_beatDue (s : State) (h : beatDue s = true) : s.transport.moves = true := (Bool.and_eq_true_iff.mp h).1

/-- The ends of full takes leave a due cycle start due. -/
theorem cycleStartDue_takeFulls (s : State) (h : cycleStartDue s = true) : cycleStartDue (takeFulls s) = true := by
  unfold cycleStartDue
  rw [takeFulls_transport s (s.transport.moves_not_priming (moves_of_cycleStartDue s h))]
  exact h

/-- The ends of full takes leave a due beat boundary due. -/
theorem beatDue_takeFulls (s : State) (h : beatDue s = true) : beatDue (takeFulls s) = true := by
  unfold beatDue
  rw [takeFulls_transport s (s.transport.moves_not_priming (moves_of_beatDue s h))]
  exact h

/-- A frame that leaves the receive buffer leaves the dispatcher free. -/
theorem canTake_popFrame (s : State) : canTake (popFrame s) = canTake s := by
  unfold canTake popFrame rdyAfterLeave
  split <;> rfl

/-! ## The induction -/

namespace KeptByEvents

variable {P : State → Prop}

theorem foldl {α : Type} {f : State → α → State} (hf : ∀ s a, P s → P (f s a)) (xs : List α) (s : State) (h : P s) :
    P (xs.foldl f s) := by
  induction xs generalizing s with
  | nil => exact h
  | cons x xs ih => exact ih _ (hf _ _ h)

theorem takeFulls (kept : KeptByEvents P) (s : State) (h : P s) : P (takeFulls s) := by
  refine foldl (fun u r hu => ?_) _ _ h
  unfold takeFullAt
  split
  · exact kept.takeFull u r ‹_› hu
  · exact hu

theorem boundary (kept : KeptByEvents P) (s : State) (h : P s) : P (boundaryIfDue s) := by
  unfold boundaryIfDue
  split
  · exact kept.cycleStart s ‹_› h
  · split
    · exact kept.beat s ‹_› h
    · exact h

theorem completed (kept : KeptByEvents P) (s : State) (h : P s) : P (completeDue s) := by
  unfold completeDue
  split
  · exact h
  · split
    · exact kept.complete s _ ‹_› h
    · exact h

theorem started (kept : KeptByEvents P) (s : State) (h : P s) : P (startFrameDue s) := by
  unfold startFrameDue
  split
  · exact kept.startFrame s h
  · exact h

theorem windows (kept : KeptByEvents P) (s : State) (h : P s) : P (laneNumbers.foldl windowEndAt s) := by
  refine foldl (fun u l hu => ?_) _ _ h
  unfold windowEndAt
  split
  · exact kept.windowEnd u l ‹_› hu
  · exact hu

/-- Every due event, in the order of `urgent`. -/
theorem urgent (kept : KeptByEvents P) (s : State) (h : P s) : P (urgent s) := by
  unfold Machine.urgent
  split
  · have hfull := kept.takeFulls s h
    have hpulse : P (pulseEndIfDue (Machine.takeFulls s)) := by
      unfold pulseEndIfDue
      split
      · exact kept.pulseEnd _ ‹_› hfull
      · exact hfull
    have hclick : P (clickEndIfDue (pulseEndIfDue (Machine.takeFulls s))) := by
      unfold clickEndIfDue
      split
      · exact kept.clickEnd _ hpulse
      · exact hpulse
    have hself : P (selfCloseIfDue (clickEndIfDue (pulseEndIfDue (Machine.takeFulls s)))) := by
      unfold selfCloseIfDue
      split
      · exact kept.selfClose _ ‹_› hclick
      · exact hclick
    exact kept.started _ (kept.decidePort _ (kept.completed _ (kept.boundary _ (kept.windows _ hself))))
  · exact h

theorem dispatch (kept : KeptByEvents P) (s : State) (h : P s) : P (dispatch s) := by
  unfold Machine.dispatch
  split
  · exact h
  · split
    · exact kept.handle _ _ (requestOf_read _ _) (by rw [canTake_popFrame]; assumption) (kept.pop s h)
    · exact h

theorem dispatchAll (kept : KeptByEvents P) (n : Nat) (s : State) (h : P s) : P (dispatchAll n s) := by
  induction n generalizing s with
  | zero => exact h
  | succ n ih =>
    unfold Machine.dispatchAll
    split
    · exact ih _ (kept.urgent _ (kept.dispatch s h))
    · exact h

theorem settle (kept : KeptByEvents P) (s : State) (h : P s) : P (settle s) := kept.dispatchAll _ _ (kept.urgent s h)

theorem handleIfFree (kept : KeptByEvents P) (q : Request) (hq : q.read) (s : State) (h : P s) : P (handleIfFree q s) := by
  unfold Machine.handleIfFree
  split
  · exact kept.handle q s hq ‹_› h
  · exact h

theorem takeInTurn (kept : KeptByEvents P) (q : Request) (hq : q.read) (n : Nat) (s : State) (h : P s) : P (takeInTurn q n s) := by
  induction n generalizing s with
  | zero => exact kept.handleIfFree q hq s h
  | succ n ih =>
    unfold Machine.takeInTurn
    split
    · exact kept.handleIfFree q hq s h
    · split
      · split
        · exact kept.handle q _ hq (by rw [canTake_popFrame]; assumption) (kept.pop s h)
        · exact ih _ (kept.urgent _ (kept.dispatch s h))
      · exact h

theorem takeRequest (kept : KeptByEvents P) (q : Request) (hq : q.read) (s : State) (h : P s) : P (takeRequest q s) :=
  kept.takeInTurn q hq _ _ (kept.urgent s h)

theorem event {due : Bool} {f : State → State} (s : State) (hf : due = true → P (f s)) (h : P s) : P (takeEvent due f s) := by
  unfold takeEvent
  split
  · next hd => exact hf (Bool.and_eq_true_iff.mp hd).2
  · exact h

theorem completion (kept : KeptByEvents P) (mine : TransferKind → Bool) (s : State) (h : P s) : P (takeCompletion mine s) := by
  refine event s (fun hd => ?_) h
  unfold completeNow
  split
  · exact h
  · exact kept.complete s _ ‹_› h

theorem ite {c : Prop} [Decidable c] {s t : State} (ht : c → P t) (hs : P s) : P (if c then t else s) := by
  split
  · exact ht ‹_›
  · exact hs

/-- The start of a port window that is due, with the arbiter's decision. -/
theorem windowStart (kept : KeptByEvents P) (s : State) (h : P s) : P (startWindowIfDue s) :=
  ite (fun _ => kept.decidePort _ (kept.window _ h)) h

/-- Every command keeps `P` if a sample period that finds everything due taken does: a request row through the dispatcher, an event row
where it is due, any other command behind what is due. -/
theorem exec (kept : KeptByEvents P)
    (tick : ∀ x s, P s → isRunning (Machine.settle s) = true → P (tick x (startWindowIfDue (Machine.settle s))))
    (i : Instr) (s t : State) (h : P s) (he : exec i s = .next t) : P t := by
  have hs := kept.settle s h
  cases i <;> (unfold Machine.exec at he; cases he)
  case rxdByte => exact kept.byte _ _ _ hs
  case interByteTimeout => exact ite (fun _ => kept.gap _ hs) hs
  case frameStart => exact event s (fun _ => kept.startFrame s h) h
  case frameSent => exact ite (fun _ => kept.sent _ hs) hs
  case holdAsserted => exact kept.hold _ _ hs
  case holdDeasserted => exact ite (fun _ => kept.started _ (kept.hold _ _ hs)) (kept.hold _ _ hs)
  case samplePeriod => exact ite (fun hr => tick _ s h hr) hs
  case takeFull r => exact event s (fun hd => kept.takeFull s r hd h) h
  case freeSelfClose => exact event s (fun hd => kept.selfClose s hd h) h
  case cycleStart => exact event s (fun hd => kept.cycleStart _ (cycleStartDue_takeFulls s hd) (kept.takeFulls s h)) h
  case beatBoundary => exact event s (fun hd => kept.beat _ (beatDue_takeFulls s hd) (kept.takeFulls s h)) h
  case pulseEnd => exact event s (fun hd => kept.pulseEnd s hd h) h
  case clickBurstEnd => exact event s (fun _ => kept.clickEnd s h) h
  case windowEnd l => exact event s (fun hd => kept.windowEnd s l hd h) h
  case portWindowStart => exact event s (fun _ => kept.window s h) h
  case portGrant => exact event s (fun _ => kept.decidePort s h) h
  case drainBurstComplete => exact kept.completion _ s h
  case refillLanding => exact kept.completion _ s h
  case bounceReadComplete => exact kept.completion _ s h
  case bounceWriteComplete => exact kept.completion _ s h
  case nrstLow => exact ite (fun _ => kept.nrstLow _ hs) h
  case nrstRise => split; exacts [h, kept.powerOn _ _ h]
  case oscillatorStartUpEnd => exact ite (fun hi => kept.probe _ s hi h) h
  case probePeriodEnd => exact ite (fun _ => kept.awake s h) h
  case wakeAsserted => exact ite (fun hi => kept.startWake _ _ hi (.inl rfl) (kept.wake _ _ hs)) (kept.wake _ _ hs)
  case wakeReleased => exact kept.wake _ _ hs
  case linkWake => exact ite (fun hi => kept.startWake _ _ hi (.inr rfl) hs) hs
  case wakeStartingEnd =>
    refine ite (fun hi => ?_) h
    split
    exacts [kept.falseWake s hi h, kept.awake s h]
  case unknownKind => split; exacts [h, kept.takeRequest _ (by trivial) s h]
  case bounce n slots => exact kept.takeRequest _ (bounceOf_read _ _ slots.size_toArray) s h
  all_goals exact kept.takeRequest _ (by trivial) s h

/-- Every step keeps `P`. -/
theorem step (kept : KeptByEvents P)
    (tick : ∀ x s, P s → isRunning (Machine.settle s) = true → P (tick x (startWindowIfDue (Machine.settle s))))
    (s t : State) (h : P s) (he : step s = .next t) : P t := by
  unfold Machine.step at he
  split at he
  · cases he; exact h
  · exact kept.exec tick _ _ t (kept.pending s _ h) he

end KeptByEvents

end Sys2Proof.Machine
end

section
/-! SUPPORT. What each operation leaves of the credit and the port window: everything but a grant, the sample period and the window's
start leaves both counts as they stand. -/

namespace Sys2Proof.Machine

@[simp] theorem State.setBuffer_windowPos (s : State) (sl : Slot) (x : Option Stream) :
    (s.setBuffer sl x).store.windowPos = s.store.windowPos := rfl

/-- Folding an operation that leaves the counts leaves them. -/
@[simp] theorem foldl_credit {α : Type} (f : State → α → State) (h : ∀ s a, (f s a).store.credit = s.store.credit)
    (xs : List α) (s : State) : (xs.foldl f s).store.credit = s.store.credit := by
  induction xs generalizing s with
  | nil => rfl
  | cons x xs ih => simp [ih, h]

/-- Folding an operation that leaves the counts leaves them. -/
@[simp] theorem foldl_windowPos {α : Type} (f : State → α → State) (h : ∀ s a, (f s a).store.windowPos = s.store.windowPos)
    (xs : List α) (s : State) : (xs.foldl f s).store.windowPos = s.store.windowPos := by
  induction xs generalizing s with
  | nil => rfl
  | cons x xs ih => simp [ih, h]

@[simp] theorem clearFlight_counts (kind : TransferKind) (s : State) :
    (clearFlight kind s).store.credit = s.store.credit ∧ (clearFlight kind s).store.windowPos = s.store.windowPos := by
  unfold clearFlight
  (repeat' split) <;> simp

@[simp] theorem releasePort_counts (s : State) :
    (releasePort s).store.credit = s.store.credit ∧ (releasePort s).store.windowPos = s.store.windowPos := by
  unfold releasePort
  (repeat' split) <;> simp

@[simp] theorem endTransferIf_counts (mine : TransferKind → Bool) (s : State) :
    (endTransferIf mine s).store.credit = s.store.credit ∧ (endTransferIf mine s).store.windowPos = s.store.windowPos := by
  unfold endTransferIf
  (repeat' split) <;> simp

@[simp] theorem landEntries_counts (sl : Slot) (entries : List Entry) (s : State) :
    (landEntries sl entries s).store.credit = s.store.credit ∧
    (landEntries sl entries s).store.windowPos = s.store.windowPos := by
  unfold landEntries
  dsimp only
  (repeat' split) <;> simp

@[simp] theorem placeSilent_counts (s : State) (sl : Slot) :
    (placeSilent s sl).store.credit = s.store.credit ∧ (placeSilent s sl).store.windowPos = s.store.windowPos := by
  unfold placeSilent
  (repeat' split) <;> simp

@[simp] theorem raiseRefill_counts (sl : Slot) (s : State) :
    (raiseRefill sl s).store.credit = s.store.credit ∧ (raiseRefill sl s).store.windowPos = s.store.windowPos := by
  simp [raiseRefill]

@[simp] theorem placeAll_counts (s : State) :
    (placeAll s).store.credit = s.store.credit ∧ (placeAll s).store.windowPos = s.store.windowPos := by
  simp [placeAll]

@[simp] theorem activate_counts (sl : Slot) (s : State) :
    (activate sl s).store.credit = s.store.credit ∧ (activate sl s).store.windowPos = s.store.windowPos := by
  simp [activate]

@[simp] theorem withdraw_counts (sl : Slot) (s : State) :
    (withdraw sl s).store.credit = s.store.credit ∧ (withdraw sl s).store.windowPos = s.store.windowPos := by
  simp [withdraw]

@[simp] theorem returnPages_counts (sl : Slot) (s : State) :
    (returnPages sl s).store.credit = s.store.credit ∧ (returnPages sl s).store.windowPos = s.store.windowPos := by
  simp [returnPages]

@[simp] theorem freeLayer_counts (sl : Slot) (s : State) :
    (freeLayer sl s).store.credit = s.store.credit ∧ (freeLayer sl s).store.windowPos = s.store.windowPos := by
  simp [freeLayer, State.setLayer]

@[simp] theorem freeLayers_counts (sls : List Slot) (s : State) :
    (freeLayers sls s).store.credit = s.store.credit ∧ (freeLayers sls s).store.windowPos = s.store.windowPos := by
  simp [freeLayers]

@[simp] theorem releaseRedo_counts (s : State) :
    (releaseRedo s).store.credit = s.store.credit ∧ (releaseRedo s).store.windowPos = s.store.windowPos := by
  simp [releaseRedo]

@[simp] theorem freeAll_counts (s : State) :
    (freeAll s).store.credit = s.store.credit ∧ (freeAll s).store.windowPos = s.store.windowPos := by
  simp [freeAll]

@[simp] theorem joinStack_counts (sl : Slot) (s : State) :
    (joinStack sl s).store.credit = s.store.credit ∧ (joinStack sl s).store.windowPos = s.store.windowPos := by
  simp [joinStack, State.setLayer]

/-- An acquisition takes a page from the pool, and leaves the counts. -/
theorem acquirePage_counts (sl : Slot) (s t : State) (h : acquirePage sl s = .ok t) :
    t.store.credit = s.store.credit ∧ t.store.windowPos = s.store.windowPos := by
  unfold acquirePage at h
  split at h
  · cases h
  · split at h <;> cases h
    simp

@[simp] theorem admitWith_counts (r : Recorder) (sl : Slot) (lane : Lane) (multiple : Nat) (group : Group) (base : Bool)
    (start : Nat) (s : State) :
    (admitWith r sl lane multiple group base start s).store.credit = s.store.credit ∧
    (admitWith r sl lane multiple group base start s).store.windowPos = s.store.windowPos := by
  unfold admitWith
  dsimp only
  split
  · have h := acquirePage_counts _ _ _ ‹_›
    simpa using h
  · simp

@[simp] theorem admitTake_counts (lane : Lane) (multiple : Nat) (group : Group) (base : Bool) (start : Nat) (s : State) :
    (admitTake lane multiple group base start s).store.credit = s.store.credit ∧
    (admitTake lane multiple group base start s).store.windowPos = s.store.windowPos := by
  unfold admitTake
  dsimp only
  (repeat' split) <;> simp

@[simp] theorem dropTake_counts (r : Recorder) (sl : Slot) (reason : EndReason) (s : State) :
    (dropTake r sl reason s).store.credit = s.store.credit ∧
    (dropTake r sl reason s).store.windowPos = s.store.windowPos := by
  simp [dropTake]

@[simp] theorem finishTake_counts (r : Recorder) (sl : Slot) (s : State) :
    (finishTake r sl s).store.credit = s.store.credit ∧ (finishTake r sl s).store.windowPos = s.store.windowPos := by
  simp [finishTake]

@[simp] theorem drainDone_counts (r : Recorder) (s : State) :
    (drainDone r s).store.credit = s.store.credit ∧ (drainDone r s).store.windowPos = s.store.windowPos := by
  unfold drainDone
  (repeat' split) <;> simp

@[simp] theorem endTake_counts (reason : EndReason) (s : State) (r : Recorder) :
    (endTake reason s r).store.credit = s.store.credit ∧ (endTake reason s r).store.windowPos = s.store.windowPos := by
  unfold endTake
  dsimp only
  (repeat' split) <;> simp

@[simp] theorem abortTake_counts (s : State) (r : Recorder) :
    (abortTake s r).store.credit = s.store.credit ∧ (abortTake s r).store.windowPos = s.store.windowPos := by
  unfold abortTake
  (repeat' split) <;> simp

@[simp] theorem abortBase_counts (r : Recorder) (s : State) :
    (abortBase r s).store.credit = s.store.credit ∧ (abortBase r s).store.windowPos = s.store.windowPos := by
  simp [abortBase]

@[simp] theorem recordSample_counts (value : Lane → Int) (s : State) (r : Recorder) :
    (recordSample value s r).store.credit = s.store.credit ∧
    (recordSample value s r).store.windowPos = s.store.windowPos := by
  unfold recordSample
  dsimp only
  split
  · split
    · split
      · simpa using acquirePage_counts _ _ _ ‹_›
      · split <;> simp
    · simp
  · simp

@[simp] theorem recordAll_counts (value : Lane → Int) (s : State) :
    (recordAll value s).store.credit = s.store.credit ∧ (recordAll value s).store.windowPos = s.store.windowPos := by
  simp [recordAll]

@[simp] theorem admitBounce_counts (slots : List Slot) (s : State) :
    (admitBounce slots s).store.credit = s.store.credit ∧ (admitBounce slots s).store.windowPos = s.store.windowPos := by
  unfold admitBounce
  dsimp only
  (repeat' split) <;> simp

@[simp] theorem activateResult_counts (result : Slot) (k : Nat) (s : State) :
    (activateResult result k s).store.credit = s.store.credit ∧
    (activateResult result k s).store.windowPos = s.store.windowPos := by
  simp [activateResult]

@[simp] theorem completeBounce_counts (result : Slot) (s : State) :
    (completeBounce result s).store.credit = s.store.credit ∧
    (completeBounce result s).store.windowPos = s.store.windowPos := by
  simp [completeBounce]

@[simp] theorem abortBounce_counts (s : State) :
    (abortBounce s).store.credit = s.store.credit ∧ (abortBounce s).store.windowPos = s.store.windowPos := by
  unfold abortBounce
  (repeat' split) <;> simp

@[simp] theorem writeChunk_counts (ch : Chunk) (result : Slot) (s : State) :
    (writeChunk ch result s).store.credit = s.store.credit ∧
    (writeChunk ch result s).store.windowPos = s.store.windowPos := by
  unfold writeChunk
  dsimp only
  (repeat' split) <;> simp

@[simp] theorem parkLayer_counts (sl : Slot) (s : State) :
    (parkLayer sl s).store.credit = s.store.credit ∧ (parkLayer sl s).store.windowPos = s.store.windowPos := by
  simp [parkLayer]

@[simp] theorem applyUndo_counts (s : State) :
    (applyUndo s).store.credit = s.store.credit ∧ (applyUndo s).store.windowPos = s.store.windowPos := by
  unfold applyUndo
  (repeat' split) <;> simp

@[simp] theorem applyRedo_counts (s : State) :
    (applyRedo s).store.credit = s.store.credit ∧ (applyRedo s).store.windowPos = s.store.windowPos := by
  unfold applyRedo
  (repeat' split) <;> simp

@[simp] theorem takeHalt_counts (s : State) (b : HaltBlock) :
    (takeHalt s b).store.credit = s.store.credit ∧ (takeHalt s b).store.windowPos = s.store.windowPos := by
  cases b <;> simp [takeHalt]

@[simp] theorem haltBuffers_counts (s : State) :
    (haltBuffers s).store.credit = s.store.credit ∧ (haltBuffers s).store.windowPos = s.store.windowPos := by
  simp [haltBuffers]

@[simp] theorem applyHalt_counts (s : State) :
    (applyHalt s).store.credit = s.store.credit ∧ (applyHalt s).store.windowPos = s.store.windowPos := by
  simp [applyHalt]

@[simp] theorem applyQueued_counts (kind : CueKind) (p1 p2 p3 : Byte) (s : State) :
    (applyQueued kind p1 p2 p3 s).store.credit = s.store.credit ∧
    (applyQueued kind p1 p2 p3 s).store.windowPos = s.store.windowPos := by
  unfold applyQueued
  (repeat' split) <;> simp

@[simp] theorem fireEntry_counts (e : CueEntry) (s : State) :
    (fireEntry e s).store.credit = s.store.credit ∧ (fireEntry e s).store.windowPos = s.store.windowPos := by
  unfold fireEntry
  dsimp only
  (repeat' split) <;> simp

@[simp] theorem walkCycle_counts (b : Boundary) (kept rest : List CueEntry) (s : State) :
    (walkCycle b kept rest s).store.credit = s.store.credit ∧
    (walkCycle b kept rest s).store.windowPos = s.store.windowPos := by
  induction rest generalizing kept s with
  | nil => simp [walkCycle]
  | cons e rest ih =>
    unfold walkCycle
    dsimp only
    (repeat' split) <;> simp [ih]

@[simp] theorem fireBeats_counts (rest : List CueEntry) (s : State) :
    (fireBeats rest s).store.credit = s.store.credit ∧ (fireBeats rest s).store.windowPos = s.store.windowPos := by
  induction rest generalizing s with
  | nil => simp [fireBeats]
  | cons e rest ih =>
    unfold fireBeats
    dsimp only
    (repeat' split) <;> simp [ih]

@[simp] theorem cuesTake_counts (b : Boundary) (s : State) :
    (cuesTake b s).store.credit = s.store.credit ∧ (cuesTake b s).store.windowPos = s.store.windowPos := by
  unfold cuesTake
  dsimp only
  (repeat' split) <;> simp

@[simp] theorem takeBoundary_counts (b : Boundary) (s : State) (x : Receiver) :
    (takeBoundary b s x).store.credit = s.store.credit ∧ (takeBoundary b s x).store.windowPos = s.store.windowPos := by
  cases x <;> simp [takeBoundary]

@[simp] theorem raiseBoundary_counts (beat : Nat) (free : Bool) (skip : Option Slot) (s : State) :
    (raiseBoundary beat free skip s).store.credit = s.store.credit ∧
    (raiseBoundary beat free skip s).store.windowPos = s.store.windowPos := by
  unfold raiseBoundary
  dsimp only
  (repeat' split) <;> simp

@[simp] theorem closeBaseTake_counts (multiple : Nat) (r : Recorder) (sl : Slot) (s : State) :
    (closeBaseTake multiple r sl s).store.credit = s.store.credit ∧
    (closeBaseTake multiple r sl s).store.windowPos = s.store.windowPos := by
  simp [closeBaseTake, State.setLayer]

@[simp] theorem closure_counts (multiple length : Nat) (s : State) :
    (closure multiple length s).store.credit = s.store.credit ∧
    (closure multiple length s).store.windowPos = s.store.windowPos := by
  unfold closure
  dsimp only
  (repeat' split) <;> simp

@[simp] theorem wrapCycle_counts (s : State) :
    (wrapCycle s).store.credit = s.store.credit ∧ (wrapCycle s).store.windowPos = s.store.windowPos := by
  unfold wrapCycle
  dsimp only
  (repeat' split) <;> simp

@[simp] theorem takeBeat_counts (s : State) :
    (takeBeat s).store.credit = s.store.credit ∧ (takeBeat s).store.windowPos = s.store.windowPos := by
  simp [takeBeat]

@[simp] theorem applyStartBase_counts (p1 : Byte) (s : State) :
    (applyStartBase p1 s).store.credit = s.store.credit ∧ (applyStartBase p1 s).store.windowPos = s.store.windowPos := by
  unfold applyStartBase
  dsimp only
  (repeat' split) <;> simp

@[simp] theorem applyCloseBase_counts (s : State) :
    (applyCloseBase s).store.credit = s.store.credit ∧ (applyCloseBase s).store.windowPos = s.store.windowPos := by
  unfold applyCloseBase
  (repeat' split) <;> simp

@[simp] theorem applyPlay_counts (s : State) :
    (applyPlay s).store.credit = s.store.credit ∧ (applyPlay s).store.windowPos = s.store.windowPos := by
  simp [applyPlay]

@[simp] theorem applyCue_counts (kind : CueKind) (p1 p2 p3 : Byte) (s : State) :
    (applyCue kind p1 p2 p3 s).store.credit = s.store.credit ∧
    (applyCue kind p1 p2 p3 s).store.windowPos = s.store.windowPos := by
  unfold applyCue
  (repeat' split) <;> simp

@[simp] theorem completeDrain_counts (r : Recorder) (n : Nat) (s : State) :
    (completeDrain r n s).store.credit = s.store.credit ∧ (completeDrain r n s).store.windowPos = s.store.windowPos := by
  unfold completeDrain
  dsimp only
  (repeat' split) <;> simp

@[simp] theorem completeRefill_counts (sl : Slot) (entries : List Entry) (s : State) :
    (completeRefill sl entries s).store.credit = s.store.credit ∧
    (completeRefill sl entries s).store.windowPos = s.store.windowPos := by
  simp [completeRefill]

@[simp] theorem completeRead_counts (s : State) :
    (completeRead s).store.credit = s.store.credit ∧ (completeRead s).store.windowPos = s.store.windowPos := by
  unfold completeRead
  dsimp only
  (repeat' split) <;> simp

@[simp] theorem completeWrite_counts (s : State) :
    (completeWrite s).store.credit = s.store.credit ∧ (completeWrite s).store.windowPos = s.store.windowPos := by
  unfold completeWrite
  dsimp only
  (repeat' split) <;> simp

@[simp] theorem complete_counts (x : Transfer) (s : State) :
    (complete x s).store.credit = s.store.credit ∧ (complete x s).store.windowPos = s.store.windowPos := by
  unfold complete
  (repeat' split) <;> simp

@[simp] theorem serveLayers_counts (s : State) :
    (serveLayers s).store.credit = s.store.credit ∧ (serveLayers s).store.windowPos = s.store.windowPos := by
  unfold serveLayers
  (repeat' split) <;> simp

@[simp] theorem exhaustFree_counts (s : State) :
    (exhaustFree s).store.credit = s.store.credit ∧ (exhaustFree s).store.windowPos = s.store.windowPos := by
  unfold exhaustFree
  dsimp only
  (repeat' split) <;> simp

@[simp] theorem autoStart_counts (n : Lane) (s : State) :
    (autoStart n s).store.credit = s.store.credit ∧ (autoStart n s).store.windowPos = s.store.windowPos := by
  unfold autoStart
  dsimp only
  (repeat' split) <;> simp

@[simp] theorem endWindow_counts (n : Lane) (s : State) :
    (endWindow n s).store.credit = s.store.credit ∧ (endWindow n s).store.windowPos = s.store.windowPos := by
  unfold endWindow
  dsimp only
  (repeat' split) <;> simp [State.setLane]

@[simp] theorem cueNow_counts (q : Cue) (kind : CueKind) (s : State) :
    (cueNow q kind s).store.credit = s.store.credit ∧ (cueNow q kind s).store.windowPos = s.store.windowPos := by
  unfold cueNow
  dsimp only
  (repeat' split) <;> simp

@[simp] theorem doCue_counts (q : Cue) (s : State) :
    (doCue q s).store.credit = s.store.credit ∧ (doCue q s).store.windowPos = s.store.windowPos := by
  unfold doCue
  (repeat' split) <;> simp

@[simp] theorem doBounce_counts (n : Byte) (slots : List Byte) (s : State) :
    (doBounce n slots s).store.credit = s.store.credit ∧ (doBounce n slots s).store.windowPos = s.store.windowPos := by
  unfold doBounce
  dsimp only
  (repeat' split) <;> simp

@[simp] theorem clearSong_counts (s : State) :
    (clearSong s).store.credit = s.store.credit ∧ (clearSong s).store.windowPos = s.store.windowPos := by
  simp [clearSong]

@[simp] theorem handle_counts (q : Request) (s : State) :
    (handle q s).store.credit = s.store.credit ∧ (handle q s).store.windowPos = s.store.windowPos := by
  unfold handle
  split <;> simp [doClear]

/-! ## The grant and the decision -/

/-- A grant leaves no more credit than there was, and the window as it stands. -/
theorem grant_counts (q : PortRequest) (s : State) :
    (grant q s).store.credit ≤ s.store.credit ∧ (grant q s).store.windowPos = s.store.windowPos := by
  cases q <;> simp [grant, setFlight]

/-- The arbiter's decision leaves no more credit than there was, and the window as it stands. -/
theorem decidePort_counts (s : State) :
    (decidePort s).store.credit ≤ s.store.credit ∧ (decidePort s).store.windowPos = s.store.windowPos := by
  obtain ⟨hcredit, hpos⟩ := placeAll_counts s
  unfold decidePort arbitrate grantOrStall
  split
  · split
    · exact ⟨hcredit.le, hpos⟩
    · next q _ =>
      obtain ⟨hg, hw⟩ := grant_counts q (placeAll s)
      split
      · exact ⟨hg.trans hcredit.le, hw.trans hpos⟩
      · simp [stall]
  · exact ⟨hcredit.le, hpos⟩

/-- A sample period leaves the credit, and counts one more of the window's sample periods. -/
theorem tick_counts (x : Lane → Int) (s : State) :
    (tick x s).store.credit = s.store.credit ∧ (tick x s).store.windowPos = min 128 (s.store.windowPos + 1) := by
  simp [tick, tickPort]

/-! ## Bounds -/

theorem portBounded_of_counts {s t : State} (h : portBounded s)
    (hc : t.store.credit ≤ s.store.credit ∧ t.store.windowPos = s.store.windowPos) : portBounded t :=
  ⟨hc.1.trans h.1, hc.2.le.trans h.2⟩

theorem portBounded_of_same {s t : State} (h : portBounded s)
    (hc : t.store.credit = s.store.credit ∧ t.store.windowPos = s.store.windowPos) : portBounded t :=
  portBounded_of_counts h ⟨hc.1.le, hc.2⟩

theorem portBounded_stopped {t : State} (hc : t.store.credit = 0 ∧ t.store.windowPos = 128) : portBounded t := by
  simp [portBounded, hc]

/-- Entry into REST and the end of STARTING bring the window to its end with no credit. -/
theorem enterRest_counts (s : State) : (enterRest s).store.credit = 0 ∧ (enterRest s).store.windowPos = 128 := by
  unfold enterRest
  dsimp only
  split <;> simp [stopWindows]

theorem becomeAwake_counts (s : State) : (becomeAwake s).store.credit = 0 ∧ (becomeAwake s).store.windowPos = 128 := by
  simp [becomeAwake, stopWindows]

theorem portBounded_powerOn (cause : WakeCause) (s : State) : portBounded (powerOn cause s) :=
  portBounded_stopped ⟨rfl, rfl⟩

theorem portBounded_finishFrame (s : State) (h : portBounded s) : portBounded (finishFrame s) := by
  unfold finishFrame
  split
  · dsimp only
    split
    · exact portBounded_powerOn _ _
    · split
      · unfold drainDecision
        repeat' split
        · exact portBounded_of_same h (by simp)
        · exact portBounded_of_same h (by simp)
        · exact portBounded_stopped (enterRest_counts _)
      · exact h
  · exact h

theorem portBounded_tick (x : Lane → Int) (s : State) (h : portBounded s) : portBounded (tick x s) :=
  ⟨(tick_counts x s).1.le.trans h.1, (tick_counts x s).2.le.trans (min_le_left _ _)⟩

/-- Every event keeps the port's counts in their bounds: only the start of a window raises the credit, to 40. -/
theorem portBounded_kept : KeptByEvents portBounded where
  pending _ _ h := h
  takeFull _ _ _ h := portBounded_of_same h (by simp)
  pulseEnd _ _ h := h
  clickEnd _ h := h
  selfClose _ _ h := portBounded_of_same h (by simp [selfClose])
  windowEnd _ _ _ h := portBounded_of_same h (by simp)
  cycleStart _ _ h := portBounded_of_same h (by simp)
  beat _ _ h := portBounded_of_same h (by simp)
  complete _ _ _ h := portBounded_of_same h (by simp)
  decidePort s h := portBounded_of_counts h (decidePort_counts s)
  startFrame _ h := portBounded_of_same h (by simp)
  pop _ h := h
  handle _ _ _ _ h := portBounded_of_same h (by simp)
  window _ _ := ⟨le_refl 40, by simp [beginWindow]⟩
  byte _ _ _ h := portBounded_of_same h (by simp)
  gap _ h := portBounded_of_same h (by simp)
  sent s h := portBounded_finishFrame s h
  hold _ _ h := h
  nrstLow _ h := portBounded_of_same h (by simp [stopAll])
  powerOn cause s _ := portBounded_powerOn cause s
  probe _ _ _ h := h
  awake s _ := portBounded_stopped (becomeAwake_counts s)
  wake _ _ h := h
  startWake _ _ _ _ h := h
  falseWake _ _ h := h

end Sys2Proof.Machine
end

section
/-! SUPPORT. What can happen to the transport record, said once: every operation takes it along the ways of `Transport.Reaches`, so a
condition on the transport need only be kept by each of these. -/

namespace Sys2Proof.Machine

/-- The ways in which events and cues change the transport record, one behind the other. -/
inductive Transport.Reaches : Transport → Transport → Prop
  | refl (t : Transport) : t.Reaches t
  | trans {t u v : Transport} : t.Reaches u → u.Reaches v → t.Reaches v
  /-- PRIMING ends (R18). -/
  | primed {t : Transport} (h : t.state = .priming) : t.Reaches (enterRunning t)
  /-- A HALT takes effect (R16). -/
  | halted {t : Transport} (h : t.state = .running ∨ t.state = .priming) : t.Reaches t.enterHalted
  /-- The song is discarded (R12, R19). -/
  | idled (t : Transport) : t.Reaches t.enterIdle
  /-- A boundary pulses (R21). -/
  | pulsed {t : Transport} (h : t.moves = true) : t.Reaches t.pulse
  /-- The closure is left to the cycle start (R10, R13). -/
  | pending {t : Transport} (h : t.state = .defining) : t.Reaches { t with closePending := true }
  /-- A FREE base take closes with L = p (R7, R8, R11). -/
  | closed {t : Transport} (h : t.state = .defining) (hm : t.mode = .free) (hp : 4800 ≤ t.p) : t.Reaches (t.enterClosed t.p)
  /-- A cycle of the running song ends (R14). -/
  | wrapped {t : Transport} (h : t.state = .running) (hp : t.length = some t.p) :
    t.Reaches { t with p := 0, c := (t.c + 1) % 65536 }
  /-- A cycle of the GRID base take ends (R9). -/
  | recorded {t : Transport} (h : t.state = .defining) (hm : t.mode = .grid) (hn : t.cyclesRecorded + 1 ≠ 8)
    (hp : t.length = some t.p) :
    t.Reaches { t with p := 0, c := (t.c + 1) % 65536, cyclesRecorded := t.cyclesRecorded + 1 }
  /-- The last cycle of the GRID base take ends (R9, R11). -/
  | completed {t : Transport} (h : t.state = .defining) (hm : t.mode = .grid) :
    t.Reaches
      (Transport.enterClosed
        { t with p := 0, c := (t.c + 1) % 65536, cyclesRecorded := t.cyclesRecorded + 1 } t.cycleLength)
  /-- A beat start has been taken (R15). -/
  | beaten (t : Transport) : t.Reaches { t with beatDue := false }
  /-- A FREE base take begins (R5). -/
  | begun {t : Transport} (h : t.state = .idle) (hm : t.mode = .free) :
    t.Reaches
      { t with state := .defining, p := 0, c := 0, cyclesRecorded := 0, closePending := false, beatDue := false }
  /-- A GRID base take begins (R6). -/
  | gridBegun {t : Transport} (h : t.state = .idle) (hm : t.mode = .grid) :
    t.Reaches
      { t with
        state := .defining, p := 0, c := 0, cyclesRecorded := 0, closePending := false, beatDue := false
        length := some (t.beats * samplesPerBeat t.tempo) }
  /-- PLAY enters PRIMING (R17). -/
  | played {t : Transport} (h : t.state = .halted) : t.Reaches { t with state := .priming, p := 0, beatDue := false }

namespace Transport.Reaches

theorem of_eq {t u : Transport} (h : u = t) : t.Reaches u := h ▸ .refl t

/-- A way from a state with the same transport. -/
theorem of_same {t v : Transport} {u : State} (h : u.transport.Reaches v) (he : u.transport = t) : t.Reaches v := he ▸ h

/-- A fold of operations, each of which the transport follows. -/
theorem foldl {α : Type} {f : State → α → State} (hf : ∀ (s : State) (a : α), s.transport.Reaches (f s a).transport) (xs : List α)
    (s : State) : s.transport.Reaches (xs.foldl f s).transport := by
  induction xs generalizing s with
  | nil => exact .refl _
  | cons x xs ih => exact (hf s x).trans (ih _)

/-! ## Refills and layers -/

theorem primingCheck (s : State) : s.transport.Reaches (primingCheck s).transport := by
  rcases primingCheck_cases s with h | ⟨hp, h⟩ <;> rw [h]
  · exact .refl _
  · exact .primed hp

theorem landEntries (sl : Slot) (entries : List Entry) (s : State) :
    s.transport.Reaches (landEntries sl entries s).transport := by
  obtain ⟨b, h | ⟨hp, h⟩⟩ := landEntries_cases sl entries s <;> rw [h]
  · exact .refl _
  · exact .primed hp

theorem placeSilent (s : State) (sl : Slot) : s.transport.Reaches (placeSilent s sl).transport := by
  unfold Machine.placeSilent
  split
  · exact .landEntries _ _ _
  · exact .refl _

theorem raiseRefill (sl : Slot) (s : State) : s.transport.Reaches (raiseRefill sl s).transport :=
  (placeSilent s sl).trans (placeSilent _ sl)

theorem placeAll (s : State) : s.transport.Reaches (placeAll s).transport := foldl (fun u sl => raiseRefill sl u) _ s

theorem activate (sl : Slot) (s : State) : s.transport.Reaches (activate sl s).transport := by
  unfold Machine.activate
  exact of_same (raiseRefill _ _) (by simp)

theorem joinStack (sl : Slot) (s : State) : s.transport.Reaches (joinStack sl s).transport := by
  unfold Machine.joinStack
  exact of_same (activate _ _) (by simp)

theorem parkLayer (sl : Slot) (s : State) : s.transport.Reaches (parkLayer sl s).transport := by
  unfold Machine.parkLayer
  exact of_same (primingCheck _) (by simp)

/-! ## Takes -/

theorem finishTake (r : Recorder) (sl : Slot) (s : State) : s.transport.Reaches (finishTake r sl s).transport := by
  unfold Machine.finishTake
  simp only [resetRecorder_frame]
  exact of_same (joinStack _ _) (by simp)

theorem drainDone (r : Recorder) (s : State) : s.transport.Reaches (drainDone r s).transport := by
  unfold Machine.drainDone
  split
  · split
    · exact of_eq (by simp)
    · split
      · exact .refl _
      · split
        · exact .refl _
        · exact finishTake _ _ _
  · exact .refl _

theorem endTake (reason : EndReason) (s : State) (r : Recorder) : s.transport.Reaches (endTake reason s r).transport := by
  unfold Machine.endTake
  split
  · exact .refl _
  · split
    · exact of_eq (by simp)
    · exact of_same (drainDone _ _) (by simp)

theorem abortBase (r : Recorder) (s : State) : s.transport.Reaches (abortBase r s).transport := by
  have h : (Machine.abortBase r s).transport = s.transport.enterIdle := by simp [Machine.abortBase]
  exact h ▸ .idled _

theorem completeBounce (result : Slot) (s : State) : s.transport.Reaches (completeBounce result s).transport := by
  unfold Machine.completeBounce
  dsimp only
  refine .trans ?_ (primingCheck _)
  simp only [State.setJob_transport, reportBounceEnd_frame, activateResult]
  exact of_same (activate _ _) (by simp)

theorem writeChunk (ch : Chunk) (result : Slot) (s : State) : s.transport.Reaches (writeChunk ch result s).transport := by
  unfold Machine.writeChunk
  extract_lets values u j v
  have hu : u.transport = s.transport := by
    simp only [u]
    split <;> rfl
  have hv : v.transport = s.transport := hu
  split
  · exact of_same (completeBounce _ _) hv
  · exact of_eq (by rw [(setUpChunk_frame v).1, hv])

/-! ## Effects of cues -/

theorem applyUndo (s : State) : s.transport.Reaches (applyUndo s).transport := by
  unfold Machine.applyUndo
  split
  · split
    · exact .refl _
    · split
      · exact abortBase _ _
      · exact of_eq (by simp)
  · split
    · exact .refl _
    · exact parkLayer _ _

theorem applyRedo (s : State) : s.transport.Reaches (applyRedo s).transport := by
  unfold Machine.applyRedo
  split
  · exact .refl _
  · exact of_same (joinStack _ _) (by simp)

theorem takeHalt (s : State) (b : HaltBlock) : s.transport.Reaches (takeHalt s b).transport := by
  cases b with
  | cues => exact of_eq (by simp [Machine.takeHalt])
  | recorders => exact (of_eq (by simp)).trans (foldl (fun u r => endTake .halted u r) _ _)
  | bounce => exact of_eq (by simp [Machine.takeHalt])

theorem applyHalt (s : State) (h : s.transport.state = .running ∨ s.transport.state = .priming) :
    s.transport.Reaches (applyHalt s).transport := by
  unfold Machine.applyHalt
  dsimp only
  refine (Reaches.halted h).trans ((of_eq ?_).trans (foldl takeHalt _ _))
  simp

end Transport.Reaches

/-- A cue whose outcome is OK has passed the state test of R52. -/
theorem stateRefusal_of_ok {kind : CueKind} {p1 p2 : Byte} {s : State} (h : (cueResult kind p1 p2 s).1 = .ok) :
    stateRefusal kind s.transport = none := by
  unfold cueResult at h
  split at h
  · next code hr =>
    simp only at h
    subst h
    cases kind <;> simp [stateRefusal] at hr
  · assumption

/-- The state test of R52 lets a HALT take effect in RUNNING and PRIMING alone. -/
theorem halt_state_of_ok {p1 p2 : Byte} {s : State} (h : (cueResult .halt p1 p2 s).1 = .ok) :
    s.transport.state = .running ∨ s.transport.state = .priming := by
  by_contra hn
  have hs : ¬(s.transport.state = .priming ∨ s.transport.state = .running) := fun h => hn h.symm
  simpa [stateRefusal, hs] using stateRefusal_of_ok h

/-- The state test of R52 lets a base take begin in IDLE alone. -/
theorem startBase_state_of_ok {p1 p2 : Byte} {s : State} (h : (cueResult .startBase p1 p2 s).1 = .ok) :
    s.transport.state = .idle := by
  by_contra hs
  simpa [stateRefusal, hs] using stateRefusal_of_ok h

/-- The state test of R52 lets PLAY take effect in HALTED alone. -/
theorem play_state_of_ok {p1 p2 : Byte} {s : State} (h : (cueResult .play p1 p2 s).1 = .ok) :
    s.transport.state = .halted := by
  by_contra hs
  simpa [stateRefusal, hs] using stateRefusal_of_ok h

/-- The state test of R52 lets a take begin only while the playhead moves. -/
theorem startTake_moves_of_ok {p1 p2 : Byte} {s : State} (h : (cueResult .startTake p1 p2 s).1 = .ok) :
    s.transport.moves = true := by
  by_contra hs
  simpa [stateRefusal, hs] using stateRefusal_of_ok h

/-- A CLOSE_BASE whose outcome is OK finds DEFINING, and in FREE mode 4,800 samples or more (R8, R10). -/
theorem closeBase_of_ok {p1 p2 : Byte} {s : State} (h : (cueResult .closeBase p1 p2 s).1 = .ok) :
    s.transport.state = .defining ∧ (s.transport.mode = .free → 4800 ≤ s.transport.p) := by
  have hs : s.transport.state = .defining := by
    by_contra hs
    simpa [stateRefusal, hs] using stateRefusal_of_ok h
  refine ⟨hs, fun hm => ?_⟩
  by_contra hp
  simp [cueResult, stateRefusal, hs, hm, Nat.lt_of_not_le hp] at h

namespace Transport.Reaches

theorem applyQueued (kind : CueKind) (p1 p2 p3 : Byte) (s : State)
    (h : kind = .halt → s.transport.state = .running ∨ s.transport.state = .priming) :
    s.transport.Reaches (applyQueued kind p1 p2 p3 s).transport := by
  cases kind with
  | startTake => exact of_eq (by simp [Machine.applyQueued])
  | stopTake =>
    unfold Machine.applyQueued
    dsimp only
    split
    · exact .refl _
    · exact endTake _ _ _
  | mute => exact of_eq (by simp [Machine.applyQueued])
  | unmute => exact of_eq (by simp [Machine.applyQueued])
  | undo => exact applyUndo s
  | redo => exact applyRedo s
  | halt => exact applyHalt s (h rfl)
  | startBase => exact .refl _
  | closeBase => exact .refl _
  | play => exact .refl _

theorem fireEntry (e : CueEntry) (s : State) : s.transport.Reaches (fireEntry e s).transport := by
  unfold Machine.fireEntry
  dsimp only
  split
  · next hok =>
    refine of_same (applyQueued _ _ _ _ _ fun hk => ?_) (by simp)
    rw [hk] at hok
    simpa using halt_state_of_ok hok
  · exact of_eq (by simp)

theorem walkCycle (b : Boundary) (kept rest : List CueEntry) (s : State) :
    s.transport.Reaches (walkCycle b kept rest s).transport := by
  induction rest generalizing kept s with
  | nil => exact .refl _
  | cons e rest ih =>
    unfold Machine.walkCycle
    split
    · have hfire := of_same (fireEntry e (s.setCues { s.cues with cycle := kept ++ rest })) rfl
      dsimp only
      split
      · exact hfire
      · exact hfire.trans (ih _ _)
    · exact ih _ _

theorem fireBeats (rest : List CueEntry) (s : State) : s.transport.Reaches (fireBeats rest s).transport := by
  induction rest generalizing s with
  | nil => exact .refl _
  | cons e rest ih =>
    unfold Machine.fireBeats
    have hfire := of_same (fireEntry e (s.setCues { s.cues with beat := rest })) rfl
    dsimp only
    split
    · exact hfire
    · exact hfire.trans (ih _)

theorem cuesTake (b : Boundary) (s : State) : s.transport.Reaches (cuesTake b s).transport := by
  unfold Machine.cuesTake
  dsimp only
  split
  · exact (walkCycle _ _ _ _).trans (fireBeats _ _)
  · exact fireBeats _ _

theorem takeBoundary (b : Boundary) (s : State) (x : Receiver) : s.transport.Reaches (takeBoundary b s x).transport := by
  cases x with
  | link => exact of_eq (by simp [Machine.takeBoundary])
  | cues => exact cuesTake b s

theorem pulseAt (beat : Nat) (s : State) (h : s.transport.moves = true) : s.transport.Reaches (pulseAt beat s).transport := by
  unfold Machine.pulseAt
  split
  · exact .refl _
  · split
    · exact .pulsed h
    · exact .refl _
  · exact .pulsed h

theorem raiseBoundary (beat : Nat) (free : Bool) (skip : Option Slot) (s : State) (h : s.transport.moves = true) :
    s.transport.Reaches (raiseBoundary beat free skip s).transport := by
  unfold Machine.raiseBoundary
  extract_lets b u v order
  have hu : (startBurst beat u).transport = s.transport := by
    simp only [startBurst_frame, u]
    split <;> simp
  have hv : s.transport.Reaches v.transport := hu ▸ pulseAt beat (startBurst beat u) (by rwa [hu])
  have ho : order.2.transport = v.transport := by simp [order]
  exact hv.trans (of_same (foldl (takeBoundary b) order.1 order.2) ho)

/-! ## Closure, wrap and beat -/

theorem closure {t : Transport} (multiple length : Nat) (s : State) (h : t.Reaches (s.transport.enterClosed length)) :
    t.Reaches (closure multiple length s).transport := by
  have hmoves : (s.transport.enterClosed length).moves = true := rfl
  unfold Machine.closure
  dsimp only
  split
  · exact h.trans (of_same (raiseBoundary _ _ _ _ hmoves) rfl)
  · split
    · exact h.trans (of_same (raiseBoundary _ _ _ _ hmoves) rfl)
    · exact h.trans (of_same (raiseBoundary _ _ _ _ (by simpa using hmoves)) (by simp))

theorem wrapCycle (s : State) (hdue : cycleStartDue s = true) : s.transport.Reaches (wrapCycle s).transport := by
  have h : s.transport.moves = true := moves_of_cycleStartDue s hdue
  have hp : s.transport.length = some s.transport.p := beq_iff_eq.mp (Bool.and_eq_true_iff.mp hdue).2
  unfold Machine.wrapCycle
  dsimp only
  split
  · next hd =>
    have hm : s.transport.mode = .grid := by simpa [Transport.moves, hd] using h
    split
    · exact closure _ _ _ (.completed hd hm)
    · next hn =>
      refine (recorded hd hm (fun h8 => hn (.inr h8)) hp).trans (of_same (raiseBoundary _ _ _ _ ?_) rfl)
      simpa [Transport.moves] using h
  · next hd =>
    have hr : s.transport.state = .running := by simpa [Transport.moves, hd] using h
    refine (wrapped hr hp).trans (of_same (raiseBoundary _ _ _ _ ?_) rfl)
    simpa [Transport.moves] using h

theorem takeBeat (s : State) (h : s.transport.moves = true) : s.transport.Reaches (takeBeat s).transport := by
  unfold Machine.takeBeat
  refine (beaten _).trans (of_same (raiseBoundary _ _ _ _ ?_) rfl)
  exact h

/-! ## The other cues -/

theorem applyStartBase (p1 : Byte) (s : State) (h : s.transport.state = .idle) :
    s.transport.Reaches (applyStartBase p1 s).transport := by
  unfold Machine.applyStartBase
  extract_lets grid u v old t
  have ht : old = s.transport := by simp [old, v, u]
  split
  · next hg =>
    have hm : s.transport.mode = .grid := by simpa [grid] using hg
    refine (gridBegun h hm).trans (of_same (raiseBoundary _ _ _ _ ?_) ?_)
    · simp [Transport.moves, t, ht, hm]
    · simp [t, ht]
  · next hg =>
    have hm : s.transport.mode = .free := by
      cases hm : s.transport.mode <;> simp [grid, hm] at hg ⊢
    refine (begun h hm).trans (of_eq ?_)
    simp [t, ht]

theorem applyCloseBase (s : State) (h : s.transport.state = .defining) (hp : s.transport.mode = .free → 4800 ≤ s.transport.p) :
    s.transport.Reaches (applyCloseBase s).transport := by
  unfold Machine.applyCloseBase
  split
  · next hm => exact closure _ _ _ (.closed h hm (hp hm))
  · exact .pending h

theorem applyPlay (s : State) (h : s.transport.state = .halted) : s.transport.Reaches (applyPlay s).transport := by
  unfold Machine.applyPlay
  exact (played h).trans (of_same ((placeAll _).trans (primingCheck _)) rfl)

theorem applyCue (kind : CueKind) (p1 p2 p3 : Byte) (s : State) (h : (cueResult kind p1 p2 s).1 = .ok) :
    s.transport.Reaches (applyCue kind p1 p2 p3 s).transport := by
  cases kind with
  | startBase => exact applyStartBase p1 s (startBase_state_of_ok h)
  | closeBase => exact applyCloseBase s (closeBase_of_ok h).1 (closeBase_of_ok h).2
  | play => exact applyPlay s (play_state_of_ok h)
  | halt => exact applyQueued _ _ _ _ s fun _ => halt_state_of_ok h
  | startTake => exact applyQueued _ _ _ _ s nofun
  | stopTake => exact applyQueued _ _ _ _ s nofun
  | mute => exact applyQueued _ _ _ _ s nofun
  | unmute => exact applyQueued _ _ _ _ s nofun
  | undo => exact applyQueued _ _ _ _ s nofun
  | redo => exact applyQueued _ _ _ _ s nofun

/-! ## Completions and the sample clock -/

theorem completeDrain (r : Recorder) (n : Nat) (s : State) : s.transport.Reaches (completeDrain r n s).transport := by
  unfold Machine.completeDrain
  extract_lets q u v
  refine of_same (drainDone _ _) ?_
  simp only [releasePort_frame, v, State.setRecorder_transport, u]
  split <;> rfl

theorem completeRefill (sl : Slot) (entries : List Entry) (s : State) :
    s.transport.Reaches (completeRefill sl entries s).transport := by
  unfold Machine.completeRefill
  exact of_same ((landEntries _ _ _).trans (raiseRefill _ _)) (by simp)

theorem completeWrite (s : State) : s.transport.Reaches (completeWrite s).transport := by
  unfold Machine.completeWrite
  dsimp only
  split
  · exact of_same (writeChunk _ _ _) (by simp)
  · exact of_eq (by simp)

theorem complete (x : Transfer) (s : State) : s.transport.Reaches (complete x s).transport := by
  unfold Machine.complete
  split
  · exact completeDrain _ _ s
  · exact completeRefill _ _ s
  · exact of_eq (by simp)
  · exact completeWrite s

theorem decidePort (s : State) : s.transport.Reaches (decidePort s).transport := by
  unfold Machine.decidePort
  exact (placeAll s).trans (of_eq (by simp))

theorem selfClose (s : State) (h : selfCloseDue s = true) : s.transport.Reaches (selfClose s).transport := by
  simp only [selfCloseDue, Transport.freeDefining, Bool.and_eq_true, beq_iff_eq, decide_eq_true_eq] at h
  obtain ⟨⟨hd, hm⟩, hp⟩ := h
  have hc := closed hd hm (by omega)
  rw [hp] at hc
  exact closure _ _ _ hc

theorem autoStart (n : Lane) (s : State) : s.transport.Reaches (autoStart n s).transport := by
  unfold Machine.autoStart
  dsimp only
  split
  · next hok =>
    refine of_same (applyStartBase _ _ ?_) (by simp)
    simpa using startBase_state_of_ok hok
  · exact of_eq (by simp)

theorem endWindow (n : Lane) (s : State) : s.transport.Reaches (endWindow n s).transport := by
  unfold Machine.endWindow
  dsimp only
  split
  · exact of_same (autoStart _ _) (by simp)
  · exact of_eq (by simp)

theorem exhaustFree (s : State) : s.transport.Reaches (exhaustFree s).transport := by
  unfold Machine.exhaustFree
  split
  · next hf =>
    have hf : s.transport.state = .defining ∧ s.transport.mode = .free := by simpa [Transport.freeDefining] using hf
    split
    · exact .refl _
    · split
      · exact .refl _
      · split
        · exact .refl _
        · dsimp only
          split
          · next hp =>
            simp only [exhaustRecorder_frame] at hp ⊢
            refine closure _ _ _ ?_
            simpa using closed hf.1 hf.2 hp
          · exact of_same (abortBase _ _) (by simp)
  · exact .refl _

end Transport.Reaches

end Sys2Proof.Machine
end

section
/-! The port's counts and the pulse in their bounds. -/

namespace Sys2Proof.Machine

/-! ## The pulse -/

/-- The pulse of a transport is sound: `pulseSound` of the states with this transport. -/
def Transport.pulseOk (t : Transport) : Prop :=
  t.pulseRemaining ≤ 480 ∧ (0 < t.pulseRemaining → t.pin = true) ∧ (t.pin = true → t.moves = true)

/-- A pulse that is low with no count left is sound in every state. -/
theorem Transport.pulseOk_of_low {t : Transport} (hp : t.pin = false) (hr : t.pulseRemaining = 0) : t.pulseOk := by
  simp [pulseOk, hp, hr]

/-- With the pulse unchanged, a transport that moves wherever the old one did is as sound. -/
theorem Transport.pulseOk.moved {t u : Transport} (h : t.pulseOk) (hp : u.pin = t.pin) (hr : u.pulseRemaining = t.pulseRemaining)
    (hm : t.moves = true → u.moves = true) : u.pulseOk := by
  obtain ⟨hcount, hpin, hmoves⟩ := h
  unfold pulseOk
  rw [hp, hr]
  exact ⟨hcount, hpin, fun h => hm (hmoves h)⟩

/-- Every way of the transport keeps its pulse sound: a pulse starts where the playhead moves, and falls where it stops. -/
theorem Transport.Reaches.pulseOk {t u : Transport} (hr : t.Reaches u) (h : t.pulseOk) : u.pulseOk := by
  induction hr with
  | refl => exact h
  | trans _ _ ih1 ih2 => exact ih2 (ih1 h)
  | primed =>
    obtain ⟨hcount, hpin, -⟩ := h
    unfold Transport.pulseOk enterRunning
    split
    · exact ⟨hcount, hpin, fun _ => rfl⟩
    · exact ⟨le_refl _, fun _ => rfl, fun _ => rfl⟩
  | halted => exact Transport.pulseOk_of_low rfl rfl
  | idled => exact Transport.pulseOk_of_low rfl rfl
  | pulsed hm => exact ⟨le_refl _, fun _ => rfl, fun _ => hm⟩
  | pending => exact h.moved rfl rfl id
  | closed => exact h.moved rfl rfl fun _ => rfl
  | wrapped => exact h.moved rfl rfl id
  | recorded => exact h.moved rfl rfl id
  | completed => exact h.moved rfl rfl fun _ => rfl
  | beaten => exact h.moved rfl rfl id
  | begun hi => exact h.moved rfl rfl fun hm => by simp [Transport.moves, hi] at hm
  | gridBegun hi => exact h.moved rfl rfl fun hm => by simp [Transport.moves, hi] at hm
  | played hh => exact h.moved rfl rfl fun hm => by simp [Transport.moves, hh] at hm

theorem pulseSound_of_reaches {s t : State} (h : pulseSound s) (hr : s.transport.Reaches t.transport) : pulseSound t :=
  hr.pulseOk h

theorem pulseSound_of_same {s t : State} (h : pulseSound s) (he : t.transport = s.transport) : pulseSound t :=
  pulseSound_of_reaches h (.of_eq he)

theorem pulseSound_recordSample (value : Lane → Int) (s : State) (r : Recorder) (h : pulseSound s) :
    pulseSound (recordSample value s r) := by
  unfold recordSample
  split
  · dsimp only
    split
    · split
      · exact pulseSound_of_same h (by simp [acquirePage_frame _ _ _ ‹_›])
      · split
        · refine Transport.pulseOk.moved h ?_ ?_ ?_ <;> simp [exhaustGrid, Transport.moves]
        · exact pulseSound_of_reaches h (.endTake _ _ _)
    · exact pulseSound_of_same h (by simp)
  · exact h

/-- The counting of the pulse keeps it sound: the pin stays high until its end is taken. -/
theorem pulseSound_countPulse (s : State) (h : pulseSound s) : pulseSound (countPulse s) := by
  obtain ⟨hcount, hpin, hmoves⟩ := h
  refine ⟨?_, fun hpos => hpin ?_, hmoves⟩ <;> simp only [countPulse, State.setTransport_transport] at *
  · omega
  · omega

theorem pulseSound_advancePlayhead (s : State) (h : pulseSound s) : pulseSound (advancePlayhead s) := by
  unfold advancePlayhead
  repeat' split
  · exact Transport.pulseOk.moved h rfl rfl id
  · exact Transport.pulseOk.moved h rfl rfl id
  · exact h

theorem pulseSound_tick (x : Lane → Int) (s : State) (h : pulseSound s) : pulseSound (tick x s) := by
  unfold tick
  extract_lets r a b c d e f g
  have hb : pulseSound b := pulseSound_of_reaches (pulseSound_of_same h (by simp [a])) (.exhaustFree a)
  have hd : pulseSound c := by
    refine KeptByEvents.foldl (fun u q hu => pulseSound_recordSample r u q hu) _ _ ?_
    exact pulseSound_of_same hb (by simp)
  have hg : pulseSound g := by
    refine pulseSound_advancePlayhead _ (pulseSound_countPulse _ (pulseSound_of_same hd ?_))
    simp [e, d]
  exact pulseSound_of_same (pulseSound_of_reaches hg (.placeAll g)) (by simp)

/-! ## Requests -/

/-- The outcome of a cue does not depend on the link. -/
@[simp] theorem cueResult_setLink (kind : CueKind) (p1 p2 : Byte) (s : State) (x : Link) :
    cueResult kind p1 p2 (s.setLink x) = cueResult kind p1 p2 s := rfl

theorem pulseSound_cueNow (q : Cue) (kind : CueKind) (s : State) (h : pulseSound s) : pulseSound (cueNow q kind s) := by
  unfold cueNow
  dsimp only
  split
  · next hok => exact pulseSound_of_reaches h (.of_same (.applyCue _ _ _ _ _ hok) rfl)
  · exact pulseSound_of_same h (by simp)

theorem pulseSound_doGridSetup (q : GridSetup) (s : State) (h : pulseSound s) : pulseSound (doGridSetup q s) := by
  unfold doGridSetup
  split
  · split
    · next hi => exact Transport.pulseOk.moved h rfl rfl fun hm => by simp [Transport.moves, hi] at hm
    · exact pulseSound_of_same h (by simp)
  · exact pulseSound_of_same h (by simp)

/-- A change of the pulse mode to OFF drops the pulse, any other leaves it. -/
theorem Transport.pulseOk_setPulseMode (t : Transport) (m : PulseMode) (h : t.pulseOk) : (t.setPulseMode m).pulseOk := by
  unfold setPulseMode
  split
  · exact pulseOk_of_low rfl rfl
  · exact h.moved rfl rfl id

theorem pulseSound_doOutputSetup (q : OutputSetup) (s : State) (h : pulseSound s) : pulseSound (doOutputSetup q s) := by
  unfold doOutputSetup
  split
  · show Transport.pulseOk _
    simp only [reply_frame, outputAfter, State.setLink_transport, State.setTransport_transport, State.setMix_transport, ifNamed]
    split
    · exact Transport.pulseOk_setPulseMode _ _ h
    · exact h
  · exact pulseSound_of_same h (by simp)

theorem pulseSound_handle (q : Request) (s : State) (h : pulseSound s) : pulseSound (handle q s) := by
  cases q with
  | cue q =>
    simp only [handle, doCue]
    split
    · exact pulseSound_of_same h (by simp)
    · exact pulseSound_cueNow _ _ _ h
    · exact pulseSound_of_same h (by simp)
  | gridSetup q => exact pulseSound_doGridSetup q s h
  | outputSetup q => exact pulseSound_doOutputSetup q s h
  | clear => exact Transport.pulseOk_of_low rfl rfl
  | hello => exact pulseSound_of_same h (by simp [handle])
  | laneSetup => exact pulseSound_of_same h (by simp [handle])
  | layerSetup => exact pulseSound_of_same h (by simp [handle])
  | bounce => exact pulseSound_of_same h (by simp [handle])
  | flush => exact pulseSound_of_same h (by simp [handle])
  | query => exact pulseSound_of_same h (by simp [handle])
  | restart => exact pulseSound_of_same h (by simp [handle])
  | rest => exact pulseSound_of_same h (by simp [handle])
  | badLength => exact pulseSound_of_same h (by simp [handle])
  | unknownKind => exact pulseSound_of_same h (by simp [handle])

theorem pulseSound_powerOn (cause : WakeCause) (s : State) : pulseSound (powerOn cause s) :=
  Transport.pulseOk_of_low rfl rfl

theorem pulseSound_finishFrame (s : State) (h : pulseSound s) : pulseSound (finishFrame s) := by
  unfold finishFrame
  split
  · dsimp only
    split
    · exact pulseSound_powerOn _ _
    · split
      · exact pulseSound_of_same h (by simp)
      · exact h
  · exact h

/-- Every event keeps the pulse sound; a pulse that ends has no count left. -/
theorem pulseSound_kept : KeptByEvents pulseSound where
  pending _ _ h := h
  takeFull _ _ _ h := pulseSound_of_reaches h (.endTake _ _ _)
  pulseEnd s hd h := by
    simp only [pulseEndDue, Bool.and_eq_true, decide_eq_true_eq] at hd
    exact Transport.pulseOk_of_low rfl hd.2
  clickEnd _ h := h
  selfClose s hd h := pulseSound_of_reaches h (.selfClose s hd)
  windowEnd _ _ _ h := pulseSound_of_reaches h (.endWindow _ _)
  cycleStart s hd h := pulseSound_of_reaches h (.wrapCycle s hd)
  beat s hd h := pulseSound_of_reaches h (.takeBeat s (moves_of_beatDue s hd))
  complete _ _ _ h := pulseSound_of_reaches h (.complete _ _)
  decidePort _ h := pulseSound_of_reaches h (.decidePort _)
  startFrame _ h := pulseSound_of_same h (by simp)
  pop _ h := h
  handle q s _ _ h := pulseSound_handle q s h
  window _ h := h
  byte _ _ _ h := pulseSound_of_same h (by simp)
  gap _ h := pulseSound_of_same h (by simp)
  sent s h := pulseSound_finishFrame s h
  hold _ _ h := h
  nrstLow _ _ := Transport.pulseOk_of_low rfl rfl
  powerOn cause s _ := pulseSound_powerOn cause s
  probe _ _ _ h := h
  awake _ h := pulseSound_of_same h (by simp)
  wake _ _ h := h
  startWake _ _ _ _ h := h
  falseWake _ _ h := h

/-- Settles O5, by the induction over a step: for the port the counts that each event leaves, for the pulse the ways of the transport. -/
theorem stepKeepsPortAndPulseBounded : Obligations.StepKeepsPortAndPulseBounded :=
  ⟨portBounded_kept.step fun _ s h _ => portBounded_tick _ _ (portBounded_kept.windowStart _ (portBounded_kept.settle s h)),
    pulseSound_kept.step fun _ s h _ => pulseSound_tick _ _ (pulseSound_kept.windowStart _ (pulseSound_kept.settle s h))⟩

end Sys2Proof.Machine
end

section
/-! SUPPORT. The refills of the model in the words of the statements: `State.withEntriesLanded`, `State.withRefillPlaced` and the others of
that kind. -/

namespace Sys2Proof.Machine

/-! ## The end of PRIMING -/

theorem primingCheck_eq (s : State) : primingCheck s = s.withPrimingEnded := by
  unfold primingCheck State.withPrimingEnded
  simp only [List.all_eq_true]
  rfl

/-! ## Entries that land -/

/-- No more entries are stale than there are. -/
theorem drop_min_length {α : Type} (xs : List α) (n : Nat) : xs.drop (min xs.length n) = xs.drop n := by
  rcases le_total xs.length n with h | h
  · rw [min_eq_left h, List.drop_length, List.drop_eq_nil_of_le h]
  · rw [min_eq_right h]

/-- The stale entries leave the buffer (R122). -/
theorem drop_staleCount (s : State) (sl : Slot) (entries : List Entry) :
    entries.drop (staleCount s (s.layer sl) entries) =
      entries.drop
        (match entries.head? with
        | none => 0
        | some f =>
          (s.presentIndex sl + (s.layer sl).multiple * s.transport.length.getD 0 -
              f.index % ((s.layer sl).multiple * s.transport.length.getD 0)) %
            ((s.layer sl).multiple * s.transport.length.getD 0)) := by
  unfold staleCount
  cases entries.head? with
  | none => rfl
  | some f => exact drop_min_length _ _

theorem bne_nil_eq_decide {α : Type} [DecidableEq α] (xs : List α) : (xs != []) = decide (xs ≠ []) := by
  cases xs <;> simp

theorem landEntries_some (sl : Slot) (entries : List Entry) (s : State) (b : Stream) (hb : s.buffer sl = some b) :
    landEntries sl entries s =
      primingCheck (s.setBuffer sl (some
        { b with
          entries := (b.entries ++ entries).drop (staleCount s (s.layer sl) (b.entries ++ entries))
          primed := b.primed || (b.entries ++ entries).drop (staleCount s (s.layer sl) (b.entries ++ entries)) != [] })) := by
  unfold landEntries
  rw [hb]

theorem landEntries_eq (sl : Slot) (entries : List Entry) (s : State) (b : Stream) (hb : s.buffer sl = some b) :
    landEntries sl entries s = s.withEntriesLanded sl b entries := by
  unfold State.withEntriesLanded
  rw [landEntries_some sl entries s b hb]
  simp only [primingCheck_eq, drop_staleCount, bne_nil_eq_decide]
  rfl

theorem landEntries_none (sl : Slot) (entries : List Entry) (s : State) (hb : s.buffer sl = none) :
    landEntries sl entries s = s := by
  unfold landEntries
  rw [hb]

/-! ## Refills -/

theorem refillEntries_eq (s : State) (sl : Slot) (b : Stream) : refillEntries s sl b = s.nextRefill sl b := by
  unfold refillEntries State.nextRefill State.refillFrom refillStart entryAt
  cases b.entries.getLast? <;> rfl

theorem piecesOf_eq_nil_iff (xs : List (Nat × Nat)) : piecesOf xs = [] ↔ xs = [] := by
  cases xs with
  | nil => simp [piecesOf]
  | cons x xs =>
    obtain ⟨i, o⟩ := x
    simp only [piecesOf, reduceCtorEq, iff_false]
    repeat' split
    all_goals simp

/-- A refill has nothing to read exactly where each entry is SILENT or served from a FIFO (R121). -/
theorem refillReads_eq_zero_iff (s : State) (sl : Slot) (entries : List Entry) :
    refillReads s sl entries = 0 ↔ ∀ e ∈ entries, e.value = none ∨ fromFifo s sl e.offset = true := by
  unfold refillReads
  rw [List.length_eq_zero_iff, piecesOf_eq_nil_iff, List.filterMap_eq_nil_iff]
  have hz : ∀ e, (∃ n, (e, n) ∈ entries.zipIdx) ↔ e ∈ entries := by
    intro e
    rw [List.mem_iff_getElem?]
    simp only [List.mk_mem_zipIdx_iff_getElem?]
  constructor
  · intro h e he
    obtain ⟨n, hn⟩ := (hz e).mpr he
    have := h (e, n) hn
    cases hv : e.value <;> cases hf : fromFifo s sl e.offset <;> simp_all
  · intro h x hx
    have := h x.1 ((hz x.1).mp ⟨x.2, hx⟩)
    rcases this with hv | hf
    · simp [hv]
    · simp [hf]

theorem streams_iff (t : Transport) : t.streams = true ↔ t.state ≠ .idle ∧ t.state ≠ .halted := by
  unfold Transport.streams
  cases t.state <;> decide

theorem placeSilent_eq (s : State) (sl : Slot) : placeSilent s sl = s.withRefillPlaced sl := by
  unfold placeSilent State.withRefillPlaced refillPending composedEntries
  cases hb : s.buffer sl with
  | none => simp
  | some b =>
    simp only [Bool.and_eq_true, beq_iff_eq, decide_eq_true_eq, Bool.not_eq_true', streams_iff, refillReads_eq_zero_iff,
      refillEntries_eq, landEntries_eq sl _ s b hb, and_assoc]

theorem raiseRefill_eq (sl : Slot) (s : State) : raiseRefill sl s = s.withRefillRaised sl := by
  unfold raiseRefill State.withRefillRaised
  rw [placeSilent_eq, placeSilent_eq]

theorem placeAll_eq (s : State) : placeAll s = s.withRefillsRaised := by
  unfold placeAll State.withRefillsRaised
  simp only [raiseRefill_eq]

/-! ## Updates beside the refills -/

/-- An update of parts that the refills and the end of PRIMING neither read nor write, but for what the FIFO of a tail drain serves. -/
structure BesideRefills (g : State → State) : Prop where
  transport : ∀ s, (g s).transport = s.transport
  layer : ∀ s sl, (g s).layer sl = s.layer sl
  buffer : ∀ s sl, (g s).buffer sl = s.buffer sl
  setTransport : ∀ s x, g (s.setTransport x) = (g s).setTransport x
  setBuffer : ∀ s sl x, g (s.setBuffer sl x) = (g s).setBuffer sl x

/-- Layer `sl` reads the same behind `g`. -/
def ReadsAgree (g : State → State) (s : State) (sl : Slot) : Prop :=
  ∀ o, readOffset (g s) sl o = readOffset s sl o ∧ fromFifo (g s) sl o = fromFifo s sl o

theorem BesideRefills.primingCheck {g : State → State} (hg : BesideRefills g) (s : State) :
    primingCheck (g s) = g (primingCheck s) := by
  have hp : primedFor (g s) = primedFor s := funext fun sl => by
    unfold primedFor
    rw [hg.layer, hg.buffer]
  unfold Machine.primingCheck
  rw [hp, hg.transport, apply_ite g, hg.setTransport]

theorem BesideRefills.landEntries {g : State → State} (hg : BesideRefills g) (sl : Slot) (entries : List Entry) (s : State) :
    landEntries sl entries (g s) = g (landEntries sl entries s) := by
  cases hb : s.buffer sl with
  | none => rw [landEntries_none _ _ _ hb, landEntries_none _ _ _ ((hg.buffer s sl).trans hb)]
  | some b =>
    have hstale : ∀ es, staleCount (g s) (s.layer sl) es = staleCount s (s.layer sl) es := fun es => by
      unfold staleCount nextIndex timeline
      rw [hg.transport]
    rw [landEntries_some _ _ _ b hb, landEntries_some _ _ _ b ((hg.buffer s sl).trans hb), hg.layer, hstale, ← hg.setBuffer,
      hg.primingCheck]

theorem BesideRefills.placeSilent {g : State → State} (hg : BesideRefills g) (s : State) (sl : Slot) (h : ReadsAgree g s sl) :
    placeSilent (g s) sl = g (placeSilent s sl) := by
  have hentries : composedEntries (g s) sl = composedEntries s sl := by
    unfold composedEntries refillEntries entryAt refillStart nextIndex offsetOf timeline
    simp only [hg.transport, hg.layer, hg.buffer, (h _).1]
  have hreads : ∀ es, refillReads (g s) sl es = refillReads s sl es := fun es => by
    unfold refillReads
    simp only [(h _).2]
  have hpending : refillPending (g s) sl = refillPending s sl := by
    unfold refillPending
    rw [hg.transport, hg.layer, hg.buffer]
  unfold Machine.placeSilent
  rw [hentries, hreads, hpending, hg.landEntries, apply_ite g]

theorem BesideRefills.raiseRefill {g : State → State} (hg : BesideRefills g) (s : State) (sl : Slot) (h : ReadsAgree g s sl)
    (h' : ReadsAgree g (Machine.placeSilent s sl) sl) : raiseRefill sl (g s) = g (raiseRefill sl s) := by
  unfold Machine.raiseRefill
  rw [hg.placeSilent s sl h, hg.placeSilent _ sl h']

theorem BesideRefills.placeAll {g : State → State} (hg : BesideRefills g) (h : ∀ s sl, ReadsAgree g s sl) (s : State) :
    placeAll (g s) = g (placeAll s) := by
  unfold Machine.placeAll
  induction slotNumbers generalizing s with
  | nil => rfl
  | cons sl rest ih => rw [List.foldl_cons, List.foldl_cons, hg.raiseRefill s sl (h s sl) (h _ sl), ih]

/-! ## The link apart from the rest -/

@[simp] theorem State.setLink_setTransport (s : State) (l : Link) (x : Transport) :
    (s.setLink l).setTransport x = (s.setTransport x).setLink l := rfl
@[simp] theorem State.setLink_setTable (s : State) (l : Link) (x : LayerTable) :
    (s.setLink l).setTable x = (s.setTable x).setLink l := rfl
@[simp] theorem State.setLink_setCues (s : State) (l : Link) (x : CueQueues) :
    (s.setLink l).setCues x = (s.setCues x).setLink l := rfl
@[simp] theorem State.setLink_setLanes (s : State) (l : Link) (x : Vector LaneRec 4) :
    (s.setLink l).setLanes x = (s.setLanes x).setLink l := rfl
@[simp] theorem State.setLink_setTakes (s : State) (l : Link) (x : Recorders) :
    (s.setLink l).setTakes x = (s.setTakes x).setLink l := rfl
@[simp] theorem State.setLink_setStore (s : State) (l : Link) (x : LoopStore) :
    (s.setLink l).setStore x = (s.setStore x).setLink l := rfl
@[simp] theorem State.setLink_setMem (s : State) (l : Link) (x : List Host.Cell) :
    (s.setLink l).setMem x = (s.setMem x).setLink l := rfl
@[simp] theorem State.setLink_setMix (s : State) (l : Link) (x : Mix) :
    (s.setLink l).setMix x = (s.setMix x).setLink l := rfl
@[simp] theorem State.setLink_setJob (s : State) (l : Link) (x : Job) :
    (s.setLink l).setJob x = (s.setJob x).setLink l := rfl
@[simp] theorem State.setLink_setRest (s : State) (l : Link) (x : RestControl) :
    (s.setLink l).setRest x = (s.setRest x).setLink l := rfl
@[simp] theorem State.setLink_setOpenOrders (s : State) (l : Link) (x : Nat) :
    (s.setLink l).setOpenOrders x = (s.setOpenOrders x).setLink l := rfl
@[simp] theorem State.setLink_setPending (s : State) (l : Link) (x : List Instr) :
    (s.setLink l).setPending x = (s.setPending x).setLink l := rfl
@[simp] theorem State.setLink_setLayer (s : State) (l : Link) (sl : Slot) (x : LayerRec) :
    (s.setLink l).setLayer sl x = (s.setLayer sl x).setLink l := rfl
@[simp] theorem State.setLink_setLane (s : State) (l : Link) (n : Lane) (x : LaneRec) :
    (s.setLink l).setLane n x = (s.setLane n x).setLink l := rfl
@[simp] theorem State.setLink_setRecorder (s : State) (l : Link) (r : Recorder) (x : RecorderRec) :
    (s.setLink l).setRecorder r x = (s.setRecorder r x).setLink l := rfl
@[simp] theorem State.setLink_setBuffer (s : State) (l : Link) (sl : Slot) (x : Option Stream) :
    (s.setLink l).setBuffer sl x = (s.setBuffer sl x).setLink l := rfl
@[simp] theorem State.setLink_setLink (s : State) (l x : Link) : (s.setLink l).setLink x = s.setLink x := rfl

/-- The link with these frames at the end of its outgoing queue. -/
def Link.queued (l : Link) (ms : List Message) : Link := { l with outQ := l.outQ ++ ms }

/-- The link after a report. -/
def Link.reported (l : Link) (room : Nat) (m : Message) : Link :=
  if l.outQ.length < room then l.queued [m] else { l with omitted := min 255 (l.omitted + 1) }

theorem State.queued_eq (s : State) (ms : List Message) : s.queued ms = s.setLink (s.link.queued ms) := rfl

theorem State.reported_eq (s : State) (room : Nat) (m : Message) : s.reported room m = s.setLink (s.link.reported room m) := by
  unfold State.reported Link.reported
  split <;> rfl

/-- An operation that neither reads nor writes the link. -/
structure LinkFree (f : State → State) : Prop where
  comm : ∀ s l, f (s.setLink l) = (f s).setLink l
  link : ∀ s, (f s).link = s.link

/-- Such an operation may as well come before a reply. -/
theorem LinkFree.queued {f : State → State} (h : LinkFree f) (s : State) (ms : List Message) :
    f (s.queued ms) = (f s).queued ms := by
  rw [State.queued_eq, State.queued_eq, h.comm, h.link]

/-- Such an operation may as well come before a report. -/
theorem LinkFree.reported {f : State → State} (h : LinkFree f) (s : State) (room : Nat) (m : Message) :
    f (s.reported room m) = (f s).reported room m := by
  rw [State.reported_eq, State.reported_eq, h.comm, h.link]

theorem LinkFree.comp {f g : State → State} (hf : LinkFree f) (hg : LinkFree g) : LinkFree fun s => f (g s) :=
  ⟨fun s l => by rw [hg.comm, hf.comm], fun s => by rw [hf.link, hg.link]⟩

theorem LinkFree.foldl {α : Type} {f : State → α → State} (h : ∀ a, LinkFree fun s => f s a) (xs : List α) :
    LinkFree fun s => xs.foldl f s := by
  induction xs with
  | nil => exact ⟨fun _ _ => rfl, fun _ => rfl⟩
  | cons x xs ih => exact ih.comp (h x)

theorem besideRefills_setLink (l : Link) : BesideRefills fun s => s.setLink l :=
  ⟨fun _ => rfl, fun _ _ => rfl, fun _ _ => rfl, fun _ _ => rfl, fun _ _ _ => rfl⟩

theorem linkFree_primingCheck : LinkFree primingCheck where
  link s := by simp
  comm s l := (besideRefills_setLink l).primingCheck s

theorem linkFree_raiseRefill (sl : Slot) : LinkFree (raiseRefill sl) where
  link s := by simp
  comm s l := (besideRefills_setLink l).raiseRefill s sl (fun _ => ⟨rfl, rfl⟩) fun _ => ⟨rfl, rfl⟩

theorem linkFree_placeAll : LinkFree placeAll := LinkFree.foldl (fun sl => linkFree_raiseRefill sl) slotNumbers

theorem linkFree_activate (sl : Slot) : LinkFree (activate sl) where
  link s := by simp
  comm s l := by
    simp only [activate, State.setLink_setBuffer, (linkFree_raiseRefill sl).comm]
    rfl

theorem linkFree_joinStack (sl : Slot) : LinkFree (joinStack sl) where
  link s := by simp
  comm s l := by simp [joinStack, (linkFree_activate sl).comm]

end Sys2Proof.Machine
end

section
/-! UNDO and REDO with no take in progress. -/

namespace Sys2Proof.Machine

/-! ## Replies -/

/-- The reply to a CUE reads the cue queues alone. -/
theorem cueReply_of_cues {s t : State} (h : t.cues = s.cues) (code : Code) (tag : Byte) (affected : Nat) :
    t.cueReply code tag affected = s.cueReply code tag affected := by
  unfold State.cueReply
  rw [h]

/-- A cue whose effect leaves the link and the cue queues alone: its effect, and the reply with the queues as they stand. -/
theorem takeRequest_cue_linkFree (kind : CueKind) (tag p1 p2 p3 : Byte) (s : State) (affected : Nat) {f : State → State}
    (hf : LinkFree f) (hs : applyCue kind p1 p2 p3 s = f s)
    (hq : ∀ ms, applyCue kind p1 p2 p3 (s.queued ms) = f (s.queued ms)) (hc : (f s).cues = s.cues)
    (h : ready s) (hp : paramsInRange kind p1 p2 p3 = true) (hr : cueResult kind p1 p2 s = (.ok, affected)) :
    takeRequest (cueRequest kind tag p1 p2 p3) s = (f s).queued [s.cueReply .ok tag affected] := by
  rw [takeRequest_cue_ok kind tag p1 p2 p3 s affected h hp hr, hq, hs, hf.queued, cueReply_of_cues hc]

/-! ## Withdrawing and parking -/

/-- The withdraw notice ends the layer's refill and discards its buffer (R124). -/
theorem withdraw_eq (sl : Slot) (s : State) :
    withdraw sl s =
      s.setStore
        { s.store with
          buffers := s.store.buffers.set sl.val none
          transfer := s.store.transfer.filter fun x =>
            match x.kind with
            | .refill y _ => y != sl
            | _ => true } := by
  unfold withdraw endTransferIf releasePort clearFlight
  rcases hx : s.store.transfer with _ | ⟨_ | ⟨y, es⟩ | _ | _, left⟩
  case some.refill =>
    by_cases hy : y = sl
    · subst hy
      simp [State.setBuffer, State.setStore, Option.filter]
    · simp [State.setBuffer, State.setStore, Option.filter, hy, hx]
  all_goals simp [State.setBuffer, State.setStore, Option.filter, hx]

theorem linkFree_withdraw (sl : Slot) : LinkFree (withdraw sl) where
  link s := by simp
  comm s l := by rw [withdraw_eq, withdraw_eq]; rfl

theorem linkFree_parkLayer (sl : Slot) : LinkFree (parkLayer sl) where
  link s := by simp
  comm s l := by
    simp only [parkLayer, State.setLink_setTable, State.setLink_setLayer, (linkFree_withdraw sl).comm,
      linkFree_primingCheck.comm]
    rfl

/-- Every other layer is as ready for the end of PRIMING as it was, and a PARKED one is not waited for. -/
theorem primedFor_parked (s u : State) (sl : Slot) (hp : (u.layer sl).state = .parked)
    (hl : ∀ x, x ≠ sl → u.layer x = s.layer x) (hb : ∀ x, x ≠ sl → u.buffer x = s.buffer x) :
    (∀ x ∈ slotNumbers, primedFor u x = true) ↔ ∀ x ∈ slotNumbers, x ≠ sl → primedFor s x = true := by
  have hother : ∀ x, x ≠ sl → primedFor u x = primedFor s x := fun x hx => by
    unfold primedFor
    rw [hl x hx, hb x hx]
  constructor
  · intro h x hx hne
    rw [← hother x hne]
    exact h x hx
  · intro h x hx
    by_cases hne : x = sl
    · subst hne
      simp [primedFor, hp]
    · rw [hother x hne]
      exact h x hx hne

/-- The end of PRIMING changes the transport alone. -/
theorem withPrimingEnded_eq (s : State) (c : Prop) [Decidable c]
    (h : (s.transport.state = .priming ∧ ∀ x ∈ slotNumbers, primedFor s x = true) ↔ c) :
    s.withPrimingEnded =
      { s with
        transport := if c then { s.transport with state := .running, p := 0, beatDue := false }.pulsed else s.transport } := by
  unfold State.withPrimingEnded
  by_cases hc : c
  · rw [if_pos (h.mpr hc), if_pos hc]
  · rw [if_neg (mt h.mp hc), if_neg hc]

/-- UNDO parks the layer at the top of the stack (R38). -/
theorem parkLayer_eq (s : State) (sl : Slot) (below : List Slot) (hs : s.table.stack = below ++ [sl]) (hn : sl ∉ below) :
    parkLayer sl s =
      { s with
        table :=
          { s.table with
            stack := below, redo := sl :: s.table.redo
            layers := s.table.layers.set sl.val { s.layer sl with state := .parked } }
        store :=
          { s.store with
            buffers := s.store.buffers.set sl.val none
            transfer := s.store.transfer.filter fun x =>
              match x.kind with
              | .refill y _ => y != sl
              | _ => true }
        transport :=
          if s.transport.state = .priming ∧ ∀ x ∈ slotNumbers, x ≠ sl → primedFor s x = true then
            { s.transport with state := .running, p := 0, beatDue := false }.pulsed
          else s.transport } := by
  have hstack : s.table.stack.filter (· != sl) = below := by
    have hbelow : below.filter (· != sl) = below :=
      List.filter_eq_self.mpr fun x hx => by simpa using fun he : x = sl => hn (he ▸ hx)
    simp [hs, hbelow]
  unfold parkLayer
  dsimp only
  rw [withdraw_eq, primingCheck_eq, hstack]
  refine withPrimingEnded_eq _ _ (and_congr_right' (primedFor_parked s _ sl ?_ ?_ ?_))
  · simp [State.layer, State.setStore, State.setLayer, State.setTable]
  · intro x hx
    exact State.setLayer_layer_ne _ _ _ _ hx
  · intro x hx
    have hv : sl.val ≠ x.val := fun e => hx (Fin.ext e.symm)
    simp [State.buffer, State.setStore, State.setLayer, State.setTable, hv]

/-! ## A layer that joins the stack -/

/-- A layer becomes ACTIVE at the top of the stack; while the loop store streams it has an empty buffer and its refill request is
raised. -/
theorem joinStack_eq (sl : Slot) (s : State) :
    joinStack sl s =
      ({ s with
        table :=
          { s.table with
            stack := s.table.stack ++ [sl]
            layers := s.table.layers.set sl.val { s.layer sl with state := .active } }
        store :=
          { s.store with
            buffers := s.store.buffers.set sl.val
              (if s.transport.state = .idle ∨ s.transport.state = .halted then none
              else some { entries := [], primed := false, inFlight := false }) } } : State).withRefillRaised sl := by
  have hb : (if s.transport.streams = true then some ⟨[], false, false⟩ else none) =
      (if s.transport.state = .idle ∨ s.transport.state = .halted then none
        else some { entries := [], primed := false, inFlight := false } : Option Stream) := by
    cases ht : s.transport.state <;> simp [Transport.streams, ht]
  unfold joinStack activate
  rw [raiseRefill_eq, ← hb]
  rfl

/-! ## UNDO and REDO -/

theorem takeInProgress_eq_false_iff (s : State) :
    takeInProgress s = false ↔ ∀ x, (s.layer x).state ≠ .recording ∧ (s.layer x).state ≠ .closing := by
  unfold takeInProgress
  rw [List.any_eq_false]
  constructor
  · intro h x
    have := h x (mem_slotNumbers x)
    rwa [inProgress_iff, not_or] at this
  · intro h x _
    rw [inProgress_iff, not_or]
    exact h x

theorem stateRefusal_undo (t : Transport) (h : t.state ≠ .idle) : stateRefusal .undo t = none := by
  simp [stateRefusal, h]

theorem stateRefusal_redo (t : Transport) (h : t.state ≠ .idle) : stateRefusal .redo t = none := by
  simp [stateRefusal, h]

/-- The outcome of an UNDO with no take in progress is that of the top of the stack. -/
theorem cueResult_undo_stack (s : State) (p1 p2 : Byte) (hi : s.transport.state ≠ .idle) (ht : takeInProgress s = false) :
    cueResult .undo p1 p2 s =
      match s.table.stack.getLast? with
      | none => (.nothing, 255)
      | some sl => if (s.layer sl).held then (.layerHeld, 255) else (.ok, sl.val) := by
  simp only [cueResult, stateRefusal_undo _ hi, undoResult, ht]
  rfl

/-- Settles O28: the outcome from the lists, the effect from `parkLayer_eq` and `joinStack_eq`, neither of which touches the link. -/
theorem undoParksAndRedoRestores : Obligations.UndoParksAndRedoRestores := by
  refine ⟨fun s tag h hi hn => ?_, fun s tag h hi => ⟨fun hr => ?_, fun sl rest hr => ?_⟩⟩
  · have ht : takeInProgress s = false := (takeInProgress_eq_false_iff s).mpr hn
    have hresult := cueResult_undo_stack s 0 0 hi ht
    refine ⟨fun hs => ?_, fun below sl hs hbelow => ⟨fun hh => ?_, fun hh => ?_⟩⟩
    · rw [hs] at hresult
      exact congrArg Host.Outcome.next (takeRequest_cue_refused .undo tag 0 0 0 s _ _ h rfl hresult (by decide))
    · rw [hs, List.getLast?_concat] at hresult
      simp only [hh, if_true] at hresult
      exact congrArg Host.Outcome.next (takeRequest_cue_refused .undo tag 0 0 0 s _ _ h rfl hresult (by decide))
    · rw [hs, List.getLast?_concat] at hresult
      simp only [hh, Bool.false_eq_true, if_false] at hresult
      have happly : ∀ u : State, takeInProgress u = false → u.table.stack = below ++ [sl] →
          applyCue .undo 0 0 0 u = parkLayer sl u := by
        intro u hu hstack
        simp [applyCue, applyQueued, applyUndo, hu, hstack]
      have hcue := takeRequest_cue_linkFree .undo tag 0 0 0 s _ (linkFree_parkLayer sl) (happly s ht hs)
        (fun _ => happly _ ht hs) (by simp) h rfl hresult
      rw [parkLayer_eq s sl below hs hbelow] at hcue
      exact congrArg Host.Outcome.next hcue
  · have hresult : cueResult .redo 0 0 s = (.nothing, 255) := by simp [cueResult, stateRefusal_redo _ hi, hr]
    exact congrArg Host.Outcome.next (takeRequest_cue_refused .redo tag 0 0 0 s _ _ h rfl hresult (by decide))
  · have hresult : cueResult .redo 0 0 s = (.ok, sl.val) := by simp [cueResult, stateRefusal_redo _ hi, hr]
    have happly : ∀ u : State, u.table.redo = sl :: rest →
        applyCue .redo 0 0 0 u = joinStack sl (u.setTable { u.table with redo := rest }) := by
      intro u hu
      simp [applyCue, applyQueued, applyRedo, hu]
    have hfree : LinkFree fun u : State => joinStack sl (u.setTable { u.table with redo := rest }) :=
      (linkFree_joinStack sl).comp ⟨fun _ _ => rfl, fun _ => rfl⟩
    have hcue := takeRequest_cue_linkFree .redo tag 0 0 0 s _ hfree (happly s hr) (fun _ => happly _ hr) (by simp) h rfl hresult
    refine congrArg Host.Outcome.next (hcue.trans ?_)
    rw [joinStack_eq]
    simp only [State.setTable_transport, hi, false_or]
    rfl

end Sys2Proof.Machine
end

section
/-! PLAY. -/

namespace Sys2Proof.Machine

/-! ## PRIMING that has been tested -/

theorem primingCheck_primingCheck (s : State) : primingCheck (primingCheck s) = primingCheck s := by
  rcases primingCheck_cases s with h | ⟨-, h⟩
  · rw [h, h]
  · rw [h]
    exact if_neg fun hp => by simp [enterRunning] at hp

/-- A refill placed leaves the test of PRIMING made. -/
theorem primingCheck_placeSilent (s : State) (sl : Slot) (h : primingCheck s = s) :
    primingCheck (placeSilent s sl) = placeSilent s sl := by
  unfold placeSilent
  split
  · cases hb : s.buffer sl with
    | none => rw [landEntries_none _ _ _ hb, h]
    | some b => rw [landEntries_some _ _ _ b hb, primingCheck_primingCheck]
  · exact h

theorem primingCheck_placeAll (s : State) (h : primingCheck s = s) : primingCheck (placeAll s) = placeAll s := by
  unfold placeAll
  induction slotNumbers generalizing s with
  | nil => exact h
  | cons sl sls ih => exact ih _ (primingCheck_placeSilent _ _ (primingCheck_placeSilent _ _ h))

/-! ## The state that PLAY enters -/

/-- `s` with this transport, and this buffer for each ACTIVE layer. -/
def State.streaming (s : State) (t : Transport) (bufs : Slot → Stream) : State :=
  { s with
    transport := t
    store := { s.store with buffers := Vector.ofFn fun sl : Slot => if (s.layer sl).state = .active then some (bufs sl) else none } }

/-- The transport in PRIMING, and in RUNNING behind it. -/
def Transport.primed (t : Transport) (state : TState) : Transport := { t with state := state, p := 0, beatDue := false }

@[simp] theorem State.streaming_layer (s : State) (t : Transport) (bufs : Slot → Stream) (sl : Slot) :
    (s.streaming t bufs).layer sl = s.layer sl := rfl

theorem State.streaming_buffer (s : State) (t : Transport) (bufs : Slot → Stream) (sl : Slot) :
    (s.streaming t bufs).buffer sl = if (s.layer sl).state = .active then some (bufs sl) else none := by
  simp [State.streaming, State.buffer]

/-- Buffers that agree where a layer is ACTIVE make the same state. -/
theorem State.streaming_congr (s : State) (t : Transport) {bufs bufs' : Slot → Stream}
    (h : ∀ x, (s.layer x).state = .active → bufs x = bufs' x) : s.streaming t bufs = s.streaming t bufs' := by
  have hv : (fun sl : Slot => if (s.layer sl).state = .active then some (bufs sl) else none) =
      fun sl : Slot => if (s.layer sl).state = .active then some (bufs' sl) else none := by
    funext x
    split
    · next hx => rw [h x hx]
    · rfl
  unfold State.streaming
  rw [hv]

theorem applyPlay_eq (s : State) :
    applyPlay s = primingCheck (placeAll (s.streaming (s.transport.primed .priming) fun _ => ⟨[], false, false⟩)) := rfl

theorem linkFree_applyPlay : LinkFree applyPlay :=
  linkFree_primingCheck.comp (linkFree_placeAll.comp ⟨fun _ _ => rfl, fun _ => rfl⟩)

/-- A buffer that is ready for the end of PRIMING (R125). -/
def Stream.ready (b : Stream) : Bool :=
  decide (128 ≤ b.entries.length) &&
    (match b.entries.head? with
      | none => false
      | some e => decide (e.index = 0))

theorem primedFor_streaming (s : State) (t : Transport) (bufs : Slot → Stream) (x : Slot) :
    primedFor (s.streaming t bufs) x = true ↔ ((s.layer x).state = .active → (bufs x).ready = true) := by
  unfold primedFor
  rw [State.streaming_buffer, State.streaming_layer]
  by_cases hx : (s.layer x).state = .active
  · simp only [hx, if_true, forall_const]
    exact Iff.rfl
  · simp [hx]

/-- PRIMING ends where every buffer is ready. -/
theorem State.streaming_withPrimingEnded (s : State) (t : Transport) (bufs : Slot → Stream) (c : Prop) [Decidable c]
    (h : t.state = .priming → (c ↔ ∀ x, (s.layer x).state = .active → (bufs x).ready = true))
    (hn : t.state ≠ .priming → ¬c) :
    (s.streaming t bufs).withPrimingEnded = s.streaming (if c then (t.primed .running).pulsed else t) bufs := by
  refine withPrimingEnded_eq _ c ?_
  simp only [primedFor_streaming, mem_slotNumbers, forall_const]
  constructor
  · intro ⟨hp, hx⟩
    exact (h hp).mpr hx
  · intro hc
    have hp : t.state = .priming := by
      by_contra hne
      exact hn hne hc
    exact ⟨hp, (h hp).mp hc⟩

/-! ## Layers that are SILENT where they begin -/

/-- The first `n` entries of layer `sl`, all of them SILENT. -/
def State.silents (s : State) (sl : Slot) (n : Nat) : List Entry :=
  let m := (s.layer sl).multiple * s.transport.length.getD 0
  (List.range n).map fun i => ⟨i, (i + m - (s.layer sl).start % m) % m, none⟩

/-- Layer `sl` stands at the top of its timeline, and its first 256 indices are SILENT. -/
def State.startsSilent (s : State) (sl : Slot) : Prop :=
  (s.layer sl).k = some 0 ∧ 256 ≤ (s.layer sl).multiple * s.transport.length.getD 0 ∧
    ∀ i, i < 256 →
      let m := (s.layer sl).multiple * s.transport.length.getD 0
      (s.layer sl).len ≤ (i + m - (s.layer sl).start % m) % m

theorem State.silents_ready (s : State) (sl : Slot) (n : Nat) (h : 128 ≤ n) (primed : Bool) :
    Stream.ready ⟨s.silents sl n, primed, false⟩ = true := by
  obtain ⟨k, rfl⟩ := Nat.exists_eq_add_of_le' (Nat.le_trans (by decide : 1 ≤ 128) h)
  simp only [Stream.ready, silents, List.length_map, List.length_range, List.head?_map, List.head?_range]
  simp
  omega

theorem State.silents_getLast? (s : State) (sl : Slot) (n : Nat) :
    ((s.silents sl n).getLast?).map Entry.index = if n = 0 then none else some (n - 1) := by
  simp only [silents, List.getLast?_map, List.getLast?_range, Option.map_map]
  split <;> rfl

/-- The refill behind the first `n` entries begins at index `n`. -/
theorem State.refillStart_silents (s u : State) (sl : Slot) (n : Nat) (primed : Bool) (hs : s.startsSilent sl) (hn : n ≤ 128)
    (hl : u.layer sl = s.layer sl) (ht : u.transport.length = s.transport.length) (hp : u.transport.p = 0) :
    refillStart u sl ⟨s.silents sl n, primed, false⟩ = n := by
  obtain ⟨hk, hm, -⟩ := hs
  have hlast := s.silents_getLast? sl n
  unfold refillStart
  cases hg : (s.silents sl n).getLast? with
  | none =>
    have h0 : n = 0 := by
      by_contra h0
      simp [hg, h0] at hlast
    simp [nextIndex, hl, hk, hp, h0]
  | some e =>
    have h0 : n ≠ 0 := by
      rintro rfl
      simp [hg] at hlast
    have he : e.index = n - 1 := by simpa [hg, h0] using hlast
    simp only [timeline, Transport.cycleLength, hl, ht, he]
    rw [Nat.sub_add_cancel (by omega)]
    exact Nat.mod_eq_of_lt (by omega)

/-- The refill behind the first `n` entries brings the next 128, none of which needs a read. -/
theorem State.refillEntries_silents (s u : State) (sl : Slot) (n : Nat) (primed : Bool) (hs : s.startsSilent sl) (hn : n ≤ 128)
    (hl : u.layer sl = s.layer sl) (ht : u.transport.length = s.transport.length) (hp : u.transport.p = 0) :
    s.silents sl n ++ refillEntries u sl ⟨s.silents sl n, primed, false⟩ = s.silents sl (n + 128) ∧
      ∀ e ∈ refillEntries u sl ⟨s.silents sl n, primed, false⟩, e.value = none := by
  have hfirst := s.refillStart_silents u sl n primed hs hn hl ht hp
  obtain ⟨hk, hm, hlen⟩ := hs
  have hrefill : refillEntries u sl ⟨s.silents sl n, primed, false⟩ =
      (List.range 128).map fun i =>
        ⟨n + i, (n + i + (s.layer sl).multiple * s.transport.length.getD 0 -
          (s.layer sl).start % ((s.layer sl).multiple * s.transport.length.getD 0)) %
            ((s.layer sl).multiple * s.transport.length.getD 0), none⟩ := by
    unfold refillEntries
    rw [hfirst]
    refine List.map_congr_left fun i hi => ?_
    have hi : i < 128 := List.mem_range.mp hi
    have hmod : (n + i) % ((s.layer sl).multiple * s.transport.length.getD 0) = n + i := Nat.mod_eq_of_lt (by omega)
    have hsilent := Nat.not_lt.mpr (hlen (n + i) (by omega))
    simp only [entryAt, offsetOf, backMod, timeline, Transport.cycleLength, hl, ht, hmod, hsilent, if_false]
  rw [hrefill]
  refine ⟨?_, fun e he => ?_⟩
  · simp only [silents, List.range_add, List.map_append, List.map_map]
    rfl
  · obtain ⟨i, -, rfl⟩ := List.mem_map.mp he
    rfl

/-- No entry is stale at the top of the timeline. -/
theorem State.staleCount_silents (s u : State) (sl : Slot) (n : Nat) (hs : s.startsSilent sl)
    (hl : u.layer sl = s.layer sl) (hp : u.transport.p = 0) : staleCount u (u.layer sl) (s.silents sl n) = 0 := by
  obtain ⟨hk, -, -⟩ := hs
  unfold staleCount
  cases n with
  | zero => rfl
  | succ n =>
    have hhead : (s.silents sl (n + 1)).head? = some ⟨0, (0 + (s.layer sl).multiple * s.transport.length.getD 0 -
        (s.layer sl).start % ((s.layer sl).multiple * s.transport.length.getD 0)) %
          ((s.layer sl).multiple * s.transport.length.getD 0), none⟩ := by
      simp [silents, List.head?_range]
    rw [hhead]
    simp [nextIndex, backMod, hl, hk, hp]

/-- A buffer of `streaming` replaced. -/
theorem State.streaming_setBuffer (s : State) (t : Transport) (bufs : Slot → Stream) (sl : Slot) (b : Stream)
    (ha : (s.layer sl).state = .active) :
    (s.streaming t bufs).setBuffer sl (some b) = s.streaming t (Function.update bufs sl b) := by
  have hv : (s.streaming t bufs).store.buffers.set sl.val (some b) = (s.streaming t (Function.update bufs sl b)).store.buffers := by
    ext1 x hx
    simp only [State.streaming, Vector.getElem_set, Vector.getElem_ofFn]
    by_cases hxs : sl.val = x
    · subst hxs
      simp [ha]
    · have hne : (⟨x, hx⟩ : Slot) ≠ sl := fun e => hxs (by rw [← e])
      simp [hxs, Function.update_of_ne hne]
  simp only [State.setBuffer, hv]
  simp only [State.streaming, State.setStore]

/-- A refill placed without a read brings 128 SILENT entries more. -/
theorem State.placeSilent_streaming (s : State) (t : Transport) (bufs : Slot → Stream) (sl : Slot) (n : Nat) (primed : Bool)
    (hs : s.startsSilent sl) (ha : (s.layer sl).state = .active) (hn : n ≤ 128) (hb : bufs sl = ⟨s.silents sl n, primed, false⟩)
    (hst : t.streams = true) (ht : t.length = s.transport.length) (hp : t.p = 0) :
    placeSilent (s.streaming t bufs) sl =
      (s.streaming t (Function.update bufs sl ⟨s.silents sl (n + 128), true, false⟩)).withPrimingEnded := by
  obtain ⟨hall, hnone⟩ := s.refillEntries_silents (s.streaming t bufs) sl n primed hs hn rfl ht hp
  have hbuf : (s.streaming t bufs).buffer sl = some ⟨s.silents sl n, primed, false⟩ := by
    rw [State.streaming_buffer, if_pos ha, hb]
  have hcomposed : composedEntries (s.streaming t bufs) sl = refillEntries (s.streaming t bufs) sl ⟨s.silents sl n, primed, false⟩ := by
    unfold composedEntries
    rw [hbuf]
  have hlength : (s.silents sl n).length ≤ 128 := by simpa [silents] using hn
  have hpending : refillPending (s.streaming t bufs) sl = true := by
    unfold refillPending
    rw [hbuf]
    simp [ha, hlength, show (s.streaming t bufs).transport.streams = true from hst]
  have hreads : refillReads (s.streaming t bufs) sl (composedEntries (s.streaming t bufs) sl) = 0 :=
    (refillReads_eq_zero_iff _ _ _).mpr fun e he => .inl (hnone e (hcomposed ▸ he))
  have hne : (s.silents sl (n + 128) != []) = true := by
    rw [bne_iff_ne]
    intro he
    have := congrArg List.length he
    simp [silents] at this
  have hstale := s.staleCount_silents (s.streaming t bufs) sl (n + 128) hs rfl hp
  unfold placeSilent
  rw [hpending, hreads, hcomposed]
  simp only [beq_self_eq_true, Bool.and_self, if_true]
  rw [landEntries_some _ _ _ _ hbuf]
  dsimp only
  rw [hall, hstale, List.drop_zero, hne, Bool.or_true, State.streaming_setBuffer _ _ _ _ _ ha, primingCheck_eq]

/-! ## All layers SILENT -/

/-- The buffers once the layers `done` have been given their refills: 256 SILENT entries, none for the others. -/
def State.silentBuffers (s : State) (done : List Slot) (x : Slot) : Stream :=
  if x ∈ done then ⟨s.silents x 256, true, false⟩ else ⟨[], false, false⟩

/-- The transport then: RUNNING where no ACTIVE layer is left. -/
def State.silentTransport (s : State) (done : List Slot) : Transport :=
  if (∃ x, (s.layer x).state = .active) ∧ ∀ x, (s.layer x).state = .active → x ∈ done then (s.transport.primed .running).pulsed
  else s.transport.primed .priming

theorem State.silentTransport_spec (s : State) (done : List Slot) :
    (s.silentTransport done).streams = true ∧ (s.silentTransport done).length = s.transport.length ∧
      (s.silentTransport done).p = 0 := by
  unfold silentTransport
  split <;> exact ⟨rfl, rfl, rfl⟩

/-- An empty buffer is not ready. -/
theorem State.silentBuffers_ready_iff (s : State) (done : List Slot) (x : Slot) :
    (s.silentBuffers done x).ready = true ↔ x ∈ done := by
  unfold silentBuffers
  split
  · next h => simp [h, s.silents_ready x 256 (by decide)]
  · next h => simp [h, Stream.ready]

/-- The refills of one more ACTIVE layer: the first 128 entries make its buffer ready, the next 128 fill it. -/
theorem State.raiseRefill_silent (s : State) (done : List Slot) (sl : Slot) (hn : sl ∉ done)
    (hs : (s.layer sl).state = .active → s.startsSilent sl) :
    raiseRefill sl (s.streaming (s.silentTransport done) (s.silentBuffers done)) =
      s.streaming (s.silentTransport (done ++ [sl])) (s.silentBuffers (done ++ [sl])) := by
  by_cases ha : (s.layer sl).state = .active
  case neg =>
    have hidle : refillPending (s.streaming (s.silentTransport done) (s.silentBuffers done)) sl = false := by
      simp [refillPending, ha]
    have hmem : ∀ x, (s.layer x).state = .active → (x ∈ done ++ [sl] ↔ x ∈ done) := fun x hx => by
      have : x ≠ sl := fun he => ha (he ▸ hx)
      simp [this]
    have ht : s.silentTransport (done ++ [sl]) = s.silentTransport done := by
      unfold silentTransport
      simp only [forall_congr' fun x => imp_congr_right (hmem x)]
    rw [raiseRefill_idle _ _ (.inl hidle), ht]
    refine s.streaming_congr _ fun x hx => ?_
    simp only [silentBuffers, hmem x hx]
  case pos =>
    have hsilent := hs ha
    have hpriming : s.silentTransport done = s.transport.primed .priming := if_neg fun h => hn (h.2 sl ha)
    have hrun : s.silentTransport (done ++ [sl]) =
        if ∀ x, (s.layer x).state = .active → x ∈ done ++ [sl] then ((s.transport.primed .priming).primed .running).pulsed
        else s.transport.primed .priming := by
      simp only [silentTransport, show (∃ x, (s.layer x).state = .active) from ⟨sl, ha⟩, true_and]
      rfl
    have hready : ∀ n, 128 ≤ n → ∀ x,
        (Function.update (s.silentBuffers done) sl ⟨s.silents sl n, true, false⟩ x).ready = true ↔ x ∈ done ++ [sl] := by
      intro n h128 x
      by_cases hx : x = sl
      · subst hx
        simp [s.silents_ready x n h128]
      · rw [Function.update_of_ne hx, s.silentBuffers_ready_iff]
        simp [hx]
    obtain ⟨hst, hlength, hp⟩ := s.silentTransport_spec (done ++ [sl])
    unfold raiseRefill
    rw [hpriming, s.placeSilent_streaming (s.transport.primed .priming) _ sl 0 false hsilent ha (by decide) (if_neg hn) rfl rfl rfl,
      s.streaming_withPrimingEnded _ _ (∀ x, (s.layer x).state = .active → x ∈ done ++ [sl])
        (fun _ => by simp only [hready 128 (le_refl _)]) (fun h => absurd rfl h), ← hrun,
      s.placeSilent_streaming _ _ sl 128 true hsilent ha (le_refl _) (Function.update_self ..) hst hlength hp,
      Function.update_idem, s.streaming_withPrimingEnded _ _ False ?_ (fun _ => id), if_neg id]
    · refine s.streaming_congr _ fun x _ => ?_
      by_cases hx : x = sl
      · subst hx
        simp [silentBuffers]
      · simp [silentBuffers, hx]
    · intro hstate
      simp only [hready 256 (by decide), false_iff]
      intro hall
      rw [hrun, if_pos hall] at hstate
      cases hstate

/-- With every ACTIVE layer SILENT where it begins, all are given their refills at once. -/
theorem State.placeAll_silent (s : State) (hs : ∀ sl, (s.layer sl).state = .active → s.startsSilent sl) :
    placeAll (s.streaming (s.transport.primed .priming) fun _ => ⟨[], false, false⟩) =
      s.streaming (s.silentTransport slotNumbers) (s.silentBuffers slotNumbers) := by
  have hsteps : ∀ (todo done : List Slot), (done ++ todo).Nodup →
      todo.foldl (fun u sl => raiseRefill sl u) (s.streaming (s.silentTransport done) (s.silentBuffers done)) =
        s.streaming (s.silentTransport (done ++ todo)) (s.silentBuffers (done ++ todo)) := by
    intro todo
    induction todo with
    | nil => intro done _; simp
    | cons sl todo ih =>
      intro done hnodup
      have hn : sl ∉ done := fun h => (List.nodup_append.mp hnodup).2.2 sl h sl List.mem_cons_self rfl
      rw [List.foldl_cons, s.raiseRefill_silent done sl hn (hs sl), ih (done ++ [sl]) (by simpa using hnodup)]
      simp
  have h0 : s.silentTransport [] = s.transport.primed .priming := by
    refine if_neg fun h => ?_
    obtain ⟨⟨x, hx⟩, hall⟩ := h
    exact List.not_mem_nil (hall x hx)
  have hb : s.silentBuffers [] = fun _ => ⟨[], false, false⟩ := by
    funext x
    simp [silentBuffers]
  have := hsteps slotNumbers [] (by decide)
  rw [h0, hb, List.nil_append] at this
  exact this

/-! ## PLAY -/

theorem raiseRefill_foldl_idle (s : State) (sls : List Slot) (h : ∀ sl ∈ sls, raiseRefill sl s = s) :
    sls.foldl (fun u sl => raiseRefill sl u) s = s := by
  induction sls with
  | nil => rfl
  | cons sl sls ih =>
    rw [List.foldl_cons, h sl List.mem_cons_self]
    exact ih fun x hx => h x (List.mem_cons_of_mem _ hx)

/-- Where no layer can be given anything, raising the requests changes nothing. -/
theorem placeAll_idle (s : State) (h : ∀ sl, raiseRefill sl s = s) : placeAll s = s :=
  raiseRefill_foldl_idle s _ fun sl _ => h sl

/-- PRIMING goes on while a buffer is empty. -/
theorem State.primingCheck_streaming_empty (s : State) (t : Transport) (h : ∃ sl, (s.layer sl).state = .active) :
    primingCheck (s.streaming t fun _ => ⟨[], false, false⟩) = s.streaming t fun _ => ⟨[], false, false⟩ := by
  obtain ⟨sl, ha⟩ := h
  rw [primingCheck_eq, s.streaming_withPrimingEnded _ _ False ?_ (fun _ => id), if_neg id]
  intro _
  simp only [false_iff, not_forall]
  exact ⟨sl, ha, by simp [Stream.ready]⟩

/-- Settles O32: PLAY enters PRIMING with empty buffers, raises the requests, and tests whether PRIMING is over. -/
theorem playPrimesEveryActiveLayer : Obligations.PlayPrimesEveryActiveLayer := by
  intro s tag h hh started running priming answer
  have hresult : cueResult .play 0 0 s = (.ok, 255) := by simp [cueResult, stateRefusal, hh]
  have hexec : exec (.play tag) s = answer (applyPlay s) :=
    congrArg Host.Outcome.next (takeRequest_cue_linkFree .play tag 0 0 0 s _ linkFree_applyPlay rfl (fun _ => rfl) (by simp) h
      rfl hresult)
  have hpriming : priming = s.streaming (s.transport.primed .priming) fun _ => ⟨[], false, false⟩ := rfl
  have hnone : (∀ sl, (s.layer sl).state ≠ .active) → placeAll priming = priming := by
    intro hna
    refine placeAll_idle _ fun sl => raiseRefill_idle _ _ (.inl ?_)
    simp [refillPending, hpriming, hna sl]
  have hrunning : (∀ sl, (s.layer sl).state ≠ .active) → applyPlay s = running (started .running (fun _ => []) false) := by
    intro hna
    rw [applyPlay_eq, ← hpriming, hnone hna, primingCheck_eq, hpriming, s.streaming_withPrimingEnded _ _ True ?_ (by simp [Transport.primed])]
    · rfl
    · exact fun _ => ⟨fun _ x hx => absurd hx (hna x), fun _ => trivial⟩
  refine ⟨fun ha => ?_, fun ha hread => ?_, fun hna => ?_, fun hs => ?_⟩
  · have hcheck := s.primingCheck_streaming_empty (s.transport.primed .priming) ha
    rw [hexec, applyPlay_eq, primingCheck_placeAll _ hcheck, placeAll_eq, hpriming]
  · have hcheck := s.primingCheck_streaming_empty (s.transport.primed .priming) ha
    have hidle : placeAll priming = priming := by
      refine placeAll_idle _ fun sl => raiseRefill_idle _ _ ?_
      by_cases hact : (s.layer sl).state = .active
      · right
        obtain ⟨e, he, hv, hf⟩ := hread sl hact
        rw [ne_eq, refillReads_eq_zero_iff]
        intro hall
        have hb : priming.buffer sl = some ⟨[], false, false⟩ := by rw [hpriming, State.streaming_buffer, if_pos hact]
        have hmem : e ∈ composedEntries priming sl := by
          unfold composedEntries
          rw [hb]
          exact he
        rcases hall e hmem with hv' | hf'
        · exact hv hv'
        · have : fromFifo s sl e.offset = true := hf'
          rw [hf] at this
          cases this
      · left
        simp [refillPending, hpriming, hact]
    rw [hexec, applyPlay_eq, ← hpriming, hidle, hpriming, hcheck]
  · rw [hexec, hrunning hna]
  · by_cases ha : ∃ sl, (s.layer sl).state = .active
    · have hcheck := s.primingCheck_streaming_empty (s.transport.primed .priming) ha
      rw [hexec, applyPlay_eq, primingCheck_placeAll _ hcheck, s.placeAll_silent hs]
      have ht : s.silentTransport slotNumbers = (s.transport.primed .running).pulsed :=
        if_pos ⟨ha, fun x _ => mem_slotNumbers x⟩
      have hb : s.silentBuffers slotNumbers = fun x => ⟨s.silents x 256, true, false⟩ := by
        funext x
        exact if_pos (mem_slotNumbers x)
      rw [ht, hb]
      rfl
    · have hna : ∀ sl, (s.layer sl).state ≠ .active := fun sl hsl => ha ⟨sl, hsl⟩
      rw [hexec, hrunning hna]
      refine congrArg answer ?_
      exact s.streaming_congr (s.transport.primed .running).pulsed (bufs := fun _ => ⟨[], false, false⟩)
        (bufs' := fun x => ⟨s.silents x 256, true, false⟩) fun x hx => absurd hx (hna x)

end Sys2Proof.Machine
end

section
/-! SUPPORT. Layers that become FREE and takes that end, in the words of the statements: `State.withLayerFreed`, `State.withTakeDropped`,
`State.withTakeEnded` and the others of that kind. -/

namespace Sys2Proof.Machine

/-! ## The transfer in flight -/

theorem endTransferIf_none (mine : TransferKind → Bool) (s : State) (hx : s.store.transfer = none) : endTransferIf mine s = s := by
  unfold endTransferIf
  rw [hx]

theorem endTransferIf_other (mine : TransferKind → Bool) (s : State) (x : Transfer) (hx : s.store.transfer = some x)
    (hm : mine x.kind = false) : endTransferIf mine s = s := by
  unfold endTransferIf
  rw [hx]
  simp [hm]

theorem releasePort_some (s : State) (x : Transfer) (hx : s.store.transfer = some x) :
    releasePort s = clearFlight x.kind (s.setStore { s.store with transfer := none }) := by
  unfold releasePort
  rw [hx]

theorem endTransferIf_mine (mine : TransferKind → Bool) (s : State) (x : Transfer) (hx : s.store.transfer = some x)
    (hm : mine x.kind = true) : endTransferIf mine s = clearFlight x.kind (s.setStore { s.store with transfer := none }) := by
  rw [← releasePort_some s x hx]
  unfold endTransferIf
  rw [hx]
  simp [hm]

theorem recs_eq_ofFn (s : State) : s.takes.recs = Vector.ofFn fun r : Recorder => s.recorder r := by
  ext1 i hi
  simp [State.recorder]

theorem layers_eq_ofFn (s : State) : s.table.layers = Vector.ofFn fun sl : Slot => s.layer sl := by
  ext1 i hi
  simp [State.layer]

theorem recs_set_eq_ofFn (s : State) (r : Recorder) (x : RecorderRec) :
    s.takes.recs.set r.val x = Vector.ofFn fun q : Recorder => if q = r then x else s.recorder q := by
  ext1 i hi
  simp only [Vector.getElem_set, Vector.getElem_ofFn, State.recorder]
  by_cases h : r.val = i
  · simp [h, Fin.ext_iff]
  · have h' : ¬i = r.val := fun e => h e.symm
    simp [h, h', Fin.ext_iff]

theorem option_filter_of_eq_true {α : Type} (p : α → Bool) (x : α) (h : p x = true) : (some x).filter p = some x := by
  simp [Option.filter, h]

theorem option_filter_of_eq_false {α : Type} (p : α → Bool) (x : α) (h : p x = false) : (some x).filter p = none := by
  simp [Option.filter, h]

/-- A job whose burst in flight goes on. -/
theorem Job.inFlight_kept (j : Job) (ends : Bool) (h : ends = false) : ({ j with inFlight := j.inFlight && !ends } : Job) = j := by
  rw [h, Bool.not_false, Bool.and_true]

/-- Ending the transfer that serves a layer: the drain of a recorder that names it, its refill, or the write of the bounce result. -/
theorem endTransferIf_ofLayer (s : State) (sl : Slot) :
    (endTransferIf (ofLayer s sl) s).takes =
        { s.takes with
          recs := Vector.ofFn fun r : Recorder =>
            if s.drains r = true ∧ (s.recorder r).slot = some sl then { s.recorder r with inFlight := false } else s.recorder r } ∧
      { (endTransferIf (ofLayer s sl) s).store with buffers := s.store.buffers.set sl.val none } =
        { s.store with
          transfer := s.store.transfer.filter fun x => !ofLayer s sl x.kind
          buffers := s.store.buffers.set sl.val none } ∧
      (endTransferIf (ofLayer s sl) s).store.buffers.set sl.val none = s.store.buffers.set sl.val none ∧
      (endTransferIf (ofLayer s sl) s).job =
        { s.job with
          inFlight :=
            s.job.inFlight && !(s.job.result == some sl && (s.store.transfer.map Transfer.kind) == some .bounceWrite) } := by
  cases hx : s.store.transfer with
  | none =>
    have hd : ∀ r, s.drains r = false := fun r => by unfold State.drains; rw [hx]
    rw [endTransferIf_none _ s hx]
    simp [hd, ← recs_eq_ofFn, hx]
  | some x =>
    cases hm : ofLayer s sl x.kind with
    | false =>
      have hd : ∀ r, ¬(s.drains r = true ∧ (s.recorder r).slot = some sl) := by
        rintro r ⟨hd, hr⟩
        obtain ⟨kind, left⟩ := x
        unfold State.drains at hd
        rw [hx] at hd
        cases kind <;> simp_all [ofLayer]
      rw [endTransferIf_other _ s x hx hm, option_filter_of_eq_true _ _ (by simp [hm])]
      refine ⟨?_, ?_, rfl, (Job.inFlight_kept _ _ ?_).symm⟩
      · simp only [hd, if_false, ← recs_eq_ofFn]
      · rw [← hx]
      · obtain ⟨kind, left⟩ := x
        cases kind <;> simp_all [ofLayer, beq_eq_decide]
    | true =>
      rw [endTransferIf_mine _ s x hx hm, option_filter_of_eq_false _ _ (by simp [hm])]
      obtain ⟨kind, left⟩ := x
      cases kind with
      | drain r n =>
        have hr : (s.recorder r).slot = some sl := by simpa [ofLayer] using hm
        have hd : ∀ q, s.drains q = true ↔ q = r := fun q => by
          unfold State.drains
          rw [hx]
          exact beq_iff_eq.trans eq_comm
        refine ⟨?_, rfl, rfl, (Job.inFlight_kept _ _ (by simp [beq_eq_decide])).symm⟩
        simp only [clearFlight, State.setRecorder, State.setTakes_takes, hd]
        congr 1
        rw [recs_set_eq_ofFn]
        congr 1
        funext q
        by_cases hq : q = r
        · subst hq
          simp [hr]
        · simp [hq]
      | refill y es =>
        have hy : y = sl := by simpa [ofLayer] using hm
        subst hy
        have hd : ∀ r, s.drains r = false := fun r => by unfold State.drains; rw [hx]
        refine ⟨?_, rfl, ?_, (Job.inFlight_kept _ _ (by simp [beq_eq_decide])).symm⟩
        · simp only [clearFlight, hd, Bool.false_eq_true, false_and, if_false, ← recs_eq_ofFn]
          rfl
        · simp [clearFlight, State.setBuffer]
      | bounceRead => simp [ofLayer] at hm
      | bounceWrite =>
        have hj : s.job.result = some sl := by simpa [ofLayer] using hm
        have hd : ∀ r, s.drains r = false := fun r => by unfold State.drains; rw [hx]
        refine ⟨?_, rfl, rfl, ?_⟩
        · simp only [clearFlight, hd, Bool.false_eq_true, false_and, if_false, ← recs_eq_ofFn]
          rfl
        · simp [clearFlight, hj]

/-- The recorder in the tail drain of a layer, whatever its burst does. -/
theorem tailRecorder_congr {s t : State} (sl : Slot)
    (h : ∀ r, (t.recorder r).tail = (s.recorder r).tail ∧ (t.recorder r).slot = (s.recorder r).slot) :
    tailRecorder t sl = tailRecorder s sl := by
  unfold tailRecorder
  congr 1
  funext r
  rw [(h r).1, (h r).2]

/-! ## A layer that becomes FREE -/

/-- A recorder in the tail drain of a layer returns to IDLE with no report (R106). -/
theorem endTail_takes (sl : Slot) (s : State) :
    (endTail sl s).takes =
      { recs := Vector.ofFn fun r : Recorder => if tailRecorder s sl = some r then RecorderRec.idle else s.recorder r
        order := s.takes.order.filter fun r => tailRecorder s sl != some r } := by
  unfold endTail
  cases ht : tailRecorder s sl with
  | none =>
    have hall : ∀ r : Recorder, (none != some r) = true := fun r => rfl
    simp [← recs_eq_ofFn, hall]
  | some q =>
    simp only [resetRecorder, State.setTakes_takes, recs_set_eq_ofFn, Option.some.injEq]
    congr 1
    · congr 1
      funext r
      simp only [eq_comm]
    · congr 1
      funext r
      simp [bne, beq_eq_decide, eq_comm]

/-- A layer becomes FREE (R31, R106, R115). -/
theorem freeLayer_eq (sl : Slot) (s : State) : freeLayer sl s = s.withLayerFreed sl := by
  obtain ⟨htakes, hstore, hbuf, hjob⟩ := endTransferIf_ofLayer s sl
  obtain ⟨htransport, htable, hcues, hlanes, hmem, hmix, hlink, hrest, hopen, hpending⟩ := endTransferIf_frame (ofLayer s sl) s
  unfold freeLayer
  extract_lets a b c d e
  have hrec : ∀ r, c.recorder r =
      if s.drains r = true ∧ (s.recorder r).slot = some sl then { s.recorder r with inFlight := false } else s.recorder r := by
    intro r
    show a.takes.recs[r.val] = _
    rw [htakes]
    simp
  have htail : tailRecorder c sl = tailRecorder s sl := by
    refine tailRecorder_congr sl fun r => ?_
    rw [hrec]
    split <;> exact ⟨rfl, rfl⟩
  have hd := endTail_takes sl c
  have hlayer : a.layer sl = s.layer sl := by
    unfold State.layer
    rw [htable]
  refine State.eq_of_fields ?_ ?_ ?_ ?_ ?_ ?_ ?_ ?_ ?_ ?_ ?_ ?_ ?_
  · simp [e, d, c, b, a, State.withLayerFreed]
  · simp [e, d, c, b, a, State.setLayer, leaveLists, State.withLayerFreed]
  · simp [e, d, c, b, a, State.withLayerFreed]
  · simp [e, d, c, b, a, State.withLayerFreed]
  · show d.takes = _
    rw [hd, htail, show c.takes.order = s.takes.order by show a.takes.order = _; rw [htakes]]
    simp only [hrec, State.withLayerFreed]
  · show { d.store with buffers := d.store.buffers.set sl.val none } = _
    rw [show d.store = c.store by simp [d]]
    show { a.store with pool := insertPages (pagesOf (a.layer sl).extents) a.store.pool, buffers := a.store.buffers.set sl.val none } = _
    rw [hlayer, hbuf]
    exact congrArg (fun st : LoopStore => { st with pool := insertPages (pagesOf (s.layer sl).extents) st.pool }) hstore
  · simp [e, d, c, b, a, State.withLayerFreed]
  · simp [e, d, c, b, a, State.withLayerFreed]
  · show d.job = _
    rw [show d.job = c.job by simp [d]]
    exact hjob
  · simp [e, d, c, b, a, State.withLayerFreed]
  · simp [e, d, c, b, a, State.withLayerFreed]
  · simp [e, d, c, b, a, State.withLayerFreed]
  · simp [e, d, c, b, a, State.withLayerFreed]

theorem freeLayers_eq (sls : List Slot) (s : State) : freeLayers sls s = sls.foldl State.withLayerFreed s := by
  unfold freeLayers
  simp only [freeLayer_eq]

theorem releaseRedo_eq (s : State) : releaseRedo s = s.withRedoReleased := freeLayers_eq _ s

theorem linkFree_freeLayer (sl : Slot) : LinkFree (freeLayer sl) where
  link s := by simp
  comm s l := by rw [freeLayer_eq, freeLayer_eq]; rfl

end Sys2Proof.Machine
end

section
/-! SUPPORT. The sample period in the words of the statements: what the sample clock does behind the recorders is `State.sampled`. -/

namespace Sys2Proof.Machine

/-! ## The parts of a sample period -/

/-- The parts of a sample period behind the recorders, from the trimmed values: mix, buffers, pulse, playhead, refill requests, port. -/
def State.countedOn (s : State) (r : Lane → Int) : State :=
  tickPort (placeAll (advancePlayhead (countPulse (serveLayers (formMix r s)))))

theorem tick_eq_countedOn (x : Lane → Int) (s : State) :
    tick x s = (recordAll (laneValue s x) (exhaustFree (measureLanes (laneValue s x) s))).countedOn (laneValue s x) := rfl

/-! ## The port counts beside the refills -/

theorem besideRefills_tickPort : BesideRefills tickPort :=
  ⟨fun _ => rfl, fun _ _ => rfl, fun _ _ => rfl, fun _ _ => rfl, fun _ _ _ => rfl⟩

theorem placeAll_tickPort (s : State) : placeAll (tickPort s) = tickPort (placeAll s) :=
  besideRefills_tickPort.placeAll (fun _ _ _ => ⟨rfl, rfl⟩) s

/-! ## The mix -/

/-- The playhead moves in RUNNING and in GRID DEFINING. -/
theorem moves_iff (t : Transport) : t.moves = true ↔ t.state = .running ∨ (t.state = .defining ∧ t.mode = .grid) := by
  simp [Transport.moves]

theorem sat24_eq (v : Int) : sat24 v = max (-8388608) (min 8388607 v) := by norm_num [sat24, saturate]

theorem clipped_24_eq (v : Int) : clipped 24 v = if max (-8388608) (min 8388607 v) = v then 0 else 1 := by
  norm_num [clipped, saturate]

theorem laneValue_eq (s : State) (x : Lane → Int) (l : Lane) :
    laneValue s x l =
      if (s.lane l).enable = true then max (-8388608) (min 8388607 ((x l * (s.lane l).trim + 2048) / 4096)) else 0 := by
  unfold laneValue trimmed roundShift
  rw [sat24_eq]
  norm_num

theorem masterStage_eq (acc : Int) (master : Nat) : masterStage acc master = (acc * (master : Int) + 2 ^ 30) / 2 ^ 31 := rfl

theorem sum_map_slotNumbers (f : Slot → Int) : (slotNumbers.map f).sum = ∑ x : Slot, f x := by
  rw [slotNumbers_eq, Fin.sum_univ_def]

theorem sum_map_laneNumbers (f : Lane → Int) : (laneNumbers.map f).sum = ∑ x : Lane, f x := by
  rw [show laneNumbers = List.finRange 4 by decide, Fin.sum_univ_def]

/-- What an audible layer whose front entry holds a value gives a bus; the front entry is what the loop store serves. -/
theorem layerTerm_eq (s : State) (left : Bool) (sl : Slot) :
    layerTerm s left sl =
      if (s.transport.state = .running ∨ (s.transport.state = .defining ∧ s.transport.mode = .grid)) ∧
          (s.layer sl).state = .active ∧ (s.layer sl).muted = false ∧ s.table.groupMutes[(s.layer sl).group.val] = false then
        match (s.buffer sl).bind fun b => b.entries.head? with
        | some ⟨_, o, some v⟩ =>
          v * 256 * (effectiveGain (s.layer sl).gain (s.layer sl).fade (s.layer sl).len o : Int) *
            ((if left then 128 - (s.layer sl).pan else (s.layer sl).pan : Nat) : Int)
        | _ => 0
      else 0 := by
  have hc : (s.transport.moves && audible s (s.layer sl)) = true ↔
      (s.transport.state = .running ∨ (s.transport.state = .defining ∧ s.transport.mode = .grid)) ∧
        (s.layer sl).state = .active ∧ (s.layer sl).muted = false ∧ s.table.groupMutes[(s.layer sl).group.val] = false := by
    rw [Bool.and_eq_true, moves_iff, audible]
    simp [and_assoc]
  have hs : servedEntry s sl = (s.buffer sl).bind fun b => b.entries.head? := by
    unfold servedEntry
    cases s.buffer sl <;> rfl
  unfold layerTerm
  by_cases h : (s.transport.moves && audible s (s.layer sl)) = true
  · rw [if_pos h, if_pos (hc.mp h), hs]
    cases (s.buffer sl).bind fun b => b.entries.head? with
    | none => rfl
    | some e => obtain ⟨i, o, _ | v⟩ := e <;> rfl
  · rw [if_neg h, if_neg (mt hc.mpr h)]

theorem burstRuns_iff (s : State) :
    burstRuns s = true ↔
      (s.transport.state = .running ∨ (s.transport.state = .defining ∧ s.transport.mode = .grid)) ∧ s.mix.burstEnding = false := by
  rw [burstRuns, Bool.and_eq_true, moves_iff]
  simp

theorem clickValue_eq (s : State) :
    clickValue s =
      match s.mix.burstPos with
      | some n =>
        if (s.transport.state = .running ∨ (s.transport.state = .defining ∧ s.transport.mode = .grid)) ∧
            s.mix.burstEnding = false then
          if n / 24 % 2 = 0 then (s.mix.burstAmp : Int) else -(s.mix.burstAmp : Int)
        else 0
      | none => 0 := by
  unfold clickValue
  simp only [← burstRuns_iff]
  cases s.mix.burstPos with
  | none => simp
  | some n => rfl

theorem burstAfter_eq (s : State) :
    burstAfter s =
      if (s.transport.state = .running ∨ (s.transport.state = .defining ∧ s.transport.mode = .grid)) ∧
          s.mix.burstEnding = false then s.mix.burstPos.map (· + 1)
      else none := by
  unfold burstAfter
  simp only [← burstRuns_iff]

/-! ## The playhead -/

/-- `p` stands on the start of a beat other than 0: some beat above 0 starts there. -/
theorem atBeatStart_eq (L B p : Nat) :
    atBeatStart L B p = (List.range B).any fun b => decide (0 < b) && b * L / B == p := by
  rw [Bool.eq_iff_iff]
  unfold atBeatStart currentBeat
  simp only [Bool.and_eq_true, decide_eq_true_eq, List.any_eq_true, List.mem_range, beq_iff_eq]
  constructor
  · rintro ⟨hne, hp⟩
    have hB : 0 < B := Nat.pos_of_ne_zero fun h => hne (by rw [h]; rfl)
    obtain ⟨hlt, -, -⟩ := lastBeat_spec L B p B (by simp [beatStart]) hB
    exact ⟨_, hlt, Nat.pos_of_ne_zero hne, hp⟩
  · rintro ⟨b, hb, hpos, hp⟩
    obtain ⟨-, hle, hmax⟩ := lastBeat_spec L B p B (by simp [beatStart]) (by omega)
    have hge : b ≤ lastBeat L B p B := hmax b hb (by unfold beatStart; omega)
    have hmono : beatStart L B b ≤ beatStart L B (lastBeat L B p B) :=
      Nat.div_le_div_right (Nat.mul_le_mul_right L hge)
    exact ⟨by omega, le_antisymm hle (by unfold beatStart at hmono ⊢; omega)⟩

/-! ## The sample period as the statements say it -/

/-- The layer table behind a sample period of the loop store: a primed layer with an empty buffer has a dropout. -/
theorem serveLayers_table (s : State) :
    (serveLayers s).table =
      { s.table with
        layers := Vector.ofFn fun sl =>
          match s.buffer sl with
          | some b =>
            if (s.transport.state = .running ∨ (s.transport.state = .defining ∧ s.transport.mode = .grid)) ∧
                (s.layer sl).state = .active ∧ b.primed = true ∧ b.entries = [] then
              { s.layer sl with dropouts := min 65535 ((s.layer sl).dropouts + 1) }
            else s.layer sl
          | none => s.layer sl } := by
  unfold serveLayers
  simp only [← moves_iff]
  cases hm : s.transport.moves with
  | false =>
    simp only [Bool.false_eq_true, if_false, false_and]
    have hl : (fun sl => match s.buffer sl with | some _ => s.layer sl | none => s.layer sl) = fun sl : Slot => s.layer sl := by
      funext sl
      cases s.buffer sl <;> rfl
    rw [hl, ← layers_eq_ofFn]
  | true =>
    simp only [if_true, true_and, mapLayers, State.setStore_table, State.setTable_table]
    refine congrArg (fun v => ({ s.table with layers := Vector.ofFn v } : LayerTable)) (funext fun sl => ?_)
    unfold servedLayer
    by_cases ha : (s.layer sl).state = .active
    · rw [if_pos ha]
      cases s.buffer sl with
      | none => rfl
      | some b => cases hp : b.primed <;> cases he : b.entries <;> simp [ha, satAdd]
    · rw [if_neg ha]
      cases s.buffer sl <;> simp [ha]

/-- The loop store behind it: the front entry of every ACTIVE layer's buffer has been served. -/
theorem serveLayers_store (s : State) :
    (serveLayers s).store =
      { s.store with
        buffers := Vector.ofFn fun sl =>
          if (s.transport.state = .running ∨ (s.transport.state = .defining ∧ s.transport.mode = .grid)) ∧
              (s.layer sl).state = .active then
            (s.buffer sl).map fun b => { b with entries := b.entries.tail }
          else s.buffer sl } := by
  unfold serveLayers
  simp only [← moves_iff]
  cases hm : s.transport.moves with
  | false =>
    simp only [Bool.false_eq_true, if_false, false_and]
    have hb : s.store.buffers = Vector.ofFn fun sl : Slot => s.buffer sl := by
      ext1 i hi
      simp [State.buffer]
    exact congrArg (fun v => ({ s.store with buffers := v } : LoopStore)) hb
  | true =>
    simp only [if_true, true_and]
    rfl

/-- The transport behind it. -/
theorem advancePlayhead_transport (s : State) :
    (advancePlayhead s).transport =
      { s.transport with
        p :=
          if (s.transport.state = .running ∨ (s.transport.state = .defining ∧ s.transport.mode = .grid)) ∨
              s.transport.state = .defining then s.transport.p + 1
          else s.transport.p
        beatDue :=
          if s.transport.state = .running ∨ (s.transport.state = .defining ∧ s.transport.mode = .grid) then
            decide (s.transport.p + 1 < s.transport.length.getD 0) &&
              (List.range s.transport.beats).any fun b =>
                decide (0 < b) && b * s.transport.length.getD 0 / s.transport.beats == s.transport.p + 1
          else s.transport.beatDue } := by
  unfold advancePlayhead
  simp only [← moves_iff]
  cases hm : s.transport.moves with
  | true =>
    simp only [if_true, true_or, State.setTransport_transport, Transport.advanced, atBeatStart_eq, Transport.cycleLength]
    rfl
  | false =>
    have hf : s.transport.freeDefining = true ↔ s.transport.state = .defining := by
      cases hs : s.transport.state <;> cases hd : s.transport.mode <;> simp_all [Transport.freeDefining, Transport.moves]
    simp only [Bool.false_eq_true, if_false, false_or, ← hf]
    split <;> rfl

theorem LaneRec.measured_send (l : LaneRec) (y : Int) : (l.measured y).send = l.send ∧ (l.measured y).pan = l.pan := by
  unfold LaneRec.measured
  split <;> exact ⟨rfl, rfl⟩

/-- The mix does not read what the level monitor has measured. -/
theorem formMix_measureLanes (r : Lane → Int) (s : State) : (formMix r (measureLanes r s)).mix = (formMix r s).mix := by
  have hacc : ∀ left, accumulator (measureLanes r s) r left = accumulator s r left := fun left => by
    have hterm : laneTerm (measureLanes r s) r left = laneTerm s r left := funext fun l => by
      have hl : (measureLanes r s).lane l = (s.lane l).measured (r l) := by simp [measureLanes, State.lane]
      unfold laneTerm
      rw [hl, (LaneRec.measured_send _ _).1, (LaneRec.measured_send _ _).2]
    unfold accumulator
    rw [hterm]
    rfl
  unfold formMix
  simp only [hacc]
  rfl

/-- Behind the recorders a sample period does what `State.sampled` says. -/
theorem State.sampled_eq (s : State) (x : Lane → Int) (hw : s.store.windowPos < 128) :
    s.sampled x = (measureLanes (laneValue s x) s).countedOn (laneValue s x) := by
  unfold State.sampled State.countedOn
  extract_lets t L moves sounds sat r side front ofLayer bus click clip mainL mainR monL monR
  have hr : r = laneValue s x := funext fun l => (laneValue_eq s x l).symm
  have hbus : ∀ left master, bus left master = masterStage (accumulator s (laneValue s x) left) master := by
    intro left master
    rw [masterStage_eq, accumulator, sum_map_slotNumbers, sum_map_laneNumbers, ← hr]
    simp only [layerTerm_eq]
    rfl
  have hclick : click = clickValue s := (clickValue_eq s).symm
  rw [← placeAll_tickPort, ← placeAll_eq]
  set v := serveLayers (formMix (laneValue s x) (measureLanes (laneValue s x) s)) with hv
  have htransport : v.transport = s.transport := by simp [hv]
  have hlink : v.link = s.link := by simp [hv]
  refine congrArg placeAll (State.eq_of_fields ?_ ?_ ?_ ?_ ?_ ?_ ?_ ?_ ?_ ?_ ?_ ?_ ?_)
  · show _ = (advancePlayhead (countPulse v)).transport
    rw [advancePlayhead_transport, show (countPulse v).transport = { s.transport with pulseRemaining := s.transport.pulseRemaining - 1 } by
      rw [← htransport]; rfl]
  · show _ = (advancePlayhead (countPulse v)).table
    simp only [advancePlayhead_frame, countPulse_frame]
    rw [hv, serveLayers_table]
    rfl
  · simp [hv]
  · rw [show (tickPort (advancePlayhead (countPulse v))).lanes = (measureLanes (laneValue s x) s).lanes by simp [hv], ← hr]
    rfl
  · simp [hv]
  · have hs : (advancePlayhead (countPulse v)).store = v.store := by simp
    rw [tickPort, State.setStore_store, hs, hv, serveLayers_store, ← min_eq_right (show s.store.windowPos + 1 ≤ 128 from hw)]
    rfl
  · simp [hv]
  · rw [show (tickPort (advancePlayhead (countPulse v))).mix = (formMix (laneValue s x) s).mix by
      rw [← formMix_measureLanes]
      simp [hv]]
    have hclip : ∀ y, clip y = clipped 24 y := fun y => (clipped_24_eq y).symm
    have hsat : ∀ y, sat y = sat24 y := fun y => (sat24_eq y).symm
    simp only [hclip, hsat, mainL, mainR, monL, monR, hbus, hclick]
    rw [show (if sounds then s.mix.burstPos.map (· + 1) else none) = burstAfter s from (burstAfter_eq s).symm]
    rfl
  · simp [hv]
  · simp [hv]
  · simp [hv]
  · simp [hv]
  · simp [hv]

/-- A sample period as a whole: the recorders take their samples, then `State.sampled`. -/
theorem tick_eq_sampled (x : Lane → Int) (s : State) (hw : s.store.windowPos < 128) :
    tick x s =
      ((recordAll (laneValue s x) (exhaustFree (measureLanes (laneValue s x) s))).setLanes s.lanes).sampled x := by
  generalize hu : recordAll (laneValue s x) (exhaustFree (measureLanes (laneValue s x) s)) = u
  have hlanes : u.lanes = (measureLanes (laneValue s x) s).lanes := by simp [← hu]
  have hwindow : (u.setLanes s.lanes).store.windowPos < 128 := by
    rw [State.setLanes_store]
    simpa [← hu, measureLanes] using hw
  rw [State.sampled_eq _ _ hwindow, tick_eq_countedOn, hu]
  refine congrArg (fun v => State.countedOn v (laneValue s x)) ?_
  exact State.eq_of_fields rfl rfl rfl hlanes rfl rfl rfl rfl rfl rfl rfl rfl rfl

/-! ## What `State.sampled` leaves of layers and buffers -/

theorem landEntries_buffer_none (sl x : Slot) (entries : List Entry) (s : State) :
    (landEntries sl entries s).buffer x = none ↔ s.buffer x = none := by
  cases hb : s.buffer sl with
  | none => rw [landEntries_none _ _ _ hb]
  | some b =>
    rw [landEntries_some _ _ _ b hb, show ∀ u : State, (primingCheck u).buffer x = u.buffer x from fun u => by simp [State.buffer],
      State.setBuffer_buffer]
    split <;> simp_all

theorem placeSilent_buffer_none (sl x : Slot) (s : State) : (placeSilent s sl).buffer x = none ↔ s.buffer x = none := by
  unfold placeSilent
  split
  · exact landEntries_buffer_none _ _ _ _
  · rfl

theorem placeAll_buffer_none (x : Slot) (s : State) : (placeAll s).buffer x = none ↔ s.buffer x = none := by
  unfold placeAll
  induction slotNumbers generalizing s with
  | nil => rfl
  | cons sl rest ih =>
    rw [List.foldl_cons, ih]
    exact (placeSilent_buffer_none _ _ _).trans (placeSilent_buffer_none _ _ _)

theorem State.sampled_buffer_none (s : State) (x : Lane → Int) (sl : Slot) :
    (s.sampled x).buffer sl = none ↔ s.buffer sl = none := by
  unfold State.sampled
  rw [← placeAll_eq, placeAll_buffer_none]
  simp only [State.buffer, Vector.getElem_ofFn]
  split <;> simp

theorem ite_layer_state (c : Prop) [Decidable c] (l m : LayerRec) (h : m.state = l.state) :
    (if c then m else l).state = l.state := by
  split
  · exact h
  · rfl

theorem State.sampled_layer_state (s : State) (x : Lane → Int) (sl : Slot) :
    ((s.sampled x).layer sl).state = (s.layer sl).state := by
  unfold State.sampled
  rw [← placeAll_eq]
  simp only [State.layer, placeAll_frame, Vector.getElem_ofFn]
  cases hb : s.buffer ⟨sl.val, sl.isLt⟩ with
  | none => rfl
  | some b =>
    exact ite_layer_state _ _ _ rfl

end Sys2Proof.Machine
end

section
/-! The recorders of a sample period in an order that the spec leaves open. -/

namespace Sys2Proof.Machine

/-- A sample period that finds the part quiet and no port window over is `tick`. -/
theorem exec_samplePeriod_quiet (x0 x1 x2 x3 : BitVec 24) (s : State) (hq : quiet s) (hr : isRunning s = true)
    (hw : s.store.windowPos < 128) : exec (.samplePeriod x0 x1 x2 x3) s = .next (tick (inputs x0 x1 x2 x3) s) := by
  have hdue : portWindowDue s = false := by simpa [portWindowDue] using Nat.ne_of_lt hw
  simp only [exec, execSamplePeriod, settle_quiet s hq, hr, if_true, startWindowIfDue, hdue, Bool.false_eq_true, if_false]

/-- Outside FREE DEFINING no base take closes or aborts by running out. -/
theorem exhaustFree_of_not_freeDefining (s : State) (h : s.transport.freeDefining = false) : exhaustFree s = s := by
  simp [exhaustFree, h]

/-- Two or more claims on pages come first, in an open order. -/
theorem recordAll_of_claims (value : Lane → Int) (s : State) (claims others : List Recorder)
    (hclaims : recorderNumbers.filter (needsPage s) = claims) (hothers : (recorderNumbers.filter fun r => !needsPage s r) = others)
    (htwo : ¬claims.length < 2) :
    recordAll value s =
      (permute (Config.freeOrder s.openOrders) claims ++ others).foldl (recordSample value)
        (s.setOpenOrders (s.openOrders + 1)) := by
  unfold recordAll openOrder
  rw [hclaims, hothers, if_neg htwo]

/-! ## SAMPLE_PERIOD with two recorders that name one layer -/

/-- The layer of both recorders of `sharedTake`: one full page, so that the next sample opens a page. -/
def sharedLayer : LayerRec :=
  { LayerRec.freed with
    state := .recording, origin := some (.lane 0), k := some 0, len := 4096, extents := [⟨0, 1⟩] }

/-- RUNNING with an empty pool and two RECORDING recorders that name slot 0, nothing left to drain: `r` has its tail flag set, `q` has
not. No reachable state is like this (`songSound` forbids it), but the statement does not shut it out. -/
def sharedTake (q r : Recorder) : State :=
  { State.reset with
    transport := { State.reset.transport with state := .running, length := some 4800 }
    takes :=
      { recs :=
          (State.reset.takes.recs.set r.val { takeRecorder 0 0 false with tail := true }).set q.val (takeRecorder 0 0 false)
        order := [0, 1] }
    table := { State.reset.table with layers := State.reset.table.layers.set 0 sharedLayer }
    store := { State.reset.store with windowPos := 5, stalled := true }
    rest := { State.reset.rest with run := .awake } }

/-- `sharedTake` with its lanes measured. -/
def sharedMeasured (q r : Recorder) : State := measureLanes (laneValue (sharedTake q r) fun _ => 0) (sharedTake q r)

/-- What the recorders of `sharedTake` leave when they take the sample period in this order. -/
def sharedTaken (q r : Recorder) (order : List Recorder) : State :=
  ((order ++ [2, 3]).foldl (recordSample (laneValue (sharedTake q r) fun _ => 0))
    ((sharedMeasured q r).setOpenOrders 1)).setLanes (sharedTake q r).lanes

theorem sharedTake_facts : ∀ q r : Recorder, (q, r) ∈ [((0 : Recorder), (1 : Recorder)), (1, 0)] →
    quiet (sharedTake q r) ∧
      ((sharedTake q r).recorder q).state = .recording ∧ ((sharedTake q r).recorder q).slot = some 0 ∧
      (sharedTake q r).buffer 0 = none ∧ recorderNumbers.filter (needsPage (sharedMeasured q r)) = [0, 1] ∧
      (recorderNumbers.filter fun x => !needsPage (sharedMeasured q r) x) = [2, 3] ∧
      ((sharedTaken q r [q, r]).layer 0).state = .closing ∧ (sharedTaken q r [q, r]).buffer 0 ≠ none := by
  decide +kernel

theorem sharedTake_ticks (q r : Recorder) (hqr : (q, r) ∈ [((0 : Recorder), (1 : Recorder)), (1, 0)]) :
    exec (.samplePeriod 0 0 0 0) (sharedTake q r) =
      .next ((sharedTaken q r (permute (Config.freeOrder 0) [0, 1])).sampled fun _ => 0) := by
  obtain ⟨hquiet, -, -, -, hclaims, hothers, -⟩ := sharedTake_facts q r hqr
  have hx : inputs 0 0 0 0 = fun _ => 0 := by
    funext l
    simp [inputs]
  rw [exec_samplePeriod_quiet _ _ _ _ _ hquiet rfl (show (5 : Nat) < 128 by decide), hx,
    tick_eq_sampled _ _ (show (5 : Nat) < 128 by decide), ← sharedMeasured, exhaustFree_of_not_freeDefining _ rfl,
    recordAll_of_claims _ _ _ _ hclaims hothers (by decide)]
  rfl

/-- Refutes O43: in `sharedTake` the recorder without the tail flag may take the sample period first. Its layer then becomes ACTIVE with a
buffer of entries that the other recorder's FIFO serves, and the other recorder takes the same layer to CLOSING, so that neither case that
`State.recordedInto` leaves for a layer's buffer holds. Which of the two comes first is open; either order has such a state. -/
theorem not_samplePeriodFormsTheMix : ¬ Obligations.SamplePeriodFormsTheMix := by
  intro hall
  obtain ⟨q, r, hqr, horder⟩ : ∃ q r : Recorder, (q, r) ∈ [((0 : Recorder), (1 : Recorder)), (1, 0)] ∧
      permute (Config.freeOrder 0) [(0 : Recorder), 1] = [q, r] := by
    rcases List.perm_pair.mp (permute_perm (Config.freeOrder 0) [(0 : Recorder), 1]) with h | h
    · exact ⟨0, 1, by decide, h⟩
    · exact ⟨1, 0, by decide, h⟩
  obtain ⟨hquiet, hrecording, hslot, hnone, -, -, hclosing, hbuffer⟩ := sharedTake_facts q r hqr
  obtain ⟨-, hrecords, -⟩ := hall (sharedTake q r) 0 0 0 0 hquiet rfl
  obtain ⟨u, ⟨-, -, hkept⟩, hu⟩ :=
    hrecords (show (5 : Nat) < 128 by decide) (show TState.running ≠ .priming by decide) nofun
  rw [sharedTake_ticks q r hqr, horder] at hu
  have hsame := Host.Outcome.next.inj hu
  have hclosing' : (u.layer 0).state = .closing := by
    rw [← State.sampled_layer_state u, ← hsame, State.sampled_layer_state, hclosing]
  have hbuffer' : u.buffer 0 ≠ none := fun h => hbuffer <| by
    rw [← State.sampled_buffer_none _ fun _ => 0, hsame, State.sampled_buffer_none, h]
  have hcases := hkept 0
  rw [if_pos ⟨q, hrecording, hslot⟩] at hcases
  obtain ⟨-, hsame | ⟨hactive, -⟩⟩ := hcases
  · exact hbuffer' (hsame.trans hnone)
  · rw [hclosing'] at hactive
    cases hactive

end Sys2Proof.Machine
end

section
/-! Boundaries at which cues fire: the statements about whole walks, against a walk in which a STOP_TAKE brings the layer of a closed base
take back into a take. -/

namespace Sys2Proof.Machine

/-! ## The boundary rows -/

theorem takeFulls_of_none_due (s : State) (h : ∀ r, takeFullDue s r = false) : takeFulls s = s := by
  have hat : ∀ r, takeFullAt s r = s := fun r => by simp [takeFullAt, h]
  simp [takeFulls, recorderNumbers, hat]

theorem exec_cycleStart (s : State) (hr : isRunning s = true) (hd : cycleStartDue s = true) (h : ∀ r, takeFullDue s r = false) :
    exec .cycleStart s = .next (wrapCycle s) := by
  simp only [exec, execCycleStart, takeEvent, hr, hd, Bool.and_self, if_true, takeFulls_of_none_due s h]

theorem exec_beatBoundary (s : State) (hr : isRunning s = true) (hd : beatDue s = true) (h : ∀ r, takeFullDue s r = false) :
    exec .beatBoundary s = .next (takeBeat s) := by
  simp only [exec, execBeatBoundary, takeEvent, hr, hd, Bool.and_self, if_true, takeFulls_of_none_due s h]

theorem exec_freeSelfClose (s : State) (hr : isRunning s = true) (hd : selfCloseDue s = true) :
    exec .freeSelfClose s = .next (closure 1 2304000 s) := by
  simp only [exec, execFreeSelfClose, takeEvent, hr, hd, Bool.and_self, if_true]
  rfl

/-- The state in which the receivers of a boundary event that raise reports take it. -/
def boundaryBegun (beat : Nat) (skip : Option Slot) (s : State) : State :=
  pulseAt beat (startBurst beat (if beat = 0 then advanceCycles skip s else s))

/-- With both receivers to act, either of them is the first. -/
theorem raiseBoundary_both (beat : Nat) (freeClosure : Bool) (skip : Option Slot) (s : State)
    (h : receivers ⟨beat, s.transport.c, freeClosure⟩ (boundaryBegun beat skip s) = [.link, .cues]) :
    ∃ order : List Receiver, (order = [.link, .cues] ∨ order = [.cues, .link]) ∧
      raiseBoundary beat freeClosure skip s =
        order.foldl (takeBoundary ⟨beat, s.transport.c, freeClosure⟩)
          ((boundaryBegun beat skip s).setOpenOrders ((boundaryBegun beat skip s).openOrders + 1)) := by
  refine ⟨permute (Config.freeOrder (boundaryBegun beat skip s).openOrders) [.link, .cues],
    List.perm_pair.mp (permute_perm _ _), ?_⟩
  show (openOrder (receivers ⟨beat, s.transport.c, freeClosure⟩ (boundaryBegun beat skip s)) (boundaryBegun beat skip s)).1.foldl _
    (openOrder (receivers ⟨beat, s.transport.c, freeClosure⟩ (boundaryBegun beat skip s)) (boundaryBegun beat skip s)).2 = _
  rw [h]
  rfl

/-! ## A walk that brings a closed base take back

`reopened` is RUNNING with the recorder of a closed base take in its tail drain and a second recorder, RECORDING, that names the same
layer (a state that `songSound` forbids, but that the statements do not shut out). A STOP_TAKE of the second recorder takes the layer
to CLOSING, so that the UNDO behind it finds the base recorder as its newest take and aborts the base take, although no base take was
left in a take before the walk (`State.undoSpares`). What stands behind the UNDO is cancelled. -/

/-- The cues of the walk: a STOP_TAKE of recorder 1, an UNDO, and one more. -/
def reopening (last : CueEntry) : List CueEntry :=
  [⟨1, .stopTake, none, 1, 0, 0⟩, ⟨2, .undo, none, 0, 0, 0⟩, last]

/-- A MUTE of group 0. -/
def lastMute : CueEntry := ⟨3, .mute, none, 1, 0, 0⟩

/-- A HALT. -/
def lastHalt : CueEntry := ⟨3, .halt, none, 0, 0, 0⟩

/-- The two recorders that name slot 0, the base recorder as given, and the layer in the given state. -/
def twoOfOneLayer (base : RecorderRec) (state : LState) : State :=
  { State.reset with
    transport := { State.reset.transport with state := .running, length := some 4800 }
    takes :=
      { recs :=
          (State.reset.takes.recs.set 0 { base with fifo := [.sample 0] }).set 1
            { takeRecorder 0 0 false with fifo := [.sample 0] }
        order := [1, 0] }
    table :=
      { State.reset.table with
        layers := State.reset.table.layers.set 0
          { LayerRec.freed with state := state, origin := some (.lane 0), k := some 0, len := 100, extents := [⟨0, 1⟩] } }
    rest := { State.reset.rest with run := .awake } }

/-- The base recorder in its tail drain, its layer ACTIVE. -/
def reopened : State := twoOfOneLayer { takeRecorder 0 0 true with state := .closing, tail := true } .active

/-- `reopened` at its second beat, with these cues in the beat queue. -/
def reopenedAtBeat (last : CueEntry) : State :=
  { reopened with
    transport := { reopened.transport with p := 1200, beatDue := true }
    cues := ⟨[], reopening last⟩ }

/-- The frames that an outcome leaves in the outgoing queue. -/
def framesOf (o : Host.Outcome State Fault Refusal) : List Message :=
  match o with
  | .next t => t.link.outQ
  | _ => []

/-- Refutes O48: in `reopenedAtBeat` the UNDO ends the walk, and the MUTE behind it is CANCELLED and does not fire. -/
theorem not_beatBoundariesFireTheBeatQueue : ¬ Obligations.BeatBoundariesFireTheBeatQueue := by
  intro hall
  obtain ⟨-, hfires, -⟩ := hall (reopenedAtBeat lastMute) 1 rfl rfl rfl (by decide +kernel) (by decide +kernel) (by decide)
  obtain ⟨hwalk, -⟩ := hfires (by decide) (by unfold State.walkRuns State.undoSpares; decide +kernel)
  exact absurd (congrArg framesOf (hwalk rfl)) (by decide +kernel)

/-- The report that the MUTE behind the UNDO has been cancelled. -/
def muteCancelled : Message := .cueFired 3 .mute .cancelled 255

/-- What a boundary at which both receivers act leaves, in either order, reports the MUTE as CANCELLED. -/
def cancelsMute (beat : Nat) (freeClosure : Bool) (skip : Option Slot) (s : State) : Prop :=
  ∀ order ∈ [[Receiver.link, Receiver.cues], [Receiver.cues, Receiver.link]],
    muteCancelled ∈
      (order.foldl (takeBoundary ⟨beat, s.transport.c, freeClosure⟩)
        ((boundaryBegun beat skip s).setOpenOrders ((boundaryBegun beat skip s).openOrders + 1))).link.outQ

theorem raiseBoundary_cancelsMute (beat : Nat) (freeClosure : Bool) (skip : Option Slot) (s : State)
    (h : receivers ⟨beat, s.transport.c, freeClosure⟩ (boundaryBegun beat skip s) = [.link, .cues])
    (hc : cancelsMute beat freeClosure skip s) : muteCancelled ∈ (raiseBoundary beat freeClosure skip s).link.outQ := by
  obtain ⟨order, horder, heq⟩ := raiseBoundary_both beat freeClosure skip s h
  rw [heq]
  exact hc order (by simpa using horder)

/-- Fired in full, the cues of a closed state do not cancel the MUTE, with the BOUNDARY report before or behind them. -/
theorem not_takenInEitherOrder (fires : CueEntry → Bool) (closed : State) (t : State)
    (h : takenInEitherOrder 0 (fun u v => v = u.cuesFired fires) closed t)
    (hbehind : muteCancelled ∉
      ((State.cuesFired { closed with openOrders := closed.openOrders + 1 } fires).boundaryReportedFor closed.transport.c 0).link.outQ)
    (hbefore : muteCancelled ∉
      ((State.boundaryReported { closed with openOrders := closed.openOrders + 1 } 0).cuesFired fires).link.outQ) :
    muteCancelled ∉ t.link.outQ := by
  rcases h with ⟨u, rfl, rfl⟩ | rfl
  · exact hbehind
  · exact hbefore

/-- `reopened` at the end of its cycle, with these cues in the cycle queue. -/
def reopenedAtWrap : State :=
  { reopened with transport := { reopened.transport with p := 4800 }, cues := ⟨reopening lastMute, []⟩ }

/-- Refutes O47: in `reopenedAtWrap` the UNDO ends the walk, and the MUTE behind it is CANCELLED and does not fire. -/
theorem not_cycleStartsAdvanceTheSong : ¬ Obligations.CycleStartsAdvanceTheSong := by
  intro hall
  have hfull : ∀ r, takeFullDue reopenedAtWrap r = false := by decide +kernel
  obtain ⟨-, hfires, -⟩ := hall reopenedAtWrap 4800 rfl rfl rfl hfull (.inl rfl)
  obtain ⟨t, ht, htaken⟩ := hfires (by unfold State.firesAny; decide +kernel)
    (by unfold State.walkRuns State.undoSpares; decide +kernel)
  rw [exec_cycleStart _ rfl (by decide +kernel) hfull] at ht
  obtain rfl := Host.Outcome.next.inj ht
  refine not_takenInEitherOrder _ _ _ htaken (by decide +kernel) (by decide +kernel) ?_
  exact raiseBoundary_cancelsMute 0 false none
    (reopenedAtWrap.setTransport { reopenedAtWrap.transport with p := 0, c := 1 }) (by decide +kernel)
    (by unfold cancelsMute; decide +kernel)

/-- FREE DEFINING at 2,304,000 with the two recorders of `twoOfOneLayer`, the base take RECORDING, and the cues in the cycle queue. -/
def reopenedAtClosure : State :=
  let s := twoOfOneLayer (takeRecorder 0 0 true) .recording
  { s with
    transport := { State.reset.transport with state := .defining, p := 2304000 }
    cues := ⟨reopening lastMute, []⟩ }

/-- Refutes O25: in `reopenedAtClosure`, once closed, the UNDO ends the walk, and the MUTE behind it is CANCELLED and does not fire. -/
theorem not_baseTakeCloses : ¬ Obligations.BaseTakeCloses := by
  intro hall
  obtain ⟨-, hself, -⟩ := hall reopenedAtClosure 0 0 0 0 rfl rfl rfl (fun x hx => absurd hx (Nat.not_lt_zero x.val)) rfl
  obtain ⟨-, hfires, -⟩ := hself rfl rfl rfl
  obtain ⟨t, ht, htaken⟩ := hfires (by unfold State.firesAny; decide +kernel)
    (by unfold State.walkRuns State.undoSpares; decide +kernel)
  rw [exec_freeSelfClose _ rfl (by decide +kernel)] at ht
  obtain rfl := Host.Outcome.next.inj ht
  refine not_takenInEitherOrder _ _ _ htaken (by decide +kernel) (by decide +kernel) ?_
  exact raiseBoundary_cancelsMute 0 true (some 0)
    (closeBaseTake 1 0 0 (reopenedAtClosure.setTransport (reopenedAtClosure.transport.enterClosed 2304000))) (by decide +kernel)
    (by unfold cancelsMute; decide +kernel)

/-- Reports leave the transport as it is. -/
theorem State.cancelled_transport (s : State) (entries : List CueEntry) : (s.cancelled entries).transport = s.transport := by
  unfold State.cancelled
  refine foldl_transport _ (fun u e => ?_) entries s
  rw [State.reported_eq]
  rfl

/-- A HALT taken outside RUNNING, with no take to end and no job to abort, leaves HALTED. -/
theorem haltTaken_state (u t : State) (hu : u.transport.state ≠ .running) (h : haltTaken u t) : t.transport.state = .halted := by
  have hruns : (u.transport.state == .running) = false := by simpa using hu
  obtain ⟨ends, hends, order, horder, rfl⟩ := h
  simp only [hruns, Bool.false_and, List.filter_false, List.perm_nil] at hends horder ⊢
  subst hends
  suffices hfold : ∀ (fs : List (State → State)) (v : State), (∀ f ∈ fs, ∀ w : State, (f w).transport = w.transport) →
      (fs.foldl (fun v f => f v) v).transport = v.transport by
    rw [hfold order _ fun f hf w => ?_]
    · rfl
    · rcases List.mem_cons.mp (horder.mem_iff.mp hf) with rfl | hf
      · exact State.cancelled_transport _ _
      · rcases List.mem_cons.mp hf with rfl | hf
        · rfl
        · obtain rfl := List.mem_singleton.mp hf
          rfl
  intro fs
  induction fs with
  | nil => intro v _; rfl
  | cons f fs ih =>
    intro v hv
    rw [List.foldl_cons, ih _ fun g hg => hv g (List.mem_cons_of_mem _ hg), hv f List.mem_cons_self]

/-- Refutes O50: in `reopenedAtBeat` the UNDO ends the walk in IDLE, and the HALT behind it is CANCELLED and does not take effect. -/
theorem not_walksEndWithAHaltOrAnAbort : ¬ Obligations.WalksEndWithAHaltOrAnAbort := by
  intro hall
  obtain ⟨-, hbeat⟩ := hall (reopenedAtBeat lastHalt) 4800 ((reopening lastHalt).take 2) lastHalt ⟨[], []⟩ rfl rfl (by decide +kernel)
  obtain ⟨hhalt, -⟩ := hbeat 1 rfl (.inr ⟨(reopening lastHalt).take 2, [], rfl, rfl, rfl⟩) (by decide) (by decide +kernel)
  obtain ⟨t, ht, htaken, -⟩ := hhalt ⟨rfl, rfl, by unfold State.undoSpares; decide +kernel, by decide +kernel⟩
  have hhalted := haltTaken_state _ _ (by decide +kernel) (htaken rfl)
  rw [exec_beatBoundary _ rfl (by decide +kernel) (by decide +kernel)] at ht
  obtain rfl := Host.Outcome.next.inj ht
  exact absurd hhalted (by decide +kernel)

end Sys2Proof.Machine
end

section
/-! SUPPORT. The ends of a take in the words of the statements: `State.withTakeDropped`, `State.withTakeHandedOver`, `State.withTakeClosing`
and `State.withTakeEnded`. -/

namespace Sys2Proof.Machine

/-! ## A recorder back in IDLE -/

theorem resetRecorder_recorder (r q : Recorder) (s : State) :
    (resetRecorder r s).recorder q = if q = r then RecorderRec.idle else s.recorder q :=
  State.setRecorder_recorder s r q RecorderRec.idle

/-- A recorder that is in no tail drain serves no layer. -/
theorem tailRecorder_resetRecorder (r : Recorder) (s : State) (sl : Slot) (h : (s.recorder r).tail = false) :
    tailRecorder (resetRecorder r s) sl = tailRecorder s sl := by
  unfold tailRecorder
  congr 1
  funext q
  rw [resetRecorder_recorder]
  by_cases hq : q = r
  · rw [if_pos hq, hq, h]
    rfl
  · rw [if_neg hq]

theorem tailRecorder_tail (s : State) (sl : Slot) (r : Recorder) (h : tailRecorder s sl = some r) :
    (s.recorder r).tail = true ∧ (s.recorder r).slot = some sl := by
  have hf := List.find?_some h
  simpa using hf

theorem readOffset_resetRecorder (r : Recorder) (s : State) (sl : Slot) (o : Nat) (h : (s.recorder r).tail = false) :
    readOffset (resetRecorder r s) sl o = readOffset s sl o := by
  unfold readOffset
  rw [tailRecorder_resetRecorder r s sl h]
  cases ht : tailRecorder s sl with
  | none => rfl
  | some q =>
    have hq : q ≠ r := fun e => by
      have := (tailRecorder_tail s sl q ht).1
      rw [e, h] at this
      cases this
    dsimp only
    rw [resetRecorder_recorder, if_neg hq]
    rfl

theorem fromFifo_resetRecorder (r : Recorder) (s : State) (sl : Slot) (o : Nat) (h : (s.recorder r).tail = false) :
    fromFifo (resetRecorder r s) sl o = fromFifo s sl o := by
  unfold fromFifo
  rw [tailRecorder_resetRecorder r s sl h]
  cases ht : tailRecorder s sl with
  | none => rfl
  | some q =>
    have hq : q ≠ r := fun e => by
      have := (tailRecorder_tail s sl q ht).1
      rw [e, h] at this
      cases this
    dsimp only
    rw [resetRecorder_recorder, if_neg hq]

theorem besideRefills_resetRecorder (r : Recorder) : BesideRefills (resetRecorder r) :=
  ⟨fun _ => rfl, fun _ _ => rfl, fun _ _ => rfl, fun _ _ => rfl, fun _ _ _ => rfl⟩

theorem raiseRefill_resetRecorder (r : Recorder) (s : State) (sl : Slot) (h : (s.recorder r).tail = false) :
    raiseRefill sl (resetRecorder r s) = resetRecorder r (raiseRefill sl s) := by
  have h' : ((placeSilent s sl).recorder r).tail = false := by
    simpa [State.recorder] using h
  exact (besideRefills_resetRecorder r).raiseRefill s sl
    (fun o => ⟨readOffset_resetRecorder r s sl o h, fromFifo_resetRecorder r s sl o h⟩)
    fun o => ⟨readOffset_resetRecorder r _ sl o h', fromFifo_resetRecorder r _ sl o h'⟩

theorem linkFree_resetRecorder (r : Recorder) : LinkFree (resetRecorder r) := ⟨fun _ _ => rfl, fun _ => rfl⟩

/-! ## A take that leaves no layer -/

theorem resetRecorder_withLayerFreed (r : Recorder) (sl : Slot) (s : State) (q : RecorderRec) (ht : s.store.transfer = none)
    (htail : q.tail = (s.recorder r).tail) (hslot : q.slot = (s.recorder r).slot) :
    resetRecorder r ((s.setRecorder r q).withLayerFreed sl) = resetRecorder r (s.withLayerFreed sl) := by
  have hd : ∀ x, s.drains x = false ∧ (s.setRecorder r q).drains x = false := fun x => by
    simp [State.drains, ht]
  have htr : tailRecorder (s.setRecorder r q) sl = tailRecorder s sl := by
    refine tailRecorder_congr sl fun x => ?_
    rw [State.setRecorder_recorder]
    by_cases hx : x = r
    · rw [if_pos hx, hx]
      exact ⟨htail, hslot⟩
    · rw [if_neg hx]
      exact ⟨rfl, rfl⟩
  refine State.eq_of_fields rfl rfl rfl rfl ?_ ?_ rfl rfl rfl rfl rfl rfl rfl
  · unfold resetRecorder State.withLayerFreed
    simp only [State.setTakes_takes, htr, hd, Bool.false_eq_true, false_and, if_false, State.setRecorder_order]
    congr 1
    ext1 i hi
    simp only [Vector.getElem_set, Vector.getElem_ofFn, State.setRecorder_recorder]
    by_cases hx : r.val = i
    · simp [hx]
    · have hne : ¬(⟨i, hi⟩ : Recorder) = r := fun e => hx (by rw [← e])
      simp [hx, hne]
  · unfold resetRecorder State.withLayerFreed
    simp [ht]

/-- The transfer of a recorder ended, a layer freed, and the recorder back in IDLE. -/
theorem resetRecorder_freeLayer (r : Recorder) (sl : Slot) (s : State) :
    resetRecorder r (freeLayer sl (endTransferIf (ofRecorder r) s)) =
      resetRecorder r
        ((s.setStore { s.store with transfer := s.store.transfer.filter fun x => !ofRecorder r x.kind }).withLayerFreed sl) := by
  rw [freeLayer_eq]
  cases hx : s.store.transfer with
  | none =>
    rw [endTransferIf_none _ s hx, Option.filter_none, ← hx]
    rfl
  | some x =>
    cases hm : ofRecorder r x.kind with
    | false =>
      rw [endTransferIf_other _ s x hx hm, option_filter_of_eq_true _ _ (by simp [hm]), ← hx]
      rfl
    | true =>
      rw [endTransferIf_mine _ s x hx hm, option_filter_of_eq_false _ _ (by simp [hm])]
      obtain ⟨kind, left⟩ := x
      cases kind with
      | drain q n =>
        obtain rfl : q = r := by simpa [ofRecorder] using hm
        exact resetRecorder_withLayerFreed q sl _ _ rfl rfl rfl
      | refill => simp [ofRecorder] at hm
      | bounceRead => simp [ofRecorder] at hm
      | bounceWrite => simp [ofRecorder] at hm

/-- A take that leaves no layer (R101, R102). -/
theorem dropTake_eq (r : Recorder) (sl : Slot) (reason : EndReason) (s : State) :
    dropTake r sl reason s = s.withTakeDropped r sl reason := by
  unfold dropTake
  dsimp only
  rw [resetRecorder_freeLayer, reportTakeEnd_eq_reported]
  unfold State.withTakeDropped
  dsimp only
  rw [State.reported_eq]
  rfl

/-! ## A take whose layer is handed over -/

/-- A finished drain hands its layer over (R100). -/
theorem finishTake_eq (r : Recorder) (sl : Slot) (s : State) (h : (s.recorder r).tail = false) :
    finishTake r sl s = s.withTakeHandedOver r sl ((s.recorder r).endReason.getD .stopped) := by
  unfold finishTake
  dsimp only
  rw [reportTakeEnd_eq_reported, (linkFree_joinStack sl).reported, (linkFree_resetRecorder r).reported, joinStack_eq,
    ← raiseRefill_eq, ← raiseRefill_resetRecorder r _ sl (by exact h), raiseRefill_eq]
  rfl

/-- The hand-over does not read what the end of the take has written before. -/
theorem withTakeHandedOver_closing (s : State) (r : Recorder) (sl : Slot) (reason : EndReason) (q : RecorderRec) :
    ((s.setRecorder r q).setLayer sl { s.layer sl with state := .closing }).withTakeHandedOver r sl reason =
      s.withTakeHandedOver r sl reason := by
  unfold State.withTakeHandedOver
  simp only [State.setLayer_layer_self]
  refine congrArg (fun u : State => (u.withRefillRaised sl).reported 31 _) ?_
  refine State.eq_of_fields rfl ?_ rfl rfl ?_ rfl rfl rfl rfl rfl rfl rfl rfl
  · simp [State.setLayer]
  · simp [State.setRecorder]

/-! ## The normal end of a take -/

/-- A recorder in CLOSING that is not in its tail drain and not the base recorder hands its layer over once everything is in memory. -/
theorem drainDone_eq (r : Recorder) (s : State) (sl : Slot) (hslot : (s.recorder r).slot = some sl)
    (htail : (s.recorder r).tail = false) (hbase : (s.recorder r).base = false) (hclosing : (s.recorder r).state = .closing) :
    drainDone r s =
      if (s.recorder r).fifo = [] ∧ (s.recorder r).gap = 0 ∧ (s.recorder r).inFlight = false then finishTake r sl s else s := by
  have hd : drained (s.recorder r) = true ↔
      (s.recorder r).fifo = [] ∧ (s.recorder r).gap = 0 ∧ (s.recorder r).inFlight = false := by
    simp [drained, hclosing, and_assoc]
  unfold drainDone
  simp only [htail, hbase, hslot, hd, Bool.false_eq_true, if_false]

theorem State.setRecorder_self (s : State) (r : Recorder) : s.setRecorder r (s.recorder r) = s := by
  simp [State.setRecorder, State.recorder, State.setTakes]

theorem State.setLayer_self (s : State) (sl : Slot) : s.setLayer sl (s.layer sl) = s := by
  simp [State.setLayer, State.layer, State.setTable]

theorem pushZeros_ne_nil (fifo : List FifoEntry) (n : Nat) : pushZeros fifo n ≠ [] := by
  unfold pushZeros
  split <;> simp

/-- A gap that is open becomes zero-fill and lost samples (R94). -/
theorem closeGap_eq (r : Recorder) (sl : Slot) (s : State) :
    closeGap r sl s =
      (s.setRecorder r { s.recorder r with fifo := (s.recorder r).filled, gap := 0 }).setLayer sl
        { s.layer sl with lost := (s.layer sl).lostIn (s.recorder r) } := by
  unfold closeGap RecorderRec.filled LayerRec.lostIn
  by_cases hg : (s.recorder r).gap = 0
  · have hq : ({ s.recorder r with gap := 0 } : RecorderRec) = s.recorder r := by rw [← hg]
    rw [if_neg (by omega), if_pos hg, if_pos hg]
    show s = (s.setRecorder r { s.recorder r with gap := 0 }).setLayer sl (s.layer sl)
    rw [hq, State.setRecorder_self, State.setLayer_self]
  · rw [if_pos (by omega), if_neg hg, if_neg hg]
    rfl

/-- Recorder `r` and layer `sl` in CLOSING for `reason`, the open gap closed (R94, R96). -/
theorem closing_eq (reason : EndReason) (s : State) (r : Recorder) (sl : Slot) :
    (((closeGap r sl s).setRecorder r
        { (closeGap r sl s).recorder r with state := .closing, endReason := some reason }).setLayer sl
      { ((closeGap r sl s).setRecorder r
          { (closeGap r sl s).recorder r with state := .closing, endReason := some reason }).layer sl with state := .closing }) =
      s.withTakeClosing r sl reason := by
  rw [closeGap_eq]
  refine State.eq_of_fields rfl ?_ rfl rfl ?_ rfl rfl rfl rfl rfl rfl rfl rfl
  · simp [State.setLayer, State.withTakeClosing, LayerRec.lostIn, State.layer]
  · simp [State.setRecorder, State.setLayer, State.withTakeClosing, RecorderRec.filled, State.recorder]

/-- A normal end of a take that is not the base take and in no tail drain (R96, R100, R101). -/
theorem endTake_eq (reason : EndReason) (s : State) (r : Recorder) (htail : (s.recorder r).tail = false)
    (hbase : (s.recorder r).base = false) : endTake reason s r = s.withTakeEnded reason r := by
  unfold endTake State.withTakeEnded
  cases hs : (s.recorder r).slot with
  | none => rfl
  | some sl =>
    dsimp only
    by_cases hlen : (s.layer sl).len = 0
    · rw [if_pos hlen, if_pos hlen, dropTake_eq]
    · have hr : (s.withTakeClosing r sl reason).recorder r =
          { s.recorder r with
            state := .closing, endReason := some reason, gap := 0, fifo := (s.recorder r).filled } := by
        rw [← closing_eq, closeGap_eq]
        simp
      have hd : (s.recorder r).filled = [] ∧ (0 : Nat) = 0 ∧ (s.recorder r).inFlight = false ↔
          (s.recorder r).fifo = [] ∧ (s.recorder r).gap = 0 ∧ (s.recorder r).inFlight = false := by
        unfold RecorderRec.filled
        split <;> simp_all [pushZeros_ne_nil]
      rw [if_neg hlen, if_neg hlen, closing_eq, drainDone_eq r _ sl (by rw [hr]; exact hs) (by rw [hr]; exact htail)
        (by rw [hr]; exact hbase) (by rw [hr]), hr]
      by_cases hc : (s.recorder r).fifo = [] ∧ (s.recorder r).gap = 0 ∧ (s.recorder r).inFlight = false
      · rw [if_pos (hd.mpr hc), if_pos hc, finishTake_eq r sl _ (by rw [hr]; exact htail), hr,
          ← withTakeHandedOver_closing s r sl reason
            { s.recorder r with state := .closing, endReason := some reason, gap := 0, fifo := (s.recorder r).filled }]
        refine congrArg (fun u : State => u.withTakeHandedOver r sl reason) ?_
        refine State.eq_of_fields rfl ?_ rfl rfl rfl rfl rfl rfl rfl rfl rfl rfl rfl
        simp [State.withTakeClosing, State.setLayer, hc.2.1]
      · rw [if_neg (mt hd.mp hc), if_neg hc]

end Sys2Proof.Machine
end

section
/-! HALT: the playhead stops (`State.playheadHalted`), and the blocks that raise reports take the notice in an open order (`haltTaken`). -/

namespace Sys2Proof.Machine

/-! ## The abort of a job -/

theorem endTransferIf_isBounce (s : State) :
    ∃ b, endTransferIf isBounce s =
      (s.setStore { s.store with transfer := s.store.transfer.filter fun x => !isBounce x.kind }).setJob
        { s.job with inFlight := b } := by
  cases hx : s.store.transfer with
  | none =>
    refine ⟨s.job.inFlight, ?_⟩
    rw [endTransferIf_none _ s hx, Option.filter_none, ← hx]
    rfl
  | some x =>
    cases hm : isBounce x.kind with
    | false =>
      refine ⟨s.job.inFlight, ?_⟩
      rw [endTransferIf_other _ s x hx hm, option_filter_of_eq_true _ _ (by simp [hm]), ← hx]
      rfl
    | true =>
      refine ⟨false, ?_⟩
      rw [endTransferIf_mine _ s x hx hm, option_filter_of_eq_false _ _ (by simp [hm])]
      obtain ⟨kind, left⟩ := x
      cases kind with
      | drain => simp [isBounce] at hm
      | refill => simp [isBounce] at hm
      | bounceRead => rfl
      | bounceWrite => rfl

/-- The abort of a running job (R157). -/
theorem abortBounce_eq (s : State) : abortBounce s = s.withBounceAborted := by
  unfold abortBounce State.withBounceAborted
  cases hr : s.job.result with
  | none => rfl
  | some result =>
    obtain ⟨b, hb⟩ := endTransferIf_isBounce s
    dsimp only
    rw [hb, freeLayer_eq]
    unfold reportBounceEnd
    rw [raiseReport_eq_reported, State.reported_eq, State.reported_eq]
    refine State.eq_of_fields rfl ?_ rfl rfl rfl rfl rfl rfl rfl rfl rfl rfl rfl
    simp only [setHeld, mapLayers, List.contains_iff_mem]
    rfl

/-! ## The halted playhead -/

theorem cycles_iff (x : LState) : x.cycles = true ↔ ¬(x = .free ∨ x = .building) := by
  cases x <;> decide

theorem endTransferIf_isRefill (s : State) :
    ∃ buffers, endTransferIf isRefill s =
      s.setStore { s.store with transfer := s.store.transfer.filter fun x => !isRefill x.kind, buffers := buffers } := by
  cases hx : s.store.transfer with
  | none =>
    refine ⟨s.store.buffers, ?_⟩
    rw [endTransferIf_none _ s hx, Option.filter_none, ← hx]
    rfl
  | some x =>
    cases hm : isRefill x.kind with
    | false =>
      refine ⟨s.store.buffers, ?_⟩
      rw [endTransferIf_other _ s x hx hm, option_filter_of_eq_true _ _ (by simp [hm]), ← hx]
      rfl
    | true =>
      rw [endTransferIf_mine _ s x hx hm, option_filter_of_eq_false _ _ (by simp [hm])]
      obtain ⟨kind, left⟩ := x
      cases kind with
      | drain => simp [isRefill] at hm
      | refill sl es => exact ⟨_, rfl⟩
      | bounceRead => simp [isRefill] at hm
      | bounceWrite => simp [isRefill] at hm

/-- `s` at a HALT before the blocks that raise reports have taken the notice. -/
def State.haltBegun (s : State) : State := { s.playheadHalted with cues := s.cues }

theorem haltCycles_eq (s : State) : haltCycles s = s.setTable s.playheadHalted.table := by
  refine congrArg (fun f => s.setTable { s.table with layers := Vector.ofFn f }) (funext fun sl => ?_)
  simp only [cycles_iff, ite_not]

theorem haltBuffers_eq (s : State) : haltBuffers s = s.setStore s.playheadHalted.store := by
  unfold haltBuffers
  obtain ⟨buffers, hb⟩ := endTransferIf_isRefill s
  rw [hb]
  rfl

/-- What the transport, the layer table, the mix and the loop store do at a HALT (R16, R35, R126, R145). -/
theorem playheadHalted_eq (s : State) :
    haltBuffers (haltCycles (stopBurst (s.setTransport s.transport.enterHalted))) = s.haltBegun := by
  rw [haltBuffers_eq, haltCycles_eq]
  rfl

/-! ## The open orders apart from the rest -/

theorem foldl_setOpenOrders {α : Type} {f : State → α → State}
    (h : ∀ a s n, f (s.setOpenOrders n) a = (f s a).setOpenOrders n) (xs : List α) (s : State) (n : Nat) :
    xs.foldl f (s.setOpenOrders n) = (xs.foldl f s).setOpenOrders n := by
  induction xs generalizing s with
  | nil => rfl
  | cons x xs ih => rw [List.foldl_cons, List.foldl_cons, h x s n, ih]

theorem reported_setOpenOrders (s : State) (n room : Nat) (m : Message) :
    (s.setOpenOrders n).reported room m = (s.reported room m).setOpenOrders n := by
  rw [State.reported_eq, State.reported_eq]
  rfl

theorem cancelled_setOpenOrders (s : State) (n : Nat) (entries : List CueEntry) :
    (s.setOpenOrders n).cancelled entries = (s.cancelled entries).setOpenOrders n :=
  foldl_setOpenOrders (fun _ u k => reported_setOpenOrders u k _ _) entries s n

theorem besideRefills_setOpenOrders (n : Nat) : BesideRefills fun s => s.setOpenOrders n :=
  ⟨fun _ => rfl, fun _ _ => rfl, fun _ _ => rfl, fun _ _ => rfl, fun _ _ _ => rfl⟩

theorem withRefillRaised_setOpenOrders (s : State) (n : Nat) (sl : Slot) :
    (s.setOpenOrders n).withRefillRaised sl = (s.withRefillRaised sl).setOpenOrders n := by
  simp only [← raiseRefill_eq]
  exact (besideRefills_setOpenOrders n).raiseRefill s sl (fun _ => ⟨rfl, rfl⟩) fun _ => ⟨rfl, rfl⟩

theorem withTakeDropped_setOpenOrders (s : State) (n : Nat) (r : Recorder) (sl : Slot) (reason : EndReason) :
    (s.setOpenOrders n).withTakeDropped r sl reason = (s.withTakeDropped r sl reason).setOpenOrders n := by
  unfold State.withTakeDropped
  dsimp only
  rw [State.reported_eq, State.reported_eq]
  rfl

theorem withTakeHandedOver_setOpenOrders (s : State) (n : Nat) (r : Recorder) (sl : Slot) (reason : EndReason) :
    (s.setOpenOrders n).withTakeHandedOver r sl reason = (s.withTakeHandedOver r sl reason).setOpenOrders n := by
  unfold State.withTakeHandedOver
  rw [← reported_setOpenOrders, ← withRefillRaised_setOpenOrders]
  rfl

theorem withTakeEnded_setOpenOrders (s : State) (n : Nat) (reason : EndReason) (r : Recorder) :
    (s.setOpenOrders n).withTakeEnded reason r = (s.withTakeEnded reason r).setOpenOrders n := by
  unfold State.withTakeEnded
  rw [show (s.setOpenOrders n).recorder r = s.recorder r from rfl]
  cases (s.recorder r).slot with
  | none => rfl
  | some sl =>
    dsimp only
    rw [show (s.setOpenOrders n).layer sl = s.layer sl from rfl, apply_ite (State.setOpenOrders · n),
      apply_ite (State.setOpenOrders · n), withTakeDropped_setOpenOrders, withTakeHandedOver_setOpenOrders]
    rfl

theorem withBounceAborted_setOpenOrders (s : State) (n : Nat) :
    (s.setOpenOrders n).withBounceAborted = s.withBounceAborted.setOpenOrders n := by
  unfold State.withBounceAborted
  rw [show (s.setOpenOrders n).job = s.job from rfl]
  cases s.job.result with
  | none => rfl
  | some result =>
    dsimp only
    rw [State.reported_eq, State.reported_eq]
    rfl

/-! ## Recorders in a take that is not the base take -/

/-- Recorder `q` is in no tail drain and is not the base recorder. -/
def State.plain (s : State) (q : Recorder) : Prop := (s.recorder q).tail = false ∧ (s.recorder q).base = false

theorem withLayerFreed_recorder (s : State) (sl : Slot) (q : Recorder) :
    (s.withLayerFreed sl).recorder q =
      if tailRecorder s sl = some q then RecorderRec.idle
      else if s.drains q = true ∧ (s.recorder q).slot = some sl then { s.recorder q with inFlight := false } else s.recorder q := by
  simp [State.recorder, State.withLayerFreed]

theorem plain_withLayerFreed (s : State) (sl : Slot) (q : Recorder) (h : s.plain q) : (s.withLayerFreed sl).plain q := by
  unfold State.plain
  rw [withLayerFreed_recorder]
  split
  · exact ⟨rfl, rfl⟩
  · split
    · exact h
    · exact h

theorem withTakeHandedOver_takes (s : State) (r : Recorder) (sl : Slot) (reason : EndReason) :
    (s.withTakeHandedOver r sl reason).takes =
      { recs := s.takes.recs.set r.val RecorderRec.idle, order := s.takes.order.filter (· != r) } := by
  unfold State.withTakeHandedOver
  rw [State.reported_eq, State.setLink_takes, ← raiseRefill_eq]
  simp

theorem set_recorder (recs : Vector RecorderRec 4) (r q : Recorder) (x : RecorderRec) :
    (recs.set r.val x)[q.val] = if q = r then x else recs[q.val] := by
  rw [Vector.getElem_set]
  simp only [Fin.ext_iff, eq_comm]

theorem plain_withTakeDropped (s : State) (reason : EndReason) (r q : Recorder) (sl : Slot) (h : s.plain q) :
    (s.withTakeDropped r sl reason).plain q := by
  have hfreed : ∀ u : State, u.takes = s.takes → (u.withLayerFreed sl).plain q := fun u hu => by
    refine plain_withLayerFreed u sl q ?_
    unfold State.plain State.recorder
    rw [hu]
    exact h
  unfold State.plain State.recorder State.withTakeDropped
  dsimp only
  rw [set_recorder]
  split
  · exact ⟨rfl, rfl⟩
  · refine hfreed _ ?_
    rw [State.reported_eq]
    rfl

theorem plain_withTakeEnded (s : State) (reason : EndReason) (r q : Recorder) (h : s.plain q) :
    (s.withTakeEnded reason r).plain q := by
  unfold State.withTakeEnded
  cases hs : (s.recorder r).slot with
  | none => exact h
  | some sl =>
    dsimp only
    split
    · exact plain_withTakeDropped s _ r q sl h
    · split
      · unfold State.plain State.recorder
        rw [withTakeHandedOver_takes, set_recorder]
        split
        · exact ⟨rfl, rfl⟩
        · exact h
      · unfold State.plain State.recorder State.withTakeClosing
        dsimp only
        rw [set_recorder]
        split
        · next hq => exact hq ▸ h
        · exact h

/-- A list of such takes ended one after the other. -/
theorem endTakes_eq (reason : EndReason) (ends : List Recorder) (s : State) (h : ∀ q ∈ ends, s.plain q) :
    ends.foldl (endTake reason) s = ends.foldl (fun u q => u.withTakeEnded reason q) s := by
  induction ends generalizing s with
  | nil => rfl
  | cons r rest ih =>
    obtain ⟨htail, hbase⟩ := h r List.mem_cons_self
    rw [List.foldl_cons, List.foldl_cons, endTake_eq reason s r htail hbase]
    exact ih _ fun q hq => plain_withTakeEnded s reason r q (h q (List.mem_cons_of_mem _ hq))

/-! ## The blocks that take the notice -/

theorem haltedTakes_congr {s t : State} (h : t.takes = s.takes) : haltedTakes t = haltedTakes s := by
  unfold haltedTakes State.recorder
  rw [h]

theorem haltedTakes_withLayerFreed (s : State) (sl : Slot) (h : ∀ q ∈ haltedTakes s, (s.recorder q).tail = false) :
    haltedTakes (s.withLayerFreed sl) = haltedTakes s := by
  have horder : (s.withLayerFreed sl).takes.order = s.takes.order.filter fun r => tailRecorder s sl != some r := rfl
  unfold haltedTakes
  rw [horder, List.filter_filter]
  refine List.filter_congr fun q hq => ?_
  rw [withLayerFreed_recorder]
  by_cases ht : tailRecorder s sl = some q
  · have htail := (tailRecorder_tail s sl q ht).1
    have hstop : stoppable (s.recorder q) = false := by
      by_contra hs
      have := h q (List.mem_filter.mpr ⟨hq, by simpa using hs⟩)
      rw [htail] at this
      cases this
    rw [if_pos ht, hstop]
    rfl
  · rw [if_neg ht, show (tailRecorder s sl != some q) = true by simpa using ht, Bool.and_true]
    split <;> rfl

theorem abortBounce_takes (s : State) (result : Slot) (hr : s.job.result = some result) :
    (abortBounce s).takes =
      ((s.setStore { s.store with transfer := s.store.transfer.filter fun x => !isBounce x.kind }).withLayerFreed result).takes := by
  rw [abortBounce_eq]
  unfold State.withBounceAborted
  rw [hr]
  dsimp only
  rw [State.reported_eq]
  rfl

theorem haltedTakes_abortBounce (s : State) (h : ∀ q ∈ haltedTakes s, (s.recorder q).tail = false) :
    haltedTakes (abortBounce s) = haltedTakes s := by
  cases hr : s.job.result with
  | none => simp only [abortBounce, hr]
  | some result => exact (haltedTakes_congr (abortBounce_takes s result hr)).trans (haltedTakes_withLayerFreed _ result h)

theorem plain_abortBounce (s : State) (q : Recorder) (h : s.plain q) : (abortBounce s).plain q := by
  cases hr : s.job.result with
  | none => simpa only [abortBounce, hr] using h
  | some result =>
    have hfreed := plain_withLayerFreed
      (s.setStore { s.store with transfer := s.store.transfer.filter fun x => !isBounce x.kind }) result q h
    unfold State.plain State.recorder at hfreed ⊢
    rwa [abortBounce_takes s result hr]

/-- What each block does at a HALT taken from `u`, in the words of `haltTaken`. -/
def haltAct (u : State) (ends : List Recorder) : HaltBlock → State → State
  | .cues => fun v => ({ v with cues := ⟨[], []⟩ } : State).cancelled (u.cues.cycle ++ u.cues.beat)
  | .recorders => fun v => ends.foldl (fun y q => y.withTakeEnded .halted q) v
  | .bounce => fun v => if (u.transport.state == .running && u.job.running) = true then v.withBounceAborted else v

/-- A block that has not yet taken the notice finds in `v` what it found in `u`. -/
def HaltReady (u : State) (takes ends : List Recorder) (v : State) : HaltBlock → Prop
  | .cues => v.cues = u.cues
  | .recorders => haltedTakes v = takes ∧ (∀ q ∈ takes, v.plain q) ∧ (openOrder takes v).1 = ends
  | .bounce => (u.transport.state == .running && u.job.running) = true

theorem haltAct_setOpenOrders (u : State) (ends : List Recorder) (b : HaltBlock) (v : State) (n : Nat) :
    haltAct u ends b (v.setOpenOrders n) = (haltAct u ends b v).setOpenOrders n := by
  cases b with
  | cues => exact cancelled_setOpenOrders { v with cues := ⟨[], []⟩ } n (u.cues.cycle ++ u.cues.beat)
  | recorders => exact foldl_setOpenOrders (fun q y k => withTakeEnded_setOpenOrders y k _ q) ends v n
  | bounce =>
    unfold haltAct
    dsimp only
    rw [apply_ite (State.setOpenOrders · n), withBounceAborted_setOpenOrders]

theorem openOrder_snd {α : Type} (xs : List α) (s : State) :
    (openOrder xs s).2 = s.setOpenOrders (s.openOrders + if 2 ≤ xs.length then 1 else 0) := by
  unfold openOrder
  split
  · rw [if_neg (by omega)]
    rfl
  · rw [if_pos (by omega)]

/-- One block takes the notice. -/
theorem takeHalt_eq (u : State) (takes ends : List Recorder) (v : State) (b : HaltBlock) (h : HaltReady u takes ends v b) :
    takeHalt v b =
      (haltAct u ends b v).setOpenOrders (v.openOrders + if b = .recorders ∧ 2 ≤ takes.length then 1 else 0) := by
  cases b with
  | cues =>
    have hcues : v.cues = u.cues := h
    have heq : haltAct u ends .cues v = cancelCues v := by
      unfold haltAct cancelCues
      rw [← hcues]
      rfl
    rw [heq, ← (show (cancelCues v).openOrders = v.openOrders by simp)]
    rfl
  | recorders =>
    obtain ⟨htakes, hplain, hends⟩ := h
    unfold takeHalt
    dsimp only
    have hmem : ∀ q ∈ ends, v.plain q := fun q hq =>
      hplain q ((openOrder_perm takes v).mem_iff.mp (hends ▸ hq))
    rw [htakes, hends, openOrder_snd, endTakes_eq _ _ _ (by exact hmem),
      foldl_setOpenOrders (fun q y k => withTakeEnded_setOpenOrders y k _ q)]
    simp only [true_and]
    rfl
  | bounce =>
    have hruns : (u.transport.state == .running && u.job.running) = true := h
    have heq : haltAct u ends .bounce v = abortBounce v := by
      unfold haltAct
      dsimp only
      rw [if_pos hruns, abortBounce_eq]
    rw [heq, ← (show (abortBounce v).openOrders = v.openOrders by simp)]
    rfl

/-- What another block has done leaves a block as ready as it was. -/
theorem HaltReady.takeHalt {u v : State} {takes ends : List Recorder} {b b' : HaltBlock} (h : HaltReady u takes ends v b)
    (hne : b ≠ b') : HaltReady u takes ends (takeHalt v b') b := by
  cases b with
  | bounce => exact h
  | cues =>
    have hcues : (Machine.takeHalt v b').cues = v.cues := by
      cases b' with
      | cues => exact absurd rfl hne
      | recorders => simp [Machine.takeHalt]
      | bounce => simp [Machine.takeHalt]
    exact hcues.trans h
  | recorders =>
    obtain ⟨htakes, hplain, hends⟩ := h
    have horder : ∀ w : State, w.openOrders = v.openOrders → (openOrder takes w).1 = ends := fun w hw => by
      rw [← hends]
      unfold openOrder
      rw [hw]
      split <;> rfl
    cases b' with
    | recorders => exact absurd rfl hne
    | cues =>
      have hsame : (cancelCues v).takes = v.takes := by simp
      refine ⟨(haltedTakes_congr hsame).trans htakes, fun q hq => ?_, horder _ (by simp [Machine.takeHalt])⟩
      have := hplain q hq
      unfold State.plain State.recorder at this ⊢
      rwa [show (Machine.takeHalt v .cues).takes = v.takes from hsame]
    | bounce =>
      refine ⟨(haltedTakes_abortBounce v fun q hq => (hplain q (htakes ▸ hq)).1).trans htakes, fun q hq => ?_,
        horder _ (by simp [Machine.takeHalt])⟩
      exact plain_abortBounce v q (hplain q hq)

/-- Blocks that each take the notice once. -/
theorem foldl_takeHalt_eq (u : State) (takes ends : List Recorder) (bs : List HaltBlock) (hn : bs.Nodup) (v : State)
    (h : ∀ b ∈ bs, HaltReady u takes ends v b) :
    bs.foldl takeHalt v =
      (bs.foldl (fun w b => haltAct u ends b w) v).setOpenOrders
        (v.openOrders + if .recorders ∈ bs ∧ 2 ≤ takes.length then 1 else 0) := by
  induction bs generalizing v with
  | nil => rfl
  | cons b rest ih =>
    obtain ⟨hb, hrest⟩ := List.nodup_cons.mp hn
    have hready : ∀ b' ∈ rest, HaltReady u takes ends (takeHalt v b) b' := fun b' hb' =>
      (h b' (List.mem_cons_of_mem _ hb')).takeHalt fun e => hb (e ▸ hb')
    rw [List.foldl_cons, List.foldl_cons, ih hrest _ hready, takeHalt_eq u takes ends v b (h b List.mem_cons_self),
      foldl_setOpenOrders (fun b y k => haltAct_setOpenOrders u ends b y k)]
    refine congrArg (State.setOpenOrders _) ?_
    show v.openOrders + _ + _ = _
    by_cases hbr : b = .recorders
    · simp [hbr ▸ hb, hbr]
    · simp [hbr, Ne.symm hbr]

/-- The takes that a HALT ends. -/
def takesToHalt (u : State) : List Recorder :=
  u.takes.order.filter fun q => u.transport.state == .running && (u.recorder q).state == .recording && !(u.recorder q).base

theorem takesToHalt_of_running (u : State) (h : (u.transport.state == .running) = true) : takesToHalt u = haltedTakes u := by
  simp only [takesToHalt, haltedTakes, stoppable, h, Bool.true_and]

theorem takesToHalt_of_not_running (u : State) (h : (u.transport.state == .running) = false) : takesToHalt u = [] := by
  simp only [takesToHalt, h, Bool.false_and, List.filter_false]

/-- The blocks that act at a HALT taken from `u`. -/
def haltActing (u : State) : List HaltBlock :=
  (if u.cues.cycle ++ u.cues.beat = [] then [] else [.cues]) ++ (if takesToHalt u = [] then [] else [.recorders]) ++
    (if (u.transport.state == .running && u.job.running) = true then [.bounce] else [])

/-- The blocks that do not. -/
def haltIdle (u : State) : List HaltBlock :=
  (if u.cues.cycle ++ u.cues.beat = [] then [.cues] else []) ++ (if takesToHalt u = [] then [.recorders] else []) ++
    (if (u.transport.state == .running && u.job.running) = true then [] else [.bounce])

theorem haltBlocks_eq (u v : State) (htakes : v.takes = u.takes) (hcues : v.cues = u.cues) (hjob : v.job = u.job) :
    haltBlocks (u.transport.state == .running) v = haltActing u := by
  unfold haltBlocks haltActing
  rw [hcues, hjob, haltedTakes_congr htakes]
  cases hr : u.transport.state == .running with
  | false => rw [takesToHalt_of_not_running u hr]; rfl
  | true =>
    rw [takesToHalt_of_running u hr]
    by_cases ht : haltedTakes u = [] <;> simp [ht]

theorem haltActing_perm (u : State) : (haltIdle u ++ haltActing u).Perm [.cues, .recorders, .bounce] := by
  unfold haltIdle haltActing
  split_ifs <;> decide

theorem haltActing_length (u : State) :
    (haltActing u).length =
      (if u.cues.cycle ++ u.cues.beat = [] then 0 else 1) + (if takesToHalt u = [] then 0 else 1) +
        if (u.transport.state == .running && u.job.running) = true then 1 else 0 := by
  unfold haltActing
  split_ifs <;> rfl

/-- Whether a block acts at a HALT taken from `u`. -/
def HaltBlock.acts (u : State) : HaltBlock → Prop
  | .cues => u.cues.cycle ++ u.cues.beat ≠ []
  | .recorders => takesToHalt u ≠ []
  | .bounce => (u.transport.state == .running && u.job.running) = true

theorem mem_haltActing_iff (u : State) (b : HaltBlock) : b ∈ haltActing u ↔ b.acts u := by
  unfold haltActing HaltBlock.acts
  cases b <;> simp

theorem mem_haltIdle_iff (u : State) (b : HaltBlock) : b ∈ haltIdle u ↔ ¬b.acts u := by
  unfold haltIdle HaltBlock.acts
  cases b <;> simp

theorem haltAct_of_idle (u v : State) (ends : List Recorder) (hends : ends.Perm (takesToHalt u)) (hcues : v.cues = u.cues)
    (b : HaltBlock) (hb : ¬b.acts u) : haltAct u ends b v = v := by
  cases b with
  | cues =>
    have hw : u.cues.cycle ++ u.cues.beat = [] := not_not.mp hb
    obtain ⟨hc, hbt⟩ := List.append_eq_nil_iff.mp hw
    have hnil : v.cues = ⟨[], []⟩ :=
      calc v.cues = ⟨u.cues.cycle, u.cues.beat⟩ := hcues
        _ = ⟨[], []⟩ := by rw [hc, hbt]
    unfold haltAct
    dsimp only
    rw [hw, ← hnil]
    rfl
  | recorders =>
    rw [not_not.mp hb] at hends
    rw [hends.eq_nil]
    rfl
  | bounce =>
    have hno : ¬(u.transport.state == .running && u.job.running) = true := hb
    unfold haltAct
    dsimp only
    rw [if_neg hno]

/-- The blocks that do not act leave the state as it is. -/
theorem foldl_haltIdle (u v : State) (ends : List Recorder) (hends : ends.Perm (takesToHalt u)) (hcues : v.cues = u.cues)
    (bs : List HaltBlock) (hbs : ∀ b ∈ bs, ¬b.acts u) : bs.foldl (fun w b => haltAct u ends b w) v = v := by
  induction bs with
  | nil => rfl
  | cons b rest ih =>
    rw [List.foldl_cons, haltAct_of_idle u v ends hends hcues b (hbs b List.mem_cons_self)]
    exact ih fun b' hb' => hbs b' (List.mem_cons_of_mem _ hb')

theorem running_of_takesToHalt (u : State) (h : takesToHalt u ≠ []) : (u.transport.state == .running) = true := by
  by_contra hn
  exact h (takesToHalt_of_not_running u (by simpa using hn))

theorem haltReady_of_acts (u v : State) (htakes : v.takes = u.takes) (hcues : v.cues = u.cues)
    (htails : ∀ q ∈ takesToHalt u, (u.recorder q).tail = false) (b : HaltBlock) (hb : b.acts u) :
    HaltReady u (takesToHalt u) (openOrder (takesToHalt u) v).1 v b := by
  cases b with
  | cues => exact hcues
  | recorders =>
    refine ⟨(haltedTakes_congr htakes).trans (takesToHalt_of_running u (running_of_takesToHalt u hb)).symm, fun q hq => ?_, rfl⟩
    have hbase : (u.recorder q).base = false := by
      have := (List.mem_filter.mp hq).2
      simp only [Bool.and_eq_true, Bool.not_eq_true'] at this
      exact this.2
    unfold State.plain State.recorder
    rw [htakes]
    exact ⟨htails q hq, hbase⟩
  | bounce => exact hb

theorem applyHalt_eq (u : State) :
    applyHalt u = (openOrder (haltActing u) u.haltBegun).1.foldl takeHalt (openOrder (haltActing u) u.haltBegun).2 := by
  unfold applyHalt
  dsimp only
  rw [playheadHalted_eq, haltBlocks_eq u u.haltBegun rfl rfl rfl]

/-- A HALT that takes effect (R16, R62, R99, R157). -/
theorem applyHalt_haltTaken (u : State) (htails : ∀ q ∈ takesToHalt u, (u.recorder q).tail = false) :
    haltTaken u (applyHalt u) := by
  have hperm := openOrder_perm (haltActing u) u.haltBegun
  have hstart := openOrder_snd (haltActing u) u.haltBegun
  have hnodup : (haltIdle u ++ haltActing u).Nodup := (haltActing_perm u).nodup_iff.mpr (by decide)
  rw [applyHalt_eq]
  generalize (openOrder (haltActing u) u.haltBegun).1 = acting at hperm
  generalize (openOrder (haltActing u) u.haltBegun).2 = begun at hstart
  have hends := openOrder_perm (takesToHalt u) begun
  refine ⟨(openOrder (takesToHalt u) begun).1, hends,
    (haltIdle u ++ acting).map (haltAct u (openOrder (takesToHalt u) begun).1), ?_, ?_⟩
  · exact (((List.Perm.append_left _ hperm).trans (haltActing_perm u)).map (haltAct u _) :)
  · rw [foldl_takeHalt_eq u (takesToHalt u) (openOrder (takesToHalt u) begun).1 acting
      (hperm.nodup_iff.mpr (List.nodup_append.mp hnodup).2.1) begun fun b hb => ?_]
    · rw [List.foldl_map, List.foldl_append, foldl_haltIdle u { u.playheadHalted with cues := u.cues } _ hends rfl (haltIdle u)
        (fun b hb => (mem_haltIdle_iff u b).mp hb), hstart,
        foldl_setOpenOrders (fun b y k => haltAct_setOpenOrders u _ b y k)]
      have hcount : (2 ≤ (haltActing u).length ↔
          2 ≤ (if u.cues.cycle ++ u.cues.beat = [] then 0 else 1) + (if takesToHalt u = [] then 0 else 1) +
            if (u.transport.state == .running && u.job.running) = true then 1 else 0) := by rw [haltActing_length]
      have htwo : (HaltBlock.recorders ∈ acting ∧ 2 ≤ (takesToHalt u).length) ↔ 2 ≤ (takesToHalt u).length := by
        refine and_iff_right_of_imp fun h => hperm.mem_iff.mpr ((mem_haltActing_iff u .recorders).mpr fun hnil => ?_)
        rw [hnil] at h
        exact absurd h (by decide)
      simp only [htwo, hcount]
      rfl
    · exact haltReady_of_acts u begun (by rw [hstart]; rfl) (by rw [hstart]; rfl) htails b
        ((mem_haltActing_iff u b).mp (hperm.mem_iff.mp hb))

/-- A HALT that takes effect leaves no cue waiting. -/
theorem applyHalt_cues (u : State) : (applyHalt u).cues = ⟨[], []⟩ := by
  have hfold : ∀ (bs : List HaltBlock) (v : State), (.cues ∈ bs ∨ v.cues = ⟨[], []⟩) → (bs.foldl takeHalt v).cues = ⟨[], []⟩ := by
    intro bs
    induction bs with
    | nil => exact fun v h => h.resolve_left (List.not_mem_nil)
    | cons b rest ih =>
      intro v h
      refine ih _ ?_
      cases b with
      | cues => exact .inr (by simp [takeHalt, cancelCues])
      | recorders =>
        have hcues : (takeHalt v .recorders).cues = v.cues := by simp [takeHalt]
        exact h.imp (fun hm => by simpa using hm) hcues.trans
      | bounce =>
        have hcues : (takeHalt v .bounce).cues = v.cues := by simp [takeHalt]
        exact h.imp (fun hm => by simpa using hm) hcues.trans
  rw [applyHalt_eq]
  refine hfold _ _ ?_
  by_cases hw : u.cues.cycle ++ u.cues.beat = []
  · obtain ⟨hc, hb⟩ := List.append_eq_nil_iff.mp hw
    refine .inr ?_
    rw [openOrder_snd]
    calc u.cues = ⟨u.cues.cycle, u.cues.beat⟩ := rfl
      _ = ⟨[], []⟩ := by rw [hc, hb]
  · exact .inl ((openOrder_perm _ _).mem_iff.mpr ((mem_haltActing_iff u .cues).mpr hw))

/-- A HALT in RUNNING or PRIMING is answered OK, and takes effect behind its reply. -/
theorem exec_halt (s : State) (tag : Byte) (h : ready s) (hs : s.transport.state = .running ∨ s.transport.state = .priming) :
    exec (.halt tag) s = .next (applyHalt (s.queued [.cue .ok tag 255 0 0])) := by
  have hresult : cueResult .halt 0 0 s = (.ok, 255) := by
    simp [cueResult, stateRefusal, hs.symm]
  have hreply : (applyCue .halt 0 0 0 s).cueReply .ok tag 255 = .cue .ok tag 255 0 0 := by
    show Message.cue .ok tag 255 (applyHalt s).cues.cycle.length (applyHalt s).cues.beat.length = _
    rw [applyHalt_cues]
    rfl
  have htake := takeRequest_cue_ok .halt tag 0 0 0 s 255 h rfl hresult
  rw [hreply] at htake
  exact congrArg Host.Outcome.next htake

/-- A HALT at which at most one block acts. -/
theorem applyHalt_of_acting (u : State) (acting : List HaltBlock) (h : haltActing u = acting) (hone : acting.length < 2) :
    applyHalt u = acting.foldl takeHalt u.haltBegun := by
  rw [applyHalt_eq, h, openOrder_short _ _ hone]

/-- A HALT with no take to end and no job to abort cancels the waiting cues. -/
theorem applyHalt_of_cues (u : State) (htakes : takesToHalt u = [])
    (hjob : ¬(u.transport.state == .running && u.job.running) = true) :
    applyHalt u = u.playheadHalted.cancelled (u.cues.cycle ++ u.cues.beat) := by
  by_cases hw : u.cues.cycle ++ u.cues.beat = []
  · have hacting : haltActing u = [] := by simp [haltActing, hw, htakes, hjob]
    obtain ⟨hc, hb⟩ := List.append_eq_nil_iff.mp hw
    have hcues : u.cues = ⟨[], []⟩ :=
      calc u.cues = ⟨u.cues.cycle, u.cues.beat⟩ := rfl
        _ = ⟨[], []⟩ := by rw [hc, hb]
    rw [applyHalt_of_acting u [] hacting (by decide), hw]
    show ({ u.playheadHalted with cues := u.cues } : State) = u.playheadHalted
    rw [hcues]
    rfl
  · have hacting : haltActing u = [.cues] := by simp [haltActing, hw, htakes, hjob]
    rw [applyHalt_of_acting u [.cues] hacting (by decide)]
    rfl

/-- Settles O30: the blocks that act take the notice in turn, each as `haltTaken` says. -/
theorem haltStopsThePlayhead : Obligations.HaltStopsThePlayhead := by
  intro s tag h hs takes
  rw [exec_halt s tag h hs]
  refine ⟨fun htakes hjob => ?_, fun htails => ⟨_, rfl, applyHalt_haltTaken _ htails⟩⟩
  exact congrArg Host.Outcome.next (applyHalt_of_cues (s.queued [.cue .ok tag 255 0 0]) htakes (by simpa [State.queued] using hjob))

/-- A HALT with a job to abort and nothing else to act. -/
theorem applyHalt_of_job (u : State) (hcues : u.cues = ⟨[], []⟩) (htakes : takesToHalt u = [])
    (hrunning : u.transport.state = .running) (hjob : u.job.running = true) :
    applyHalt u = u.haltBegun.withBounceAborted := by
  have hacting : haltActing u = [.bounce] := by simp [haltActing, hcues, htakes, hrunning, hjob]
  rw [applyHalt_of_acting u [.bounce] hacting (by decide), ← abortBounce_eq]
  rfl

/-- The layer that a HALT leaves before the job is aborted. -/
theorem haltBegun_layer (u : State) (sl : Slot) :
    u.haltBegun.layer sl =
      if (u.layer sl).state = .free ∨ (u.layer sl).state = .building then u.layer sl else { u.layer sl with k := some 0 } := by
  simp [State.haltBegun, State.playheadHalted, State.layer]

/-- The abort of the job frees its result and nothing else: no recorder names it. -/
theorem withLayerFreed_takes (s : State) (sl : Slot) (h : ∀ r, (s.recorder r).slot ≠ some sl) :
    (s.withLayerFreed sl).takes = s.takes := by
  have htail : tailRecorder s sl = none := by
    cases ht : tailRecorder s sl with
    | none => rfl
    | some r => exact absurd (tailRecorder_tail s sl r ht).2 (h r)
  unfold State.withLayerFreed
  simp only [htail, h, and_false, if_false, reduceCtorEq, ← recs_eq_ofFn]
  congr 1
  exact List.filter_eq_self.mpr fun r _ => rfl

theorem withLayerFreed_layer (s : State) (sl x : Slot) :
    (s.withLayerFreed sl).layer x = if x = sl then LayerRec.freed else s.layer x :=
  State.setLayer_layer s sl x LayerRec.freed

/-- The layers that the abort of a job leaves. -/
theorem withBounceAborted_layer (s : State) (result x : Slot) (h : s.job.result = some result) :
    s.withBounceAborted.layer x =
      if x ∈ s.job.sources.map Source.slot then
        { (if x = result then LayerRec.freed else s.layer x) with held := false }
      else if x = result then LayerRec.freed else s.layer x := by
  unfold State.withBounceAborted
  rw [h]
  dsimp only
  rw [State.layer, Vector.getElem_ofFn]
  rw [withLayerFreed_layer, State.reported_eq]
  rfl

/-- The other records that the abort of a job leaves. -/
theorem withBounceAborted_records (s : State) (result : Slot) (h : s.job.result = some result) :
    s.withBounceAborted.job = Job.idle ∧
      s.withBounceAborted.table.stack = s.table.stack.filter (· != result) ∧
      s.withBounceAborted.table.redo = s.table.redo.filter (· != result) ∧
      s.withBounceAborted.table.groupMutes = s.table.groupMutes ∧
      s.withBounceAborted.store =
        { s.store with
          pool := insertPages (pagesOf (s.layer result).extents) s.store.pool
          buffers := s.store.buffers.set result.val none
          transfer :=
            (s.store.transfer.filter fun x => !isBounce x.kind).filter fun x => !ofLayer s result x.kind } ∧
      s.withBounceAborted.link =
        (s.reported 31
          (.bounceEnd .halted result s.job.multiple (pageCount (s.layer result).extents) s.job.progress s.job.clips)).link ∧
      s.withBounceAborted.takes =
        ((s.setStore { s.store with transfer := s.store.transfer.filter fun x => !isBounce x.kind }).withLayerFreed result).takes := by
  unfold State.withBounceAborted
  rw [h]
  dsimp only
  rw [State.reported_eq]
  refine ⟨rfl, rfl, rfl, rfl, ?_, rfl, rfl⟩
  refine congrArg (fun x => ({ s.store with
    pool := insertPages (pagesOf (s.layer result).extents) s.store.pool
    buffers := s.store.buffers.set result.val none
    transfer := x } : LoopStore)) ?_
  refine congrArg (fun p => (s.store.transfer.filter fun x => !isBounce x.kind).filter p) (funext fun x => ?_)
  cases x.kind <;> rfl

/-- The lists and the group mutes that a HALT leaves before the job is aborted. -/
theorem haltBegun_lists (u : State) :
    u.haltBegun.table.stack = u.table.stack ∧ u.haltBegun.table.redo = u.table.redo ∧
      u.haltBegun.table.groupMutes = u.table.groupMutes := by
  unfold State.haltBegun State.playheadHalted
  exact ⟨rfl, rfl, rfl⟩

/-- What a HALT with a job to abort, and nothing else to act, leaves of the song. -/
theorem haltBegun_withBounceAborted (u : State) (result : Slot) (hresult : u.job.result = some result)
    (hbuilding : (u.layer result).state = .building) (hsource : result ∉ u.job.sources.map Source.slot)
    (hnamed : ∀ r, (u.recorder r).slot ≠ some result) :
    u.haltBegun.withBounceAborted.layer result = LayerRec.freed ∧
      (∀ sl, sl ∈ u.job.sources.map Source.slot → (u.layer sl).state = .active →
        u.haltBegun.withBounceAborted.layer sl = { u.layer sl with k := some 0, held := false }) ∧
      (∀ sl, sl ∉ u.job.sources.map Source.slot → sl ≠ result →
        u.haltBegun.withBounceAborted.layer sl =
          if (u.layer sl).state = .free ∨ (u.layer sl).state = .building then u.layer sl else { u.layer sl with k := some 0 }) ∧
      u.haltBegun.withBounceAborted.store =
        { u.store with
          pool := insertPages (pagesOf (u.layer result).extents) u.store.pool
          buffers := Vector.replicate 24 none
          transfer := u.store.transfer.filter fun x => !(isRefill x.kind || isBounce x.kind) } ∧
      u.haltBegun.withBounceAborted.link =
        (u.reported 31
          (.bounceEnd .halted result u.job.multiple (pageCount (u.layer result).extents) u.job.progress u.job.clips)).link ∧
      u.haltBegun.withBounceAborted.takes = u.takes := by
  have hw := fun x => withBounceAborted_layer u.haltBegun result x hresult
  have hresultlayer : u.haltBegun.layer result = u.layer result := by rw [haltBegun_layer, if_pos (.inr hbuilding)]
  obtain ⟨-, -, -, -, hstore, hlink, htakes⟩ := withBounceAborted_records u.haltBegun result hresult
  rw [hresultlayer] at hstore hlink
  refine ⟨?_, fun sl hsl hactive => ?_, fun sl hsl hne => ?_, hstore.trans ?_, hlink.trans ?_, htakes.trans ?_⟩
  · exact (hw result).trans ((if_neg hsource).trans (if_pos rfl))
  · have hne : sl ≠ result := fun e => hsource (e ▸ hsl)
    refine (hw sl).trans ((if_pos hsl).trans ?_)
    rw [if_neg hne, haltBegun_layer, if_neg (by rw [hactive]; decide)]
  · exact (hw sl).trans ((if_neg hsl).trans ((if_neg hne).trans (haltBegun_layer u sl)))
  · have hbuffers : (Vector.replicate 24 (none : Option Stream)).set result.val none = Vector.replicate 24 none := by
      ext1 i hi
      simp
    have htransfer : ((u.store.transfer.filter fun x => !isRefill x.kind).filter fun x => !isBounce x.kind).filter
        (fun x => !ofLayer u.haltBegun result x.kind) =
        u.store.transfer.filter fun x => !(isRefill x.kind || isBounce x.kind) := by
      cases u.store.transfer with
      | none => rfl
      | some x =>
        obtain ⟨kind, left⟩ := x
        cases kind with
        | drain r n =>
          have hr : ofLayer u.haltBegun result (.drain r n) = false := beq_false_of_ne (hnamed r)
          simp [Option.filter, isRefill, isBounce, hr]
        | refill => rfl
        | bounceRead => rfl
        | bounceWrite => rfl
    show ({ u.store with
      pool := insertPages (pagesOf (u.layer result).extents) u.store.pool
      buffers := (Vector.replicate 24 none).set result.val none
      transfer := ((u.store.transfer.filter fun x => !isRefill x.kind).filter fun x => !isBounce x.kind).filter
        (fun x => !ofLayer u.haltBegun result x.kind) } : LoopStore) = _
    rw [hbuffers, htransfer]
  · rw [State.reported_eq, State.reported_eq]
    rfl
  · exact withLayerFreed_takes _ _ hnamed

/-- Settles O31: the bounce engine alone acts, and frees the result. -/
theorem haltAbortsTheBounce : Obligations.HaltAbortsTheBounce := by
  intro s tag result h hrunning htakes hcues hjob hresult hbuilding hsource hnamed
  have hnone : takesToHalt (s.queued [.cue .ok tag 255 0 0]) = [] := by
    refine List.filter_eq_nil_iff.mpr fun q _ => ?_
    have := htakes q
    simp_all [State.queued, State.recorder]
  obtain ⟨hfreed, hheld, hother, hstore, hlink, htakes'⟩ :=
    haltBegun_withBounceAborted (s.queued [.cue .ok tag 255 0 0]) result hresult hbuilding hsource hnamed
  obtain ⟨hjob', hstack, hredo, hmutes, -⟩ :=
    withBounceAborted_records (s.queued [.cue .ok tag 255 0 0]).haltBegun result hresult
  obtain ⟨bstack, bredo, bmutes⟩ := haltBegun_lists (s.queued [.cue .ok tag 255 0 0])
  rw [bstack] at hstack
  rw [bredo] at hredo
  rw [bmutes] at hmutes
  obtain ⟨ftransport, fcues, flanes, fmem, fmix, frest, forders, fpending⟩ :=
    abortBounce_frame (s.queued [.cue .ok tag 255 0 0]).haltBegun
  rw [abortBounce_eq] at ftransport fcues flanes fmem fmix frest forders fpending
  exact ⟨_, (exec_halt s tag h (.inl hrunning)).trans
    (congrArg Host.Outcome.next (applyHalt_of_job _ hcues hnone hrunning hjob)),
    hjob', hfreed, hheld, hother, hstack, hredo, hmutes, hstore, hlink, ftransport, fcues, htakes', fmem, fmix, flanes, frest,
    forders, fpending⟩

end Sys2Proof.Machine
end

section
/-! UNDO in a take, and the abort of the base take: what a song looks like while its layers are freed one after the other. -/

namespace Sys2Proof.Machine

/-! ## Returned pages -/

theorem mem_insertPage (page q : Nat) (pool : List Nat) : q ∈ insertPage page pool ↔ q = page ∨ q ∈ pool := by
  induction pool with
  | nil => simp [insertPage]
  | cons p rest ih =>
    unfold insertPage
    split
    · simp
    · split
      · next h => simp [h]
      · simp only [List.mem_cons, ih]
        tauto

theorem mem_insertPages (pages pool : List Nat) (q : Nat) : q ∈ insertPages pages pool ↔ q ∈ pages ∨ q ∈ pool := by
  unfold insertPages
  induction pages with
  | nil => simp
  | cons p rest ih => rw [List.foldr_cons, mem_insertPage, ih, List.mem_cons, or_assoc]

theorem insertPage_pairwise (page : Nat) (pool : List Nat) (h : pool.Pairwise (· < ·)) : (insertPage page pool).Pairwise (· < ·) := by
  induction pool with
  | nil => simp [insertPage]
  | cons p rest ih =>
    obtain ⟨hp, hrest⟩ := List.pairwise_cons.mp h
    unfold insertPage
    split
    · next hlt => exact List.pairwise_cons.mpr ⟨fun q hq => by
        rcases List.mem_cons.mp hq with rfl | hq
        · exact hlt
        · exact hlt.trans (hp q hq), h⟩
    · split
      · exact h
      · next hle hne =>
        refine List.pairwise_cons.mpr ⟨fun q hq => ?_, ih hrest⟩
        rcases (mem_insertPage page q rest).mp hq with rfl | hq
        · omega
        · exact hp q hq

theorem insertPages_pairwise (pages pool : List Nat) (h : pool.Pairwise (· < ·)) : (insertPages pages pool).Pairwise (· < ·) := by
  unfold insertPages
  induction pages with
  | nil => exact h
  | cons p rest ih => exact insertPage_pairwise p _ ih

/-! ## A song some of whose layers are freed -/

/-- From `s` to `u` the layers that `gone` holds of have been freed, and the recorders that `idle` holds of, each of which named one of
them, are back in IDLE. -/
structure SongFreed (s u : State) (gone : Slot → Bool) (idle : Recorder → Bool) : Prop where
  layer : ∀ x, u.layer x = if gone x = true then LayerRec.freed else s.layer x
  stack : u.table.stack = s.table.stack.filter fun x => !gone x
  redo : u.table.redo = s.table.redo.filter fun x => !gone x
  mutes : u.table.groupMutes = s.table.groupMutes
  pool : ∀ page, page ∈ u.store.pool ↔ page ∈ s.store.pool ∨ ∃ x, gone x = true ∧ page ∈ pagesOf (s.layer x).extents
  sorted : s.store.pool.Pairwise (· < ·) → u.store.pool.Pairwise (· < ·)
  buffer : ∀ x, u.buffer x = if gone x = true then none else s.buffer x
  store : u.store =
    { s.store with
      pool := u.store.pool
      buffers := u.store.buffers
      transfer := s.store.transfer.filter fun y => !(slotNumbers.any fun x => gone x && ofLayer s x y.kind) }
  idled : ∀ q, idle q = true → u.recorder q = RecorderRec.idle
  kept : ∀ q, idle q = false → ∃ b, u.recorder q = { s.recorder q with inFlight := b }
  spared : ∀ q, (∀ x, (s.recorder q).slot = some x → gone x = false) → u.recorder q = s.recorder q
  named : ∀ q, idle q = true → ∃ x, (s.recorder q).slot = some x ∧ gone x = true
  order : u.takes.order = s.takes.order.filter fun q => !idle q
  job : ∃ b, u.job = { s.job with inFlight := b }
  jobNone : s.job.result = none → u.job = s.job

theorem songFreed_refl (s : State) : SongFreed s s (fun _ => false) fun _ => false where
  layer _ := rfl
  stack := by simp
  redo := by simp
  mutes := rfl
  pool := by simp
  sorted := id
  buffer _ := rfl
  store := by
    have hall : (s.store.transfer.filter fun y => !(slotNumbers.any fun x => false && ofLayer s x y.kind)) = s.store.transfer := by
      cases s.store.transfer <;> simp [Option.filter]
    rw [hall]
  idled := nofun
  kept q _ := ⟨_, rfl⟩
  spared _ _ := rfl
  named := nofun
  order := by simp
  job := ⟨_, rfl⟩
  jobNone _ := rfl

/-- A recorder that is not back in IDLE still names its layer. -/
theorem SongFreed.slot {s u : State} {gone : Slot → Bool} {idle : Recorder → Bool} (h : SongFreed s u gone idle) (q : Recorder)
    (x : Slot) : (u.recorder q).slot = some x ↔ (s.recorder q).slot = some x ∧ idle q = false := by
  cases hq : idle q with
  | true => rw [h.idled q hq]; simp [RecorderRec.idle]
  | false =>
    obtain ⟨b, hb⟩ := h.kept q hq
    rw [hb]
    simp

/-- A transfer still in flight serves the layers it served. -/
theorem SongFreed.ofLayer {s u : State} {gone : Slot → Bool} {idle : Recorder → Bool} (h : SongFreed s u gone idle) (x : Slot)
    (y : Transfer) (hy : u.store.transfer = some y) : Machine.ofLayer u x y.kind = Machine.ofLayer s x y.kind := by
  rw [h.store] at hy
  obtain ⟨-, hlive⟩ := Option.filter_eq_some_iff.mp hy
  obtain ⟨kind, left⟩ := y
  cases kind with
  | drain q n =>
    have hq : idle q = false := by
      by_contra hidle
      obtain ⟨z, hz, hgone⟩ := h.named q (by simpa using hidle)
      have hany : (slotNumbers.any fun x => gone x && Machine.ofLayer s x (.drain q n)) = true :=
        List.any_eq_true.mpr ⟨z, mem_slotNumbers z, by simp [hgone, Machine.ofLayer, hz]⟩
      simp [hany] at hlive
    obtain ⟨b, hb⟩ := h.kept q hq
    simp only [Machine.ofLayer, hb]
  | refill => rfl
  | bounceRead => rfl
  | bounceWrite =>
    obtain ⟨b, hb⟩ := h.job
    simp only [Machine.ofLayer, hb]

/-- A layer whose recorder in the tail drain is found was named by it from the beginning. -/
theorem SongFreed.tail_slot {s u : State} {gone : Slot → Bool} {idle : Recorder → Bool} (h : SongFreed s u gone idle) (x : Slot)
    (q : Recorder) (hq : tailRecorder u x = some q) : (s.recorder q).slot = some x :=
  ((h.slot q x).mp (tailRecorder_tail u x q hq).2).1

theorem withLayerFreed_job (u : State) (x : Slot) :
    (u.withLayerFreed x).job =
      { u.job with
        inFlight :=
          u.job.inFlight && !(u.job.result == some x && (u.store.transfer.map Transfer.kind) == some .bounceWrite) } := rfl

theorem any_or_eq (p f : Slot → Bool) (x : Slot) :
    (slotNumbers.any fun z => (p z || z == x) && f z) = ((slotNumbers.any fun z => p z && f z) || f x) := by
  rw [Bool.eq_iff_iff, Bool.or_eq_true]
  simp only [List.any_eq_true, mem_slotNumbers, true_and, Bool.and_eq_true, Bool.or_eq_true, beq_iff_eq]
  constructor
  · rintro ⟨z, hz | rfl, hf⟩
    · exact .inl ⟨z, hz, hf⟩
    · exact .inr hf
  · rintro (⟨z, hz, hf⟩ | hf)
    · exact ⟨z, .inl hz, hf⟩
    · exact ⟨x, .inr rfl, hf⟩

theorem SongFreed.withLayerFreed {s u : State} {gone : Slot → Bool} {idle : Recorder → Bool} (h : SongFreed s u gone idle) (x : Slot) :
    SongFreed s (u.withLayerFreed x) (fun y => gone y || y == x) fun q => idle q || tailRecorder u x == some q where
  layer y := by
    rw [withLayerFreed_layer, h.layer]
    by_cases hy : y = x <;> simp [hy]
  stack := by
    show u.table.stack.filter (· != x) = _
    rw [h.stack, List.filter_filter]
    congr 1
    funext y
    cases gone y <;> simp [bne]
  redo := by
    show u.table.redo.filter (· != x) = _
    rw [h.redo, List.filter_filter]
    congr 1
    funext y
    cases gone y <;> simp [bne]
  mutes := h.mutes
  pool page := by
    show page ∈ insertPages (pagesOf (u.layer x).extents) u.store.pool ↔ _
    rw [mem_insertPages, h.pool, h.layer]
    simp only [Bool.or_eq_true, beq_iff_eq, or_and_right, exists_or, exists_eq_left]
    cases hx : gone x with
    | true =>
      simp only [if_true, LayerRec.freed, pagesOf, List.flatMap_nil, List.not_mem_nil, false_or]
      exact ⟨fun hp => hp.imp id .inl, fun hp => hp.imp id fun hp => hp.elim id fun hp => ⟨x, hx, hp⟩⟩
    | false =>
      simp only [Bool.false_eq_true, if_false]
      rw [or_comm (a := ∃ y, _), ← or_assoc, ← or_assoc, or_comm (b := page ∈ s.store.pool)]
  sorted hs := insertPages_pairwise _ _ (h.sorted hs)
  buffer y := by
    show (u.setBuffer x none).buffer y = _
    rw [State.setBuffer_buffer, h.buffer]
    by_cases hy : y = x <;> simp [hy]
  store := by
    have htransfer : (u.store.transfer.filter fun y => !Machine.ofLayer u x y.kind) =
        s.store.transfer.filter fun y => !(slotNumbers.any fun z => (gone z || z == x) && Machine.ofLayer s z y.kind) := by
      have hu := h.ofLayer x
      rw [h.store] at hu ⊢
      dsimp only at hu ⊢
      cases hs : s.store.transfer with
      | none => rfl
      | some y =>
        rw [hs] at hu
        simp only [any_or_eq]
        cases ha : slotNumbers.any fun z => gone z && Machine.ofLayer s z y.kind with
        | true => simp [Option.filter, ha]
        | false =>
          have hy := hu y (by simp [Option.filter, ha])
          simp [Option.filter, ha, hy]
    show { u.store with
      pool := insertPages (pagesOf (u.layer x).extents) u.store.pool
      buffers := u.store.buffers.set x.val none
      transfer := u.store.transfer.filter fun y => !Machine.ofLayer u x y.kind } = _
    rw [htransfer, h.store]
    rfl
  idled q hq := by
    rw [withLayerFreed_recorder]
    by_cases ht : tailRecorder u x = some q
    · rw [if_pos ht]
    · have hidle : idle q = true := by simpa [ht] using hq
      rw [if_neg ht, h.idled q hidle]
      simp [RecorderRec.idle]
  kept q hq := by
    obtain ⟨hidle, ht⟩ : idle q = false ∧ ¬tailRecorder u x = some q := by simpa using hq
    obtain ⟨b, hb⟩ := h.kept q hidle
    rw [withLayerFreed_recorder, if_neg ht, hb]
    split
    · exact ⟨_, rfl⟩
    · exact ⟨_, rfl⟩
  spared q hq := by
    have hsame : u.recorder q = s.recorder q := h.spared q fun z hz => by
      have := hq z hz
      simp only [Bool.or_eq_false_iff] at this
      exact this.1
    have hx : (s.recorder q).slot ≠ some x := fun hx => by
      have := hq x hx
      simp at this
    rw [withLayerFreed_recorder, if_neg fun ht => hx (h.tail_slot x q ht), hsame, if_neg fun hd => hx hd.2]
  named q hq := by
    by_cases ht : tailRecorder u x = some q
    · exact ⟨x, h.tail_slot x q ht, by simp⟩
    · obtain ⟨z, hz, hgone⟩ := h.named q (by simpa [ht] using hq)
      exact ⟨z, hz, by simp [hgone]⟩
  order := by
    show (u.takes.order.filter fun q => tailRecorder u x != some q) = _
    rw [h.order, List.filter_filter]
    congr 1
    funext q
    cases idle q <;> simp [bne]
  job := by
    obtain ⟨b, hb⟩ := h.job
    exact ⟨u.job.inFlight && !(u.job.result == some x && (u.store.transfer.map Transfer.kind) == some .bounceWrite), by
      rw [withLayerFreed_job, hb]⟩
  jobNone hr := by
    have hj := h.jobNone hr
    have hb : (u.job.result == some x) = false := by rw [hj, hr]; rfl
    rw [withLayerFreed_job, hb, Bool.false_and, Bool.not_false, Bool.and_true, ← hj]

/-- What is freed is a matter of the layer table, the recorders, the loop store and the job alone. -/
theorem SongFreed.congr {s u v : State} {gone : Slot → Bool} {idle : Recorder → Bool} (h : SongFreed s u gone idle)
    (htable : v.table = u.table) (htakes : v.takes = u.takes) (hstore : v.store = u.store) (hjob : v.job = u.job) :
    SongFreed s v gone idle := by
  have hlayer : ∀ x, v.layer x = u.layer x := fun x => by unfold State.layer; rw [htable]
  have hbuffer : ∀ x, v.buffer x = u.buffer x := fun x => by unfold State.buffer; rw [hstore]
  have hrec : ∀ q, v.recorder q = u.recorder q := fun q => by unfold State.recorder; rw [htakes]
  constructor
  · simpa only [hlayer] using h.layer
  · rw [htable, h.stack]
  · rw [htable, h.redo]
  · rw [htable, h.mutes]
  · rw [hstore]
    exact h.pool
  · rw [hstore]
    exact h.sorted
  · simpa only [hbuffer] using h.buffer
  · rw [hstore]
    exact h.store
  · simpa only [hrec] using h.idled
  · simpa only [hrec] using h.kept
  · simpa only [hrec] using h.spared
  · exact h.named
  · rw [htakes, h.order]
  · rw [hjob]
    exact h.job
  · rw [hjob]
    exact h.jobNone

/-- The recorder of a freed layer returns to IDLE. -/
theorem SongFreed.resetRecorder {s u : State} {gone : Slot → Bool} {idle : Recorder → Bool} (h : SongFreed s u gone idle)
    (r : Recorder) (x : Slot) (hr : (s.recorder r).slot = some x) (hx : gone x = true) :
    SongFreed s (Machine.resetRecorder r u) gone fun q => idle q || q == r where
  layer := h.layer
  stack := h.stack
  redo := h.redo
  mutes := h.mutes
  pool := h.pool
  sorted := h.sorted
  buffer := h.buffer
  store := h.store
  idled q hq := by
    rw [resetRecorder_recorder]
    by_cases he : q = r
    · rw [if_pos he]
    · rw [if_neg he, h.idled q (by simpa [he] using hq)]
  kept q hq := by
    obtain ⟨hidle, he⟩ : idle q = false ∧ ¬q = r := by simpa using hq
    rw [resetRecorder_recorder, if_neg he]
    exact h.kept q hidle
  spared q hq := by
    have he : q ≠ r := fun he => by
      rw [he] at hq
      rw [hq x hr] at hx
      cases hx
    rw [resetRecorder_recorder, if_neg he]
    exact h.spared q hq
  named q hq := by
    by_cases he : q = r
    · exact ⟨x, he ▸ hr, hx⟩
    · exact h.named q (by simpa [he] using hq)
  order := by
    show u.takes.order.filter (· != r) = _
    rw [h.order, List.filter_filter]
    congr 1
    funext q
    cases idle q <;> simp [bne]
  job := h.job
  jobNone := h.jobNone

/-- What is freed is the same under another name. -/
theorem SongFreed.of_gone {s u : State} {gone gone' : Slot → Bool} {idle : Recorder → Bool} (h : SongFreed s u gone idle)
    (hg : ∀ x, gone x = gone' x) : SongFreed s u gone' idle := by
  rwa [← funext hg]

/-! ## Layers freed one after the other -/

theorem SongFreed.freeLayers {s : State} (sls : List Slot) : ∀ {u : State} {gone : Slot → Bool} {idle : Recorder → Bool},
    SongFreed s u gone idle →
    ∃ idle', SongFreed s (Machine.freeLayers sls u) (fun x => gone x || sls.contains x) idle' ∧
      ∀ q, idle q = true → idle' q = true := by
  induction sls with
  | nil =>
    intro u gone idle h
    exact ⟨idle, h.of_gone fun x => by simp, fun _ => id⟩
  | cons sl rest ih =>
    intro u gone idle h
    obtain ⟨idle', hrest, hmono⟩ := ih (h.withLayerFreed sl)
    refine ⟨idle', ?_, fun q hq => hmono q (by simp [hq])⟩
    rw [freeLayers_eq] at hrest ⊢
    refine hrest.of_gone fun x => ?_
    rw [List.contains_cons, Bool.or_assoc]

/-- Every layer that is not FREE is freed. -/
theorem SongFreed.freeAll {s u : State} {gone : Slot → Bool} {idle : Recorder → Bool} (h : SongFreed s u gone idle) :
    ∃ idle', SongFreed s (Machine.freeAll u) (fun x => gone x || (s.layer x).state != .free) idle' ∧
      ∀ q, idle q = true → idle' q = true := by
  obtain ⟨idle', hfreed, hmono⟩ := h.freeLayers (slotNumbers.filter fun sl => (u.layer sl).state != .free)
  refine ⟨idle', hfreed.of_gone fun x => ?_, hmono⟩
  cases hx : gone x with
  | true => simp
  | false =>
    rw [Bool.eq_iff_iff]
    simp [mem_slotNumbers, h.layer, hx]

/-! ## Takes aborted one after the other -/

/-- The burst of a recorder serves the layer that the recorder names, so freeing that layer ends it. -/
theorem withLayerFreed_ofRecorder (s : State) (r : Recorder) (sl : Slot) (h : (s.recorder r).slot = some sl) :
    resetRecorder r
        ((s.setStore { s.store with transfer := s.store.transfer.filter fun x => !ofRecorder r x.kind }).withLayerFreed sl) =
      resetRecorder r (s.withLayerFreed sl) := by
  have hkeep : ∀ t, t = s.store.transfer →
      resetRecorder r ((s.setStore { s.store with transfer := t }).withLayerFreed sl) = resetRecorder r (s.withLayerFreed sl) := by
    rintro t rfl
    rfl
  cases hx : s.store.transfer with
  | none => exact hkeep _ hx.symm
  | some y =>
    cases hy : ofRecorder r y.kind with
    | false => exact hkeep _ (by rw [hx, option_filter_of_eq_true _ _ (by simp [hy])])
    | true =>
      rw [option_filter_of_eq_false _ _ (by simp [hy])]
      obtain ⟨kind, left⟩ := y
      cases kind with
      | refill => cases hy
      | bounceRead => cases hy
      | bounceWrite => cases hy
      | drain q n =>
        obtain rfl : q = r := by simpa [ofRecorder] using hy
        refine State.eq_of_fields rfl rfl rfl rfl ?_ ?_ rfl rfl ?_ rfl rfl rfl rfl
        · unfold resetRecorder
          rw [State.setTakes_takes, State.setTakes_takes]
          congr 1
          ext1 i hi
          rw [Vector.getElem_set, Vector.getElem_set]
          split
          · rfl
          · next hne =>
            have hd : ∀ u : State, (u.store.transfer = none ∨ u.store.transfer = some ⟨.drain q n, left⟩) →
                u.drains ⟨i, hi⟩ = false := by
              rintro u (hu | hu)
              · simp [State.drains, hu]
              · simp only [State.drains, hu, beq_eq_false_iff_ne]
                exact fun e => hne (by rw [e])
            have hrec : ∀ u : State, u.takes.recs[i] = u.recorder ⟨i, hi⟩ := fun _ => rfl
            rw [hrec, hrec, withLayerFreed_recorder, withLayerFreed_recorder, hd s (.inr hx), hd _ (.inl rfl)]
            rfl
        · have hl : ofLayer s sl (.drain q n) = true := by simp [ofLayer, h]
          unfold resetRecorder State.withLayerFreed
          rw [hx, option_filter_of_eq_false _ _ (by simp [hl])]
          rfl
        · rw [show ∀ u : State, (resetRecorder q u).job = u.job from fun _ => rfl,
            show ∀ u : State, (resetRecorder q u).job = u.job from fun _ => rfl, withLayerFreed_job, withLayerFreed_job, hx]
          simp

/-- The end of a take that leaves no layer: its report, the layer FREE, and the recorder back in IDLE. -/
theorem withTakeDropped_eq (s : State) (r : Recorder) (sl : Slot) (reason : EndReason) (h : (s.recorder r).slot = some sl) :
    s.withTakeDropped r sl reason =
      resetRecorder r
        ((s.reported 31 (.takeEnd r sl reason (s.layer sl).len (s.layer sl).lost (pageCount (s.layer sl).extents))).withLayerFreed
          sl) := by
  rw [← withLayerFreed_ofRecorder _ r sl (by rw [State.reported_eq]; exact h)]
  unfold State.withTakeDropped
  dsimp only
  rw [State.reported_eq]
  rfl

theorem abortTake_eq (s : State) (r : Recorder) (sl : Slot) (h : (s.recorder r).slot = some sl) :
    abortTake s r = s.withTakeDropped r sl .aborted := by
  unfold abortTake
  rw [h]
  exact dropTake_eq r sl .aborted s

theorem SongFreed.abortTake {s u : State} {gone : Slot → Bool} {idle : Recorder → Bool} (h : SongFreed s u gone idle)
    (r : Recorder) :
    ∃ idle', SongFreed s (Machine.abortTake u r) (fun x => gone x || (s.recorder r).slot == some x) idle' ∧
      (∀ q, idle q = true → idle' q = true) ∧ ((s.recorder r).slot ≠ none → idle' r = true) := by
  cases hu : (u.recorder r).slot with
  | some x =>
    obtain ⟨hs, -⟩ := (h.slot r x).mp hu
    have hdropped : SongFreed s (Machine.abortTake u r) (fun y => gone y || y == x)
        fun q => (idle q || tailRecorder (u.reported 31 (.takeEnd r x .aborted (u.layer x).len (u.layer x).lost
          (pageCount (u.layer x).extents))) x == some q) || q == r := by
      rw [abortTake_eq u r x hu, withTakeDropped_eq u r x .aborted hu]
      refine (((h.congr ?_ ?_ ?_ ?_).withLayerFreed x).resetRecorder r x hs ?_) <;> simp [State.reported_eq]
    refine ⟨_, hdropped.of_gone fun y => ?_, fun q hq => ?_, fun _ => ?_⟩
    · rw [hs]
      rw [Option.some_beq_some, BEq.comm]
    · simp [hq]
    · simp
  | none =>
    have hsame : Machine.abortTake u r = u := by
      unfold Machine.abortTake
      rw [hu]
    rw [hsame]
    have hall : ∀ x, (s.recorder r).slot = some x → idle r = true := fun x hx => by
      by_contra hidle
      have := (h.slot r x).mpr ⟨hx, by simpa using hidle⟩
      rw [hu] at this
      cases this
    refine ⟨idle, h.of_gone fun x => ?_, fun _ => id, fun hne => ?_⟩
    · by_cases hx : (s.recorder r).slot = some x
      · obtain ⟨y, hy, hgone⟩ := h.named r (hall x hx)
        obtain rfl : y = x := Option.some.inj (hy.symm.trans hx)
        simp [hgone]
      · simp [hx]
    · obtain ⟨x, hx⟩ := Option.ne_none_iff_exists'.mp hne
      exact hall x hx

theorem SongFreed.abortTakes {s : State} (rs : List Recorder) : ∀ {u : State} {gone : Slot → Bool} {idle : Recorder → Bool},
    SongFreed s u gone idle →
    ∃ idle', SongFreed s (rs.foldl Machine.abortTake u) (fun x => gone x || rs.any fun q => (s.recorder q).slot == some x) idle' ∧
      (∀ q, idle q = true → idle' q = true) ∧ ∀ q ∈ rs, (s.recorder q).slot ≠ none → idle' q = true := by
  induction rs with
  | nil =>
    intro u gone idle h
    exact ⟨idle, h.of_gone fun x => by simp, fun _ => id, nofun⟩
  | cons r rest ih =>
    intro u gone idle h
    obtain ⟨idle₁, hfirst, hmono₁, hr⟩ := h.abortTake r
    obtain ⟨idle₂, hrest, hmono₂, hall⟩ := ih hfirst
    refine ⟨idle₂, hrest.of_gone fun x => ?_, fun q hq => hmono₂ q (hmono₁ q hq), fun q hq hne => ?_⟩
    · rw [List.any_cons, Bool.or_assoc]
    · rcases List.mem_cons.mp hq with rfl | hq
      · exact hmono₂ q (hr hne)
      · exact hall q hq hne

/-! ## The reports of the takes that an abort of the base take ends -/

/-- `u` after the TAKE_END ABORTED of the take that recorder `q` runs in `s`. -/
def State.abortReported (s u : State) (q : Recorder) : State :=
  match (s.recorder q).slot with
  | none => u
  | some x => u.reported 31 (.takeEnd q x .aborted (s.layer x).len (s.layer x).lost (pageCount (s.layer x).extents))

theorem reported_link_congr {u v : State} (h : u.link = v.link) (room : Nat) (m : Message) :
    (u.reported room m).link = (v.reported room m).link := by
  rw [State.reported_eq, State.reported_eq, State.setLink_link, State.setLink_link, h]

/-- A take whose layer and recorder no earlier abort has touched ends with the report of its own. -/
theorem SongFreed.abortTake_link {s u v : State} {gone : Slot → Bool} {idle : Recorder → Bool} (h : SongFreed s u gone idle)
    (hlink : u.link = v.link) (r : Recorder) (hr : ∀ x, (s.recorder r).slot = some x → gone x = false) :
    (Machine.abortTake u r).link = (s.abortReported v r).link := by
  have hrec : u.recorder r = s.recorder r := h.spared r hr
  unfold State.abortReported
  cases hs : (s.recorder r).slot with
  | none =>
    unfold Machine.abortTake
    rw [hrec, hs]
    exact hlink
  | some x =>
    have hlayer : u.layer x = s.layer x := by rw [h.layer, hr x hs]; rfl
    rw [abortTake_eq u r x (by rw [hrec, hs]), withTakeDropped_eq u r x .aborted (by rw [hrec, hs]), hlayer]
    exact reported_link_congr hlink 31 _

theorem SongFreed.abortTakes_link {s : State} (rs : List Recorder) :
    ∀ {u v : State} {gone : Slot → Bool} {idle : Recorder → Bool}, SongFreed s u gone idle → u.link = v.link →
      (∀ q ∈ rs, ∀ x, (s.recorder q).slot = some x → gone x = false) → (rs.map fun q => (s.recorder q).slot).Nodup →
      (rs.foldl Machine.abortTake u).link = (rs.foldl s.abortReported v).link := by
  induction rs with
  | nil => exact fun _ hlink _ _ => hlink
  | cons r rest ih =>
    intro u v gone idle h hlink hgone hnodup
    obtain ⟨hr, hrest⟩ := List.nodup_cons.mp hnodup
    obtain ⟨idle', hfirst, -, -⟩ := h.abortTake r
    refine ih hfirst (h.abortTake_link hlink r (hgone r List.mem_cons_self)) (fun q hq x hx => ?_) hrest
    have hne : (s.recorder r).slot ≠ some x := fun he => hr (List.mem_map.mpr ⟨q, hq, hx.trans he.symm⟩)
    simp [hgone q (List.mem_cons_of_mem r hq) x hx, hne]

theorem cancelled_link_congr (es : List CueEntry) : ∀ {u v : State}, u.link = v.link →
    (u.cancelled es).link = (v.cancelled es).link := by
  induction es with
  | nil => exact id
  | cons e rest ih => exact fun h => ih (reported_link_congr h 31 _)

/-- The cancelled queues leave the link with a CANCELLED for each entry. -/
theorem cancelCues_link (s : State) : (cancelCues s).link = (s.cancelled (s.cues.cycle ++ s.cues.beat)).link :=
  cancelled_link_congr _ rfl

/-! ## The abort of the base take -/

theorem foldl_abortTake_transport (rs : List Recorder) : ∀ s : State, (rs.foldl abortTake s).transport = s.transport := by
  induction rs with
  | nil => exact fun _ => rfl
  | cons r rest ih => exact fun s => (ih _).trans (abortTake_frame s r).1

theorem foldl_abortTake_cues (rs : List Recorder) : ∀ s : State, (rs.foldl abortTake s).cues = s.cues := by
  induction rs with
  | nil => exact fun _ => rfl
  | cons r rest ih => exact fun s => (ih _).trans (abortTake_frame s r).2.1

theorem cancelCues_cues (s : State) : (cancelCues s).cues = ⟨[], []⟩ := by
  unfold cancelCues
  generalize s.cues.cycle ++ s.cues.beat = es
  have hkeep : ∀ u : State, (es.foldl reportCancelled u).cues = u.cues := by
    induction es with
    | nil => exact fun _ => rfl
    | cons e rest ih => exact fun u => (ih _).trans (reportCancelled_frame u e).2.2.1
  exact hkeep _

theorem abortBase_cues (r : Recorder) (s : State) : (abortBase r s).cues = ⟨[], []⟩ := by
  unfold abortBase
  dsimp only
  rw [(stopBurst_frame _).2.2.1, State.setTransport_cues, cancelCues_cues]

theorem abortBase_eq (r : Recorder) (s : State) :
    abortBase r s =
      stopBurst ((cancelCues (freeAll ((r :: s.takes.order.filter (· != r)).foldl abortTake s))).setTransport
        (cancelCues (freeAll ((r :: s.takes.order.filter (· != r)).foldl abortTake s))).transport.enterIdle) := rfl

/-- The abort of the base take frees every layer in use, and idles the recorder of every take that names one. -/
theorem abortBase_songFreed (r : Recorder) (s : State) :
    ∃ idle, SongFreed s (abortBase r s) (s.freedByAbort r) idle ∧
      ∀ q ∈ r :: s.takes.order, (s.recorder q).slot ≠ none → idle q = true := by
  have hin : ∀ q, q ∈ r :: s.takes.order.filter (· != r) ↔ q ∈ r :: s.takes.order := fun q => by
    by_cases hq : q = r <;> simp [hq]
  rw [abortBase_eq]
  generalize r :: s.takes.order.filter (· != r) = rs at hin ⊢
  obtain ⟨idle₁, htakes, -, hidle₁⟩ := (songFreed_refl s).abortTakes rs
  obtain ⟨idle, hfreed, hmono⟩ := htakes.freeAll
  refine ⟨idle, (hfreed.congr ?_ ?_ ?_ ?_).of_gone fun x => ?_, fun q hq hne => hmono q (hidle₁ q ((hin q).mpr hq) hne)⟩
  · simp
  · simp
  · simp
  · simp
  · have hany : (rs.any fun q => (s.recorder q).slot == some x) =
        (r :: s.takes.order).any fun q => (s.recorder q).slot == some x := by
      rw [Bool.eq_iff_iff, List.any_eq_true, List.any_eq_true]
      exact exists_congr fun q => and_congr_left fun _ => hin q
    rw [State.freedByAbort, ← hany, Bool.false_or, Bool.or_comm]

theorem abortBase_transport (r : Recorder) (s : State) : (abortBase r s).transport = s.transport.enterIdle := by
  rw [abortBase_eq, (stopBurst_frame _).1, State.setTransport_transport, (cancelCues_frame _).1, (freeAll_frame _).1,
    foldl_abortTake_transport]

/-- The reports of the takes, the base take's first, and then those of the cancelled cues. -/
theorem abortBase_link (r : Recorder) (s : State)
    (h : ((r :: s.takes.order.filter (· != r)).map fun q => (s.recorder q).slot).Nodup) :
    (abortBase r s).link =
      (((r :: s.takes.order.filter (· != r)).foldl s.abortReported s).cancelled (s.cues.cycle ++ s.cues.beat)).link := by
  rw [abortBase_eq]
  generalize r :: s.takes.order.filter (· != r) = rs at h ⊢
  have htold := (songFreed_refl s).abortTakes_link rs rfl (fun _ _ _ _ => rfl) h
  rw [(stopBurst_frame _).2.2.2.2.2.2.2.2.1, State.setTransport_link, cancelCues_link, (freeAll_frame _).2.1,
    foldl_abortTake_cues]
  exact cancelled_link_congr _ (by rw [(freeAll_frame _).2.2.2.2.2.1]; exact htold)

/-- What the abort of the base take leaves, in the words of the statements. -/
theorem abortBase_baseTakeAborted (r : Recorder) (s : State) : baseTakeAborted r s (abortBase r s) := by
  obtain ⟨idle, hgone, hidle⟩ := abortBase_songFreed r s
  have horder : (s.takes.order.filter fun q => !idle q) = s.takes.order.filter fun q => (s.recorder q).slot == none := by
    refine List.filter_congr fun q hq => ?_
    cases hi : idle q with
    | true =>
      obtain ⟨x, hx, -⟩ := hgone.named q hi
      simp [hx]
    | false =>
      have := mt (hidle q (List.mem_cons_of_mem r hq)) (by simp [hi])
      simpa using this
  exact ⟨abortBase_transport r s, hgone.layer, hgone.stack, hgone.redo, hgone.mutes, hgone.pool, hgone.sorted, hgone.buffer,
    hgone.store, fun q hq x hx => hgone.idled q (hidle q hq (by simp [hx])), fun q hq => hgone.spared q (by simp [hq]),
    hgone.order.trans horder, abortBase_cues r s, abortBase_link r s, hgone.jobNone, by simp⟩

/-! ## UNDO in a take -/

theorem newestTake_eq (s : State) (older newer : List Recorder) (r : Recorder) (sl : Slot)
    (horder : s.takes.order = older ++ r :: newer) (hr : (s.recorder r).slot = some sl) (hin : (s.layer sl).state.inProgress = true)
    (hnewer : ∀ q ∈ newer, ∀ x, (s.recorder q).slot = some x → (s.layer x).state.inProgress = false) : newestTake s = some r := by
  unfold newestTake
  rw [horder, List.reverse_append, List.reverse_cons, List.append_assoc, List.find?_append, List.find?_eq_none.mpr]
  · simp [hr, hin]
  · intro q hq
    cases hs : (s.recorder q).slot with
    | none => simp
    | some x => simp [hnewer q (List.mem_reverse.mp hq) x hs]

/-- Settles O29: the newest take is the latest of the take order list in progress; its abort is `dropTake_eq`, that of the base take
`abortBase_baseTakeAborted`. -/
theorem undoAbortsTheNewestTake : Obligations.UndoAbortsTheNewestTake := by
  intro s tag r sl older newer h hi horder hr hin hnewer
  have hinp : (s.layer sl).state.inProgress = true := (inProgress_iff _).mpr hin
  have hnewest : newestTake s = some r := newestTake_eq s older newer r sl horder hr hinp fun q hq x hx =>
    Bool.eq_false_iff.mpr fun hp => ((inProgress_iff _).mp hp).elim (hnewer q hq x hx).1 (hnewer q hq x hx).2
  have htake : takeInProgress s = true := List.any_eq_true.mpr ⟨sl, mem_slotNumbers sl, hinp⟩
  have hresult : cueResult .undo 0 0 s = (.ok, sl.val) := by
    simp [cueResult, stateRefusal_undo _ hi, undoResult, htake, hnewest, hr, optNumber]
  have happly : ∀ ms, applyCue .undo 0 0 0 (s.queued ms) =
      if (s.recorder r).base then abortBase r (s.queued ms) else abortTake (s.queued ms) r := fun ms => by
    have ht : takeInProgress (s.queued ms) = true := htake
    have hn : newestTake (s.queued ms) = some r := hnewest
    simp only [applyCue, applyQueued, applyUndo, ht, hn, if_true]
    rfl
  have hnow : applyCue .undo 0 0 0 s = if (s.recorder r).base then abortBase r s else abortTake s r := by
    simp only [applyCue, applyQueued, applyUndo, htake, hnewest, if_true]
  have hstep := takeRequest_cue_ok .undo tag 0 0 0 s sl.val h rfl hresult
  rw [happly, hnow] at hstep
  constructor
  · intro hb
    simp only [hb, Bool.false_eq_true, if_false] at hstep
    rw [cueReply_of_cues (abortTake_frame s r).2.1, abortTake_eq _ r sl (by exact hr)] at hstep
    exact congrArg Host.Outcome.next hstep
  · intro hb
    simp only [hb, if_true] at hstep
    refine ⟨_, congrArg Host.Outcome.next hstep, ?_⟩
    have hreply : (abortBase r s).cueReply .ok tag sl.val = .cue .ok tag sl.val 0 0 := by
      unfold State.cueReply
      rw [abortBase_cues]
      rfl
    rw [hreply]
    exact abortBase_baseTakeAborted r _

end Sys2Proof.Machine
end

section
/-! The base take that begins: by START_BASE (O21) and at a window end of an armed lane (O53). -/

namespace Sys2Proof.Machine

/-! ## The admission tests -/

/-- Both tables are empty, the redo list too, and `page` is the first page of the pool. -/
structure State.Empty (s : State) (page : Nat) (rest : List Nat) : Prop where
  layers : ∀ sl, (s.layer sl).state = .free
  recorders : ∀ r, (s.recorder r).state = .idle
  redo : s.table.redo = []
  pool : s.store.pool = page :: rest

theorem findSlot_zero (s : State) (test : LayerRec → Bool) (h : test (s.layer 0) = true) : findSlot s test = some 0 := by
  have hhead : ∃ rest, slotNumbers = 0 :: rest := ⟨_, slotNumbers_eq.trans List.finRange_succ⟩
  obtain ⟨rest, hs⟩ := hhead
  unfold findSlot
  rw [hs]
  exact List.find?_cons_of_pos (p := fun sl => test (s.layer sl)) h

theorem State.Empty.findSlot {s : State} {page : Nat} {rest : List Nat} (h : s.Empty page rest) (test : LayerRec → Bool)
    (ht : ∀ l : LayerRec, l.state = .free → test l = true) : findSlot s test = some 0 :=
  findSlot_zero s test (ht _ (h.layers 0))

theorem State.Empty.idleRecorder {s : State} {page : Nat} {rest : List Nat} (h : s.Empty page rest) :
    idleRecorder s = some 0 := by
  have hhead : ∃ rest, recorderNumbers = 0 :: rest := ⟨_, recorderNumbers_eq.trans List.finRange_succ⟩
  obtain ⟨rest, hs⟩ := hhead
  unfold Machine.idleRecorder
  rw [hs]
  exact List.find?_cons_of_pos (p := fun r => decide ((s.recorder r).state = .idle)) (decide_eq_true (h.recorders 0))

/-- Without parked layers the pool is counted as it is. -/
theorem countedPool_of_none_parked (s : State) (h : ∀ sl, (s.layer sl).state = .parked → pagesOf (s.layer sl).extents = []) :
    countedPool s = s.store.pool := by
  unfold countedPool
  generalize slotNumbers = sls
  induction sls with
  | nil => rfl
  | cons sl rest ih =>
    rw [List.foldr_cons, ih]
    split
    · next hp => rw [h sl hp]; rfl
    · rfl

theorem State.Empty.takeRefusal {s : State} {page : Nat} {rest : List Nat} (h : s.Empty page rest) (l : Lane)
    (he : (s.lane l).enable = true) (hp : s.store.pages ≠ 0) : takeRefusal l s = none := by
  have hslot : Machine.findSlot s (fun l => l.state == .free || l.state == .parked) = some 0 :=
    h.findSlot _ fun l hl => by simp [hl]
  have hcount : countedPool s = page :: rest :=
    (countedPool_of_none_parked s fun sl hsl => absurd ((h.layers sl).symm.trans hsl) (by decide)).trans h.pool
  simp [Machine.takeRefusal, he, hp, h.idleRecorder, hslot, hcount]

theorem State.Empty.slotToCome {s : State} {page : Nat} {rest : List Nat} (h : s.Empty page rest) : slotToCome s = 0 := by
  unfold Machine.slotToCome
  rw [h.findSlot _ fun l hl => by simp [hl]]
  rfl

/-- The first admission test that fails, in the words of the statements. -/
theorem takeRefusal_of_startFails (s : State) (l : Lane) (code : Code) (h : s.startFails l code) : takeRefusal l s = some code := by
  unfold takeRefusal
  have hrec : (∃ r, (s.recorder r).state = .idle) → idleRecorder s ≠ none := fun ⟨r, hr⟩ hn => by
    have := List.find?_eq_none.mp hn r (mem_recorderNumbers r)
    simp [hr] at this
  rcases h with ⟨rfl, he⟩ | ⟨rfl, he, hp⟩ | ⟨rfl, he, hp, hr⟩ | ⟨rfl, he, hp, hr, hsl⟩ | ⟨rfl, he, hp, hr, ⟨sl, hsl⟩, hpool, hparked⟩
  · simp [he]
  · simp [he, hp]
  · have hnone : idleRecorder s = none := List.find?_eq_none.mpr fun r _ => by simp [hr r]
    simp [he, hp, hnone]
  · have hnone : findSlot s (fun l => l.state == .free || l.state == .parked) = none :=
      List.find?_eq_none.mpr fun sl _ => by simp [hsl sl]
    simp [he, hp, hrec hr, hnone]
  · have hsome : findSlot s (fun l => l.state == .free || l.state == .parked) ≠ none := fun hn => by
      have := List.find?_eq_none.mp hn sl (mem_slotNumbers sl)
      rcases hsl with hsl | hsl <;> simp [hsl] at this
    have hcount : countedPool s = [] :=
      (countedPool_of_none_parked s fun sl hsl => by rw [hparked sl hsl]; rfl).trans hpool
    simp [he, hp, hrec hr, hsome, hcount]

theorem cueResult_startBase (s : State) (p1 p2 : Byte) (hi : s.transport.state = .idle) :
    cueResult .startBase p1 p2 s = startResult p1 s := by
  simp [cueResult, stateRefusal, hi]

theorem State.Empty.startResult {s : State} {page : Nat} {rest : List Nat} (h : s.Empty page rest) (p1 : Byte)
    (he : (s.lane (byteFin 4 p1)).enable = true) (hp : s.store.pages ≠ 0) : startResult p1 s = (.ok, 0) := by
  unfold Machine.startResult
  rw [h.takeRefusal _ he hp, h.slotToCome]

/-! ## The take begins -/

/-- The steps of an admission into empty tables: recorder 0, slot 0 and the first page of the pool. -/
theorem State.Empty.admitTake {s : State} {page : Nat} {rest : List Nat} (h : s.Empty page rest) (l : Lane) (multiple : Nat) :
    admitTake l multiple 0 true 0 s =
      { s with
        takes := { recs := s.takes.recs.set 0 (takeRecorder l 0 true), order := s.takes.order ++ [0] }
        table :=
          { s.table with layers := s.table.layers.set 0 { takeLayer s l multiple 0 0 with extents := [⟨page, 1⟩] } }
        store := { s.store with pool := rest } } := by
  have hredo : releaseRedo s = s := by
    unfold releaseRedo freeLayers
    rw [h.redo]
    rfl
  unfold Machine.admitTake
  dsimp only
  rw [hredo, h.idleRecorder, h.findSlot _ fun l hl => by simp [hl]]
  dsimp only
  unfold admitWith acquirePage
  dsimp only [State.setLayer_store, State.setTakes_store]
  rw [h.pool]
  dsimp only
  rw [State.setLayer_layer, if_pos rfl]
  dsimp only [takeLayer, LayerRec.freed, appendPage, List.getLast?_nil]
  unfold State.setLayer
  dsimp only [State.setTable, State.setTakes, State.setStore]
  rw [Vector.set_set]
  rfl

theorem State.Empty.applyStartBase_free {s : State} {page : Nat} {rest : List Nat} (h : s.Empty page rest) (p1 : Byte)
    (hm : s.transport.mode = .free) : applyStartBase p1 s = s.withFreeBaseTake (byteFin 4 p1) page rest := by
  unfold applyStartBase
  dsimp only
  rw [hm, h.admitTake]
  rfl

/-- The cycle start of a base take finds no layer with a layer cycle but its own. -/
theorem advanceCycles_eq_self (skip : Option Slot) (s : State)
    (h : ∀ sl, skip = some sl ∨ (s.layer sl).state.cycles = false) : advanceCycles skip s = s := by
  have hsame : (fun sl => if skip = some sl then s.layer sl else (s.layer sl).advanced) = s.layer := by
    funext sl
    split
    · rfl
    · next hne => simp [LayerRec.advanced, (h sl).resolve_left hne]
  unfold advanceCycles mapLayers
  rw [show (fun sl => if skip = some sl then s.layer sl else (s.layer sl).advanced) = s.layer from hsame, ← layers_eq_ofFn]
  rfl

theorem linkTakes_eq (b : Boundary) (s : State) : linkTakes b s = s.boundaryReportedFor b.c b.beat := by
  unfold linkTakes State.boundaryReportedFor
  split
  · rfl
  · rfl

/-- A cycle start with no cue waiting: the control link alone raises a report. -/
theorem raiseBoundary_of_no_cues (freeClosure : Bool) (skip : Option Slot) (s : State) (h : s.cues = ⟨[], []⟩) :
    raiseBoundary 0 freeClosure skip s = (boundaryBegun 0 skip s).boundaryReportedFor s.transport.c 0 := by
  have hcues : (boundaryBegun 0 skip s).cues = ⟨[], []⟩ := by simp [boundaryBegun, h]
  have hreceivers : receivers ⟨0, s.transport.c, freeClosure⟩ (boundaryBegun 0 skip s) = [.link] := by
    simp [receivers, linkRaises, anyFires, hcues]
  show (openOrder (receivers ⟨0, s.transport.c, freeClosure⟩ (boundaryBegun 0 skip s)) (boundaryBegun 0 skip s)).1.foldl _
    (openOrder (receivers ⟨0, s.transport.c, freeClosure⟩ (boundaryBegun 0 skip s)) (boundaryBegun 0 skip s)).2 = _
  rw [hreceivers]
  exact linkTakes_eq _ _

theorem pulseAt_zero (s : State) : pulseAt 0 s = s.setTransport s.transport.pulsed := by
  unfold pulseAt Transport.pulsed
  split
  · next hm => rw [if_pos hm, if_pos hm]; rfl
  · next hm => rw [if_pos rfl, if_neg (by rw [hm]; decide), if_neg (by rw [hm]; decide)]; rfl
  · next hm => rw [if_neg (by rw [hm]; decide), if_neg (by rw [hm]; decide)]; rfl

/-- `s` with the base take of lane `l` begun in GRID mode, before its cycle start. -/
def State.gridBegun (s : State) (l : Lane) (page : Nat) (rest : List Nat) : State :=
  let taken := s.withFreeBaseTake l page rest
  { taken with
    transport := { taken.transport with length := some (s.transport.beats * samplesPerBeat s.transport.tempo) }
    table :=
      { s.table with layers := s.table.layers.set 0 { takeLayer s l 8 0 0 with extents := [⟨page, 1⟩] } } }

theorem State.Empty.applyStartBase_grid {s : State} {page : Nat} {rest : List Nat} (h : s.Empty page rest) (p1 : Byte)
    (hm : s.transport.mode = .grid) (hc : s.cues = ⟨[], []⟩) :
    applyStartBase p1 s = (s.withGridBaseTake (byteFin 4 p1) page rest).boundaryReported 0 := by
  have hbegun : applyStartBase p1 s =
      raiseBoundary 0 false (Machine.findSlot (s.gridBegun (byteFin 4 p1) page rest) fun l => l.state == .recording)
        (s.gridBegun (byteFin 4 p1) page rest) := by
    unfold applyStartBase
    dsimp only
    rw [hm, h.admitTake]
    rfl
  have hlayer : ∀ sl, ((s.gridBegun (byteFin 4 p1) page rest).layer sl) =
      if sl = 0 then { takeLayer s (byteFin 4 p1) 8 0 0 with extents := [⟨page, 1⟩] } else s.layer sl :=
    fun sl => State.setLayer_layer s 0 sl _
  have hskip : ∀ sl, some (0 : Slot) = some sl ∨ ((s.gridBegun (byteFin 4 p1) page rest).layer sl).state.cycles = false := by
    intro sl
    by_cases hsl : sl = 0
    · exact .inl (by rw [hsl])
    · rw [hlayer, if_neg hsl, h.layers sl]
      exact .inr rfl
  rw [hbegun, findSlot_zero _ _ (by rw [hlayer, if_pos rfl]; rfl), raiseBoundary_of_no_cues _ _ _ (by exact hc)]
  have hstart : boundaryBegun 0 (some 0) (s.gridBegun (byteFin 4 p1) page rest) = s.withGridBaseTake (byteFin 4 p1) page rest := by
    unfold boundaryBegun
    rw [if_pos rfl, advanceCycles_eq_self _ _ hskip, pulseAt_zero]
    refine State.eq_of_fields rfl ?_ rfl rfl rfl rfl rfl rfl rfl rfl rfl rfl rfl
    unfold State.withGridBaseTake
    have hset : ∀ x : LayerRec, ((s.withFreeBaseTake (byteFin 4 p1) page rest).table.layers.set 0 x) = s.table.layers.set 0 x :=
      fun x => Vector.set_set ..
    dsimp only
    rw [hset, show (s.withFreeBaseTake (byteFin 4 p1) page rest).layer 0 = _ from
      (State.setLayer_layer s 0 0 _).trans (if_pos rfl)]
    rfl
  rw [hstart]
  rfl

theorem boundaryReportedFor_cues (s : State) (c beat : Nat) : (s.boundaryReportedFor c beat).cues = s.cues := by
  unfold State.boundaryReportedFor
  split <;> rfl

/-- Settles O21: no test fails (`State.Empty.takeRefusal`), and the take begins as `State.Empty.applyStartBase_free` and
`State.Empty.applyStartBase_grid` say. -/
theorem startBaseBeginsTheBaseTake : Obligations.StartBaseBeginsTheBaseTake := by
  have hresult : ∀ (s : State) (lane : Byte) (l : Lane) (page : Nat) (rest : List Nat), lane.toNat = l.val →
      s.transport.state = .idle → (s.lane l).enable = true → s.store.pages ≠ 0 → s.Empty page rest →
      cueResult .startBase lane 0 s = (.ok, 0) := by
    intro s lane l page rest hl hi he hp h
    rw [cueResult_startBase s lane 0 hi]
    exact h.startResult lane (by rw [byteFin_eq lane l hl]; exact he) hp
  have hrange : ∀ (lane : Byte) (l : Lane), lane.toNat = l.val → paramsInRange .startBase lane 0 0 = true := by
    intro lane l hl
    exact decide_eq_true (by omega)
  constructor
  · intro s tag lane l page rest hready hl hi hm he hp hpool hlayers hrecs hredo
    have h : s.Empty page rest := ⟨hlayers, hrecs, hredo, hpool⟩
    have hstep := takeRequest_cue_ok .startBase tag lane 0 0 s 0 hready (hrange lane l hl) (hresult s lane l page rest hl hi he hp h)
    have hq : ∀ ms, (s.queued ms).Empty page rest := fun _ => ⟨hlayers, hrecs, hredo, hpool⟩
    have happly : ∀ u : State, applyCue .startBase lane 0 0 u = applyStartBase lane u := fun _ => rfl
    rw [happly, happly, h.applyStartBase_free lane hm, (hq _).applyStartBase_free lane (by exact hm), byteFin_eq lane l hl] at hstep
    exact congrArg Host.Outcome.next hstep
  · intro s tag lane l page rest hready hl hi hm he hp hpool hlayers hrecs hredo hc
    have h : s.Empty page rest := ⟨hlayers, hrecs, hredo, hpool⟩
    have hstep := takeRequest_cue_ok .startBase tag lane 0 0 s 0 hready (hrange lane l hl) (hresult s lane l page rest hl hi he hp h)
    have hq : ∀ ms, (s.queued ms).Empty page rest := fun _ => ⟨hlayers, hrecs, hredo, hpool⟩
    have happly : ∀ u : State, applyCue .startBase lane 0 0 u = applyStartBase lane u := fun _ => rfl
    have hcues : (applyStartBase lane s).cues = s.cues := by
      rw [h.applyStartBase_grid lane hm hc, State.boundaryReported, boundaryReportedFor_cues]
      rfl
    rw [happly, happly, cueReply_of_cues hcues, (hq _).applyStartBase_grid lane (by exact hm) (by exact hc),
      byteFin_eq lane l hl] at hstep
    exact congrArg Host.Outcome.next hstep

/-! ## A window end -/

theorem exec_windowEnd (s : State) (n : Lane) (h : isRunning s = true) (hd : (s.lane n).pos = 480) :
    exec (.windowEnd n) s = .next (endWindow n s) := by
  simp [exec, execWindowEnd, takeEvent, h, windowEndDue, hd]

/-- The start of an armed lane: its report, and the take where no test fails. -/
theorem autoStart_eq (n : Lane) (s : State) (hi : s.transport.state = .idle) :
    autoStart n s =
      if (startResult (byte n.val) s).1 = .ok then
        applyStartBase (byte n.val)
          (s.reported 31 (.cueFired 255 .startBase (startResult (byte n.val) s).1 (startResult (byte n.val) s).2))
      else s.reported 31 (.cueFired 255 .startBase (startResult (byte n.val) s).1 (startResult (byte n.val) s).2) := by
  unfold autoStart
  rw [cueResult_startBase s _ 0 hi]
  rfl

theorem byteFin_byte (n : Lane) : byteFin 4 (byte n.val) = n :=
  byteFin_eq _ n (by
    have := n.isLt
    simp [byte]
    omega)

/-- Settles O53: `endWindow` writes the judged band out, and `autoStart_eq` starts the take on the state told. -/
theorem windowEndsReportAndStart : Obligations.WindowEndsReportAndStart := by
  intro s n hr hd l w judged mask ended told starts
  have hended : ended.lane n = { l with band := judged.1, below := judged.2, peak := 0, pos := 0 } :=
    (State.setLane_lane s n n _).trans (if_pos rfl)
  have hlevel : levelEvent n l.band judged.1 ended = told := by
    unfold levelEvent levelReported
    rw [hended]
    exact if_congr (and_congr ne_comm Iff.rfl) rfl rfl
  have hkeep : ∀ {β : Type} (f : State → β) (hf : ∀ m, f (ended.reported 24 m) = f ended), f told = f ended := by
    intro β f hf
    exact (apply_ite f _ _ _).trans (by rw [hf, ite_self])
  have hlanes : told.lanes = ended.lanes := hkeep (fun t => t.lanes) fun m => by rw [State.reported_eq]; rfl
  have htransport : told.transport = s.transport := hkeep (fun t => t.transport) fun m => by rw [State.reported_eq]; rfl
  have htable : told.table = s.table := hkeep (fun t => t.table) fun m => by rw [State.reported_eq]; rfl
  have htakes : told.takes = s.takes := hkeep (fun t => t.takes) fun m => by rw [State.reported_eq]; rfl
  have hstore : told.store = s.store := hkeep (fun t => t.store) fun m => by rw [State.reported_eq]; rfl
  have hcues : told.cues = s.cues := hkeep (fun t => t.cues) fun m => by rw [State.reported_eq]; rfl
  clear_value told
  have hlane : told.lane n = { l with band := judged.1, below := judged.2, peak := 0, pos := 0 } := by
    rw [← hended]
    unfold State.lane
    rw [hlanes]
  have hend : endWindow n s = if autoStarts n l.band judged.1 told then autoStart n told else told := by
    rw [← hlevel]
    rfl
  have hstarts : autoStarts n l.band judged.1 told = true ↔ starts := by
    unfold autoStarts
    rw [hlane, htransport]
    simp only [Bool.and_eq_true, decide_eq_true_eq, beq_iff_eq]
    tauto
  rw [exec_windowEnd s n hr hd, hend]
  clear_value judged
  refine ⟨fun hn => ?_, fun hs code hcode => ?_, fun page rest hs he hp hpool hlayers hrecs hredo => ?_⟩
  · rw [if_neg (mt hstarts.mp hn)]
  · have hi : told.transport.state = .idle := by rw [htransport]; exact hs.2.1
    have hfails : takeRefusal n told = some code := by
      refine takeRefusal_of_startFails told n code ?_
      unfold State.startFails State.layer State.recorder at hcode ⊢
      rw [hlane, hstore, htable, htakes]
      exact hcode
    have hresult : startResult (byte n.val) told = (code, 255) := by
      unfold startResult
      rw [byteFin_byte, hfails]
    have hne : code ≠ .ok := by
      rcases hcode with ⟨rfl, -⟩ | ⟨rfl, -⟩ | ⟨rfl, -⟩ | ⟨rfl, -⟩ | ⟨rfl, -⟩ <;> decide
    rw [if_pos (hstarts.mpr hs), autoStart_eq n told hi, hresult, if_neg hne]
  · have hi : told.transport.state = .idle := by rw [htransport]; exact hs.2.1
    have hempty : told.Empty page rest :=
      ⟨fun sl => by unfold State.layer; rw [htable]; exact hlayers sl,
        fun r => by unfold State.recorder; rw [htakes]; exact hrecs r, by rw [htable]; exact hredo, by rw [hstore]; exact hpool⟩
    have hresult : startResult (byte n.val) told = (.ok, 0) :=
      hempty.startResult _ (by rw [byteFin_byte, hlane]; exact he) (by rw [hstore]; exact hp)
    rw [if_pos (hstarts.mpr hs), autoStart_eq n told hi, hresult, if_pos rfl]
    intro fired
    have hfired : fired = told.setLink (told.link.reported 31 (.cueFired 255 .startBase .ok 0)) := State.reported_eq ..
    have hfiredEmpty : fired.Empty page rest := by
      rw [hfired]
      exact ⟨hempty.layers, hempty.recorders, hempty.redo, hempty.pool⟩
    have hmode : fired.transport.mode = s.transport.mode := by rw [hfired, State.setLink_transport, htransport]
    refine ⟨fun hm => ?_, fun hm hc => ?_⟩
    · rw [hfiredEmpty.applyStartBase_free _ (hmode.trans hm), byteFin_byte]
    · rw [hfiredEmpty.applyStartBase_grid _ (hmode.trans hm) (by rw [hfired, State.setLink_cues, hcues, hc]), byteFin_byte]

end Sys2Proof.Machine
end

section
/-! A base take that runs out (O46): the closure of the base take with no cue waiting, and the recorders of a sample period of which one
alone is RECORDING. -/

namespace Sys2Proof.Machine

/-! ## The closure notice -/

/-- The recorder at the closure: its report, and IDLE or the tail drain. -/
theorem closeRecorder_eq (r : Recorder) (sl : Slot) (s : State) :
    closeRecorder r sl s =
      (s.setTakes
        (if (s.recorder r).fifo = [] ∧ (s.recorder r).gap = 0 ∧ (s.recorder r).inFlight = false then
          { recs := s.takes.recs.set r.val RecorderRec.idle, order := s.takes.order.filter (· != r) }
        else
          { s.takes with recs := s.takes.recs.set r.val { s.recorder r with state := .closing, tail := true } })).reported 31
        (.takeEnd r sl ((s.recorder r).endReason.getD .closed) (s.layer sl).len (s.layer sl).lost
          (pageCount (s.layer sl).extents)) := by
  unfold closeRecorder
  dsimp only
  rw [reportTakeEnd_eq_reported, State.reported_eq, State.reported_eq, State.setTakes_link]
  generalize s.link.reported 31 _ = k
  have hrec : ((s.setLink k).setRecorder r { s.recorder r with state := .closing, tail := true }).recorder r =
      { s.recorder r with state := .closing, tail := true } := (State.setRecorder_recorder _ r r _).trans (if_pos rfl)
  have hd : drained { s.recorder r with state := .closing, tail := true } = true ↔
      (s.recorder r).fifo = [] ∧ (s.recorder r).gap = 0 ∧ (s.recorder r).inFlight = false := by
    simp [drained, and_assoc]
  rw [State.setLink_recorder, hrec]
  by_cases hc : (s.recorder r).fifo = [] ∧ (s.recorder r).gap = 0 ∧ (s.recorder r).inFlight = false
  · rw [if_pos (hd.mpr hc), if_pos hc]
    refine State.eq_of_fields rfl rfl rfl rfl ?_ rfl rfl rfl rfl rfl rfl rfl rfl
    simp [resetRecorder, State.setRecorder]
  · rw [if_neg (mt hd.mp hc), if_neg hc]
    rfl

/-- `s` with the layer of the base take of recorder `r` in slot `sl` taken into the loop: ACTIVE with multiple `m` at the top of the stack,
its head copy in its buffer, and the recorder IDLE or in its tail drain. -/
def State.baseJoined (s : State) (r : Recorder) (sl : Slot) (m : Nat) : State :=
  let q := s.recorder r
  { s with
    takes :=
      if q.filled = [] ∧ q.inFlight = false then
        { recs := s.takes.recs.set r.val RecorderRec.idle, order := s.takes.order.filter (· != r) }
      else
        { s.takes with
          recs := s.takes.recs.set r.val { q with state := .closing, tail := true, gap := 0, fifo := q.filled } }
    table :=
      { s.table with
        stack := s.table.stack ++ [sl]
        layers := s.table.layers.set sl.val (closedBase { s.layer sl with lost := (s.layer sl).lostIn q } m) }
    store := { s.store with buffers := s.store.buffers.set sl.val (some ⟨headEntries q (s.layer sl), true, false⟩) } }

/-- The TAKE_END of the base take of recorder `r` in slot `sl` at its closure. -/
def State.baseTakeEnd (s : State) (r : Recorder) (sl : Slot) : Message :=
  .takeEnd r sl ((s.recorder r).endReason.getD .closed) (s.layer sl).len ((s.layer sl).lostIn (s.recorder r))
    (pageCount (s.layer sl).extents)

theorem closeBaseTake_eq (m : Nat) (r : Recorder) (sl : Slot) (s : State) :
    closeBaseTake m r sl s = (s.baseJoined r sl m).reported 31 (s.baseTakeEnd r sl) := by
  let q : RecorderRec := { s.recorder r with fifo := (s.recorder r).filled, gap := 0 }
  let l : LayerRec := closedBase { s.layer sl with lost := (s.layer sl).lostIn (s.recorder r) } m
  let j : State :=
    { s with
      takes := { s.takes with recs := s.takes.recs.set r.val q }
      table := { s.table with stack := s.table.stack ++ [sl], layers := s.table.layers.set sl.val l }
      store := { s.store with buffers := s.store.buffers.set sl.val (some ⟨headEntries q l, true, false⟩) } }
  have hrec : j.recorder r = q := (State.setRecorder_recorder s r r q).trans (if_pos rfl)
  have hlayer : j.layer sl = l := (State.setLayer_layer s sl sl l).trans (if_pos rfl)
  have hjoined : closeBaseTake m r sl s = closeRecorder r sl j := by
    unfold closeBaseTake
    rw [closeGap_eq]
    dsimp only
    rw [State.setLayer_layer, if_pos rfl]
    refine congrArg (closeRecorder r sl) (State.eq_of_fields rfl ?_ rfl rfl rfl ?_ rfl rfl rfl rfl rfl rfl rfl)
    · simp [j, l, State.setLayer]
    · have hq : ∀ u : State, u = (s.setRecorder r q).setLayer sl { s.layer sl with lost := (s.layer sl).lostIn (s.recorder r) } →
          ∀ x t, ((u.setLayer sl x).setTable { (u.setLayer sl x).table with stack := t }).recorder r = q ∧
            ((u.setLayer sl x).setTable { (u.setLayer sl x).table with stack := t }).layer sl = x := by
        rintro u rfl x t
        exact ⟨(State.setRecorder_recorder s r r q).trans (if_pos rfl), (State.setLayer_layer _ sl sl x).trans (if_pos rfl)⟩
      obtain ⟨hr, hl⟩ := hq _ rfl l (s.table.stack ++ [sl])
      exact congrArg₂ (fun a b => { s.store with buffers := s.store.buffers.set sl.val (some ⟨headEntries a b, true, false⟩) }) hr hl
  rw [hjoined, closeRecorder_eq, hrec, hlayer]
  have hgap : q.gap = 0 := rfl
  have htakes : (j.setTakes
      (if q.fifo = [] ∧ q.gap = 0 ∧ q.inFlight = false then
        { recs := j.takes.recs.set r.val RecorderRec.idle, order := j.takes.order.filter (· != r) }
      else { j.takes with recs := j.takes.recs.set r.val { q with state := .closing, tail := true } })) =
      s.baseJoined r sl m := by
    refine State.eq_of_fields rfl rfl rfl rfl ?_ ?_ rfl rfl rfl rfl rfl rfl rfl
    · simp [j, q, State.baseJoined]
    · simp [j, l, q, State.baseJoined, headEntries, closedBase]
  rw [htakes]
  rfl

/-! ## The closure with no cue waiting -/

theorem boundaryBegun_zero (skip : Option Slot) (s : State) :
    boundaryBegun 0 skip s = (startBurst 0 (advanceCycles skip s)).setTransport s.transport.pulsed := by
  unfold boundaryBegun
  rw [if_pos rfl, pulseAt_zero, (startBurst_frame 0 _).1, (advanceCycles_frame skip s).1]

theorem advanceCycles_setLink (skip : Option Slot) (s : State) (l : Link) :
    advanceCycles skip (s.setLink l) = (advanceCycles skip s).setLink l := by
  unfold advanceCycles mapLayers
  simp only [State.setLink_layer, State.setLink_table, State.setLink_setTable]

theorem linkFree_boundaryBegun (skip : Option Slot) : LinkFree (boundaryBegun 0 skip) where
  link s := by
    rw [boundaryBegun_zero, State.setTransport_link]
    simp
  comm s l := by
    rw [boundaryBegun_zero, boundaryBegun_zero, advanceCycles_setLink]
    unfold startBurst
    simp

theorem advanceCycles_table (skip : Option Slot) (s : State) :
    (advanceCycles skip s).table =
      { s.table with
        layers := Vector.ofFn fun x => if skip = some x then s.layer x else (s.layer x).advanced } := rfl

/-- The cycle start behind a closure notice, with the base layer `l`. -/
theorem boundaryBegun_baseJoined (sl : Slot) (s u : State) (l : LayerRec)
    (hlayer : ∀ x, u.layer x = if x = sl then l else s.layer x) :
    boundaryBegun 0 (some sl) u =
      { u with
        transport := u.transport.pulsed
        table := { u.table with layers := Vector.ofFn fun x => if x = sl then l else (s.layer x).advanced }
        mix := { u.mix with burstPos := some 0, burstAmp := u.mix.clickAmp, burstEnding := false } } := by
  have hlayers : (fun x => if some sl = some x then u.layer x else (u.layer x).advanced) =
      fun x => if x = sl then l else (s.layer x).advanced := by
    funext x
    rw [hlayer]
    by_cases hx : x = sl
    · rw [if_pos (by rw [hx]), if_pos hx, if_pos hx]
    · rw [if_neg (by simpa [eq_comm] using hx), if_neg hx, if_neg hx]
  have htable : ((startBurst 0 (advanceCycles (some sl) u)).setTransport u.transport.pulsed).table =
      { u.table with layers := Vector.ofFn fun x => if x = sl then l else (s.layer x).advanced } := by
    rw [State.setTransport_table, (startBurst_frame 0 _).2.1, advanceCycles_table, hlayers]
  have hmix : ((startBurst 0 (advanceCycles (some sl) u)).setTransport u.transport.pulsed).mix =
      { u.mix with burstPos := some 0, burstAmp := u.mix.clickAmp, burstEnding := false } := by
    rw [State.setTransport_mix, startBurst, State.setMix_mix, (advanceCycles_frame (some sl) u).2.2.2.2.2.2.1]
    rfl
  rw [boundaryBegun_zero]
  refine State.eq_of_fields (State.setTransport_transport _ _) htable ?_ ?_ ?_ ?_ ?_ hmix ?_ ?_ ?_ ?_ ?_ <;>
    simp

/-- The closure notice and the cycle start of the closure, in the words of the statements. -/
theorem closure_begun (m : Nat) (r : Recorder) (sl : Slot) (length : Nat) (s : State) :
    boundaryBegun 0 (some sl) (closeBaseTake m r sl (s.setTransport (s.transport.enterClosed length))) =
      s.withBaseTakeClosed r sl m length (s.transport.enterClosed length).c := by
  rw [closeBaseTake_eq, (linkFree_boundaryBegun (some sl)).reported,
    boundaryBegun_baseJoined sl s ((s.setTransport (s.transport.enterClosed length)).baseJoined r sl m)
      (closedBase { s.layer sl with lost := (s.layer sl).lostIn (s.recorder r) } m) fun x => State.setLayer_layer s sl x _]
  rfl

/-- The closure with no cue waiting: the cycle start's BOUNDARY stands behind TAKE_END. -/
theorem closure_of_no_cues (m length : Nat) (s : State) (r : Recorder) (sl : Slot) (hr : baseRecorder s = some r)
    (hsl : (s.recorder r).slot = some sl) (hcues : s.cues = ⟨[], []⟩) :
    closure m length s =
      (s.withBaseTakeClosed r sl m length (s.transport.enterClosed length).c).boundaryReported 0 := by
  have hrec : baseRecorder (s.setTransport (s.transport.enterClosed length)) = some r := hr
  have hslot : ((s.setTransport (s.transport.enterClosed length)).recorder r).slot = some sl := hsl
  have hcount : ∀ u : State, (closeBaseTake m r sl u).transport = u.transport ∧ (closeBaseTake m r sl u).cues = u.cues := fun u => by
    rw [closeBaseTake_eq, State.reported_eq]
    exact ⟨rfl, rfl⟩
  have hc : (s.withBaseTakeClosed r sl m length (s.transport.enterClosed length).c).transport.c =
      (s.transport.enterClosed length).c := by
    unfold State.withBaseTakeClosed
    dsimp only
    rw [State.reported_eq]
    rfl
  unfold closure
  dsimp only
  rw [hrec]
  dsimp only
  rw [hslot]
  dsimp only
  rw [raiseBoundary_of_no_cues _ _ _ ((hcount (s.setTransport (s.transport.enterClosed length))).2.trans hcues), closure_begun m r sl length s, (hcount _).1]
  unfold State.boundaryReported
  rw [hc]
  rfl

end Sys2Proof.Machine
end

section
/-! A base take that runs out at a sample period (O46). -/

namespace Sys2Proof.Machine

/-! ## One RECORDING recorder -/

theorem needsPage_of_not_recording (s : State) (q : Recorder) (h : (s.recorder q).state ≠ .recording) : needsPage s q = false := by
  unfold needsPage
  split
  · next hr _ => exact absurd hr h
  · rfl

theorem recordSample_of_not_recording (value : Lane → Int) (s : State) (q : Recorder) (h : (s.recorder q).state ≠ .recording) :
    recordSample value s q = s := by
  unfold recordSample
  split
  · next hr _ _ => exact absurd hr h
  · rfl

theorem foldl_recordSample_of_none (value : Lane → Int) (s : State) (rs : List Recorder)
    (h : ∀ q ∈ rs, (s.recorder q).state ≠ .recording) : rs.foldl (recordSample value) s = s := by
  induction rs with
  | nil => rfl
  | cons q rest ih =>
    rw [List.foldl_cons, recordSample_of_not_recording value s q (h q List.mem_cons_self)]
    exact ih fun x hx => h x (List.mem_cons_of_mem q hx)

/-- With no recorder RECORDING a sample period records nothing. -/
theorem recordAll_of_none (value : Lane → Int) (s : State) (h : ∀ q, (s.recorder q).state ≠ .recording) : recordAll value s = s := by
  have hclaims : recorderNumbers.filter (needsPage s) = [] :=
    List.filter_eq_nil_iff.mpr fun q _ => by simp [needsPage_of_not_recording s q (h q)]
  unfold recordAll
  rw [hclaims]
  exact foldl_recordSample_of_none value s _ fun q _ => h q

theorem filter_recorderNumbers_eq (r : Recorder) (p : Recorder → Bool) (hr : p r = true) (h : ∀ q, q ≠ r → p q = false) :
    recorderNumbers.filter p = [r] := by
  have hp : p = fun q => q == r := by
    funext q
    by_cases hq : q = r
    · rw [hq, hr, beq_self_eq_true]
    · rw [h q hq, beq_false_of_ne hq]
  rw [hp]
  clear hp h hr
  revert r
  decide

/-- With one recorder RECORDING, which needs a page, it alone acts. -/
theorem recordAll_of_one (value : Lane → Int) (s : State) (r : Recorder) (hr : needsPage s r = true)
    (h : ∀ q, q ≠ r → (s.recorder q).state ≠ .recording)
    (hafter : ∀ q, q ≠ r → ((recordSample value s r).recorder q).state ≠ .recording) :
    recordAll value s = recordSample value s r := by
  have hclaims : recorderNumbers.filter (needsPage s) = [r] :=
    filter_recorderNumbers_eq r _ hr fun q hq => needsPage_of_not_recording s q (h q hq)
  unfold recordAll
  rw [hclaims]
  refine foldl_recordSample_of_none value _ _ fun q hq => hafter q ?_
  rintro rfl
  simp [hr] at hq

/-! ## The take that runs out -/

theorem acquirePage_of_pageFails (s : State) (sl : Slot) (reason : EndReason) (h : s.pageFails (s.layer sl) reason) :
    ∃ e : AcquireFailure, acquirePage sl s = .error e ∧ e.reason = reason := by
  unfold acquirePage
  obtain ⟨hp, rfl⟩ | ⟨page, pool, older, e, hp, he, hne, hlen, rfl⟩ := h
  · exact ⟨.memoryFull, by rw [hp], rfl⟩
  · have happend : appendPage (s.layer sl).extents page = none := by
      unfold appendPage
      rw [he, List.getLast?_concat]
      dsimp only
      rw [if_neg hne, if_neg (by rw [← he]; omega)]
    exact ⟨.extentsFull, by rw [hp]; dsimp only; rw [happend], rfl⟩

/-- `s` with the base take of recorder `r` in slot `sl` run out for `reason`. -/
def State.baseSpent (s : State) (r : Recorder) (sl : Slot) (reason : EndReason) : State :=
  { s with
    takes := { s.takes with recs := s.takes.recs.set r.val ((s.recorder r).spent reason) }
    table :=
      { s.table with layers := s.table.layers.set sl.val { s.layer sl with lost := (s.layer sl).lostIn (s.recorder r) } } }

theorem exhaustRecorder_eq (r : Recorder) (sl : Slot) (reason : EndReason) (s : State) :
    exhaustRecorder r sl reason s = s.baseSpent r sl reason := by
  unfold exhaustRecorder
  rw [closeGap_eq]
  dsimp only
  rw [State.setLayer_recorder, State.setRecorder_recorder, if_pos rfl]
  refine State.eq_of_fields rfl rfl rfl rfl ?_ rfl rfl rfl rfl rfl rfl rfl rfl
  simp [State.baseSpent, State.setRecorder, State.setLayer, RecorderRec.spent]

theorem State.baseSpent_recorder (s : State) (r q : Recorder) (sl : Slot) (reason : EndReason) :
    (s.baseSpent r sl reason).recorder q = if q = r then (s.recorder r).spent reason else s.recorder q :=
  State.setRecorder_recorder s r q _

theorem baseRecorder_eq (s : State) (r : Recorder) (hb : (s.recorder r).base = true) (ht : (s.recorder r).tail = false)
    (h : ∀ q, q ≠ r → (s.recorder q).base = false) : baseRecorder s = some r := by
  unfold baseRecorder
  rw [← List.head?_filter, filter_recorderNumbers_eq r _ (by simp [hb, ht]) fun q hq => by simp [h q hq]]
  rfl

/-- Lane records that differ in their monitors alone show the same BOUNDARY report. -/
theorem boundaryReportedFor_setLanes (s : State) (lanes : Vector LaneRec 4) (c beat : Nat)
    (h : ∀ l, ((s.setLanes lanes).lane l).band = (s.lane l).band) :
    (s.setLanes lanes).boundaryReportedFor c beat = (s.boundaryReportedFor c beat).setLanes lanes := by
  unfold State.boundaryReportedFor
  rw [h, h, h, h, State.setLanes_link]
  split
  · rfl
  · rfl

theorem withBaseTakeClosed_setLanes (s : State) (lanes : Vector LaneRec 4) (r : Recorder) (sl : Slot) (m length c : Nat) :
    (s.setLanes lanes).withBaseTakeClosed r sl m length c = (s.withBaseTakeClosed r sl m length c).setLanes lanes := by
  unfold State.withBaseTakeClosed
  dsimp only
  rw [State.reported_eq, State.reported_eq]
  rfl

theorem foldl_abortReported_link_congr (s : State) (rs : List Recorder) : ∀ {u v : State}, u.link = v.link →
    (rs.foldl s.abortReported u).link = (rs.foldl s.abortReported v).link := by
  induction rs with
  | nil => exact id
  | cons r rest ih =>
    intro u v h
    refine ih ?_
    unfold State.abortReported
    cases (s.recorder r).slot with
    | none => exact h
    | some x => exact reported_link_congr h 31 _

/-- The abort of a base take does not read the lanes. -/
theorem baseTakeAborted_setLanes (r : Recorder) (s t : State) (lanes : Vector LaneRec 4)
    (h : baseTakeAborted r (s.setLanes lanes) t) : baseTakeAborted r s (t.setLanes s.lanes) := by
  obtain ⟨htransport, hlayer, hstack, hredo, hmutes, hpool, hsorted, hbuffer, hstore, hidled, hspared, horder, hcues, hlink, hjob,
    -, hmem, hmix, hrest, hopen, hpending⟩ := h
  exact ⟨htransport, hlayer, hstack, hredo, hmutes, hpool, hsorted, hbuffer, hstore, hidled, hspared, horder, hcues,
    fun hn => (hlink hn).trans (cancelled_link_congr _ (foldl_abortReported_link_congr s _ rfl)), hjob, rfl, hmem, hmix, hrest,
    hopen, hpending⟩

/-- No recorder is left RECORDING where the recorder of the base take was the only one. -/
theorem abortBase_not_recording (r q : Recorder) (s : State) (h : ∀ q, (s.recorder q).state ≠ .recording) :
    ((abortBase r s).recorder q).state ≠ .recording := by
  obtain ⟨idle, hgone, -⟩ := abortBase_songFreed r s
  cases hi : idle q with
  | true => rw [hgone.idled q hi]; decide
  | false =>
    obtain ⟨b, hb⟩ := hgone.kept q hi
    rw [hb]
    exact h q

theorem laneBand_measureLanes (value : Lane → Int) (s : State) (l : Lane) :
    ((measureLanes value s).lane l).band = (s.lane l).band := by
  have hlane : (measureLanes value s).lane l = (s.lane l).measured (value l) := by simp [measureLanes, State.lane]
  rw [hlane]
  unfold LaneRec.measured
  split <;> rfl

/-- A base take that runs out in GRID DEFINING. -/
theorem recordAll_gridExhausted (value : Lane → Int) (s : State) (r : Recorder) (l : Lane) (sl : Slot) (reason : EndReason)
    (hstate : (s.recorder r).state = .recording) (hb : (s.recorder r).base = true) (hl : (s.recorder r).lane = some l)
    (hsl : (s.recorder r).slot = some sl) (hothers : ∀ q, q ≠ r → (s.recorder q).state ≠ .recording)
    (hopens : opensPage (s.layer sl).len = true) (hfails : s.pageFails (s.layer sl) reason) :
    recordAll value s = exhaustGrid (s.baseSpent r sl reason) := by
  obtain ⟨e, he, rfl⟩ := acquirePage_of_pageFails s sl reason hfails
  have hsample : recordSample value s r = exhaustGrid (s.baseSpent r sl e.reason) := by
    unfold recordSample
    rw [hstate, hl, hsl]
    dsimp only
    rw [if_pos hopens, he]
    dsimp only
    rw [if_pos hb, exhaustRecorder_eq]
  rw [recordAll_of_one value s r ?_ hothers ?_, hsample]
  · unfold needsPage
    rw [hstate, hsl]
    exact hopens
  · intro q hq
    rw [hsample]
    show ((s.baseSpent r sl e.reason).recorder q).state ≠ _
    rw [State.baseSpent_recorder, if_neg hq]
    exact hothers q hq

/-- A base take that runs out in FREE DEFINING: the closure or the abort. -/
theorem exhaustFree_of_fails (s : State) (r : Recorder) (sl : Slot) (reason : EndReason)
    (hdef : s.transport.freeDefining = true) (hbase : baseRecorder s = some r) (hsl : (s.recorder r).slot = some sl)
    (hstate : (s.recorder r).state = .recording) (hopens : opensPage (s.layer sl).len = true)
    (hfails : s.pageFails (s.layer sl) reason) :
    exhaustFree s =
      if 4800 ≤ s.transport.p then closure 1 s.transport.p (s.baseSpent r sl reason)
      else abortBase r (s.baseSpent r sl reason) := by
  obtain ⟨e, he, rfl⟩ := acquirePage_of_pageFails s sl reason hfails
  have hfail : baseFails s r sl = some e := by
    unfold baseFails
    rw [if_pos ⟨hstate, hopens⟩, he]
  unfold exhaustFree
  rw [if_pos hdef, hbase]
  dsimp only
  rw [hsl]
  dsimp only
  rw [hfail]
  dsimp only
  rw [exhaustRecorder_eq]
  rfl

theorem boundaryReportedFor_lanes (s : State) (c beat : Nat) : (s.boundaryReportedFor c beat).lanes = s.lanes := by
  unfold State.boundaryReportedFor
  split <;> rfl

theorem withBaseTakeClosed_lane (s : State) (r : Recorder) (sl : Slot) (m length c : Nat) (n : Lane) :
    (s.withBaseTakeClosed r sl m length c).lane n = s.lane n := by
  unfold State.withBaseTakeClosed
  dsimp only
  rw [State.reported_eq]
  rfl

theorem boundaryReportedFor_recorder (s : State) (c beat : Nat) (q : Recorder) :
    (s.boundaryReportedFor c beat).recorder q = s.recorder q := by
  unfold State.boundaryReportedFor
  split <;> rfl

/-- The closure leaves the recorder of the base take in IDLE or CLOSING. -/
theorem withBaseTakeClosed_not_recording (s : State) (r q : Recorder) (sl : Slot) (m length c : Nat)
    (h : ∀ q, q ≠ r → (s.recorder q).state ≠ .recording) :
    ((s.withBaseTakeClosed r sl m length c).recorder q).state ≠ .recording := by
  obtain ⟨x, hx, hrecs⟩ : ∃ x : RecorderRec, x.state ≠ .recording ∧
      (s.withBaseTakeClosed r sl m length c).takes.recs = s.takes.recs.set r.val x := by
    unfold State.withBaseTakeClosed
    dsimp only
    rw [State.reported_eq, State.setLink_takes]
    dsimp only
    generalize (if (s.recorder r).gap = 0 then (s.recorder r).fifo else pushZeros (s.recorder r).fifo (s.recorder r).gap) = fifo
    split
    · exact ⟨RecorderRec.idle, nofun, rfl⟩
    · exact ⟨_, by nofun, rfl⟩
  have hrec : (s.withBaseTakeClosed r sl m length c).recorder q = if q = r then x else s.recorder q := by
    rw [← State.setRecorder_recorder]
    unfold State.recorder
    rw [hrecs]
    rfl
  rw [hrec]
  by_cases hq : q = r
  · rw [if_pos hq]
    exact hx
  · rw [if_neg hq]
    exact h q hq

/-- Settles O46: the sample period is `tick`, of which the exhaustion is the only part that the recorders take
(`recordAll_gridExhausted`, `exhaustFree_of_fails`); neither the closure nor the abort reads what the lanes have measured. -/
theorem baseTakesRunOut : Obligations.BaseTakesRunOut := by
  intro s x0 x1 x2 x3 r l sl reason hq hr hw hdef hstate hb ht hl hsl hothers hlen hpage hfails spent x
  have hrec : ∀ q, q ≠ r → (s.recorder q).state ≠ .recording := fun q hqr => (hothers q hqr).1
  have hopens : opensPage (s.layer sl).len = true := by simp [opensPage, hlen, hpage]
  have htick : exec (.samplePeriod x0 x1 x2 x3) s = .next
      (((recordAll (laneValue s x) (exhaustFree (measureLanes (laneValue s x) s))).setLanes s.lanes).sampled x) := by
    rw [exec_samplePeriod_quiet x0 x1 x2 x3 s hq hr hw]
    exact congrArg Host.Outcome.next (tick_eq_sampled x s hw)
  obtain ⟨lanes, hlanes, hbands⟩ : ∃ lanes, measureLanes (laneValue s x) s = s.setLanes lanes ∧
      ∀ l, ((s.setLanes lanes).lane l).band = (s.lane l).band := ⟨_, rfl, laneBand_measureLanes _ s⟩
  rw [htick, hlanes]
  have hbase : ∀ u : State, u.takes = s.takes ∨ u.takes = (s.baseSpent r sl reason).takes → baseRecorder u = some r := by
    intro u hu
    have hkept : ∀ q, (u.recorder q).base = (s.recorder q).base ∧ (u.recorder q).tail = (s.recorder q).tail := by
      intro q
      rcases hu with hu | hu
      · unfold State.recorder
        rw [hu]
        exact ⟨rfl, rfl⟩
      · have hq : u.recorder q = (s.baseSpent r sl reason).recorder q := by unfold State.recorder; rw [hu]
        rw [hq, State.baseSpent_recorder]
        by_cases hqr : q = r
        · rw [if_pos hqr, hqr]
          exact ⟨rfl, rfl⟩
        · rw [if_neg hqr]
          exact ⟨rfl, rfl⟩
    exact baseRecorder_eq u r ((hkept r).1.trans hb) ((hkept r).2.trans ht) fun q hqr => (hkept q).1.trans (hothers q hqr).2
  have hspent : ∀ q, ((s.baseSpent r sl reason).recorder q).state ≠ .recording := by
    intro q
    rw [State.baseSpent_recorder]
    by_cases hqr : q = r
    · rw [if_pos hqr]
      nofun
    · rw [if_neg hqr]
      exact hrec q hqr
  refine ⟨fun hm => ?_, fun hm hp hc => ?_, fun hm hp => ?_⟩
  · have hfree : (s.setLanes lanes).transport.freeDefining = false := by
      show (s.transport.state == .defining && s.transport.mode == .free) = false
      rw [hm]
      simp
    rw [exhaustFree_of_not_freeDefining _ hfree,
      recordAll_gridExhausted _ (s.setLanes lanes) r l sl reason hstate hb hl hsl hrec hopens hfails]
    exact congrArg (fun u : State => Host.Outcome.next (u.sampled x)) rfl
  · have hfree : (s.setLanes lanes).transport.freeDefining = true := by
      show (s.transport.state == .defining && s.transport.mode == .free) = true
      rw [hm, hdef]
      rfl
    have hcount : (s.transport.enterClosed s.transport.p).c = 0 := if_pos hm
    have hexhaust : exhaustFree (s.setLanes lanes) =
        (((s.baseSpent r sl reason).withBaseTakeClosed r sl 1 s.transport.p 0).boundaryReported 0).setLanes lanes := by
      have hclosed := closure_of_no_cues 1 s.transport.p ((s.baseSpent r sl reason).setLanes lanes) r sl (hbase _ (.inr rfl))
        (by rw [State.setLanes_recorder, State.baseSpent_recorder, if_pos rfl]; exact hsl) hc
      rw [exhaustFree_of_fails (s.setLanes lanes) r sl reason hfree (hbase _ (.inl rfl)) hsl hstate hopens hfails,
        if_pos (by exact hp)]
      refine hclosed.trans ?_
      rw [show (((s.baseSpent r sl reason).setLanes lanes).transport.enterClosed s.transport.p).c = 0 from hcount,
        withBaseTakeClosed_setLanes]
      exact boundaryReportedFor_setLanes _ lanes _ 0 fun n => by
        rw [withBaseTakeClosed_lane]
        exact hbands n
    have hlanesKept : (((s.baseSpent r sl reason).withBaseTakeClosed r sl 1 s.transport.p 0).boundaryReported 0).lanes = s.lanes := by
      rw [State.boundaryReported, boundaryReportedFor_lanes]
      unfold State.withBaseTakeClosed
      dsimp only
      rw [State.reported_eq]
      rfl
    rw [hexhaust, recordAll_of_none]
    · generalize hu : ((s.baseSpent r sl reason).withBaseTakeClosed r sl 1 s.transport.p 0).boundaryReported 0 = u at hlanesKept
      have hback : (u.setLanes lanes).setLanes s.lanes = u := by
        rw [← hlanesKept]
        rfl
      rw [hback, ← hu]
      rfl
    · intro q
      rw [State.setLanes_recorder, State.boundaryReported, boundaryReportedFor_recorder]
      exact withBaseTakeClosed_not_recording _ r q sl _ _ _ fun q _ => hspent q
  · have hfree : (s.setLanes lanes).transport.freeDefining = true := by
      show (s.transport.state == .defining && s.transport.mode == .free) = true
      rw [hm, hdef]
      rfl
    have hexhaust : exhaustFree (s.setLanes lanes) = abortBase r ((s.baseSpent r sl reason).setLanes lanes) := by
      rw [exhaustFree_of_fails (s.setLanes lanes) r sl reason hfree (hbase _ (.inl rfl)) hsl hstate hopens hfails,
        if_neg (by exact Nat.not_le.mpr hp)]
      rfl
    rw [hexhaust, recordAll_of_none _ _ fun q =>
      abortBase_not_recording r q ((s.baseSpent r sl reason).setLanes lanes) hspent]
    exact ⟨_, baseTakeAborted_setLanes r _ _ lanes (abortBase_baseTakeAborted r _), rfl⟩

end Sys2Proof.Machine
end

section
/-! Completions of the memory port: drains and refills (O55). -/

namespace Sys2Proof.Machine

/-! ## The FIFO -/

theorem fifoTake_length (n : Nat) (fifo : List FifoEntry) : (fifoTake n fifo).length = min n (fifoOffsets fifo) := by
  induction fifo generalizing n with
  | nil => simp [fifoTake, fifoOffsets]
  | cons e rest ih =>
    cases n with
    | zero => simp [fifoTake]
    | succ n =>
      cases e with
      | sample v => rw [fifoTake, fifoOffsets, List.length_cons, ih]; omega
      | zeros m =>
        rw [fifoTake, fifoOffsets]
        split
        · rw [List.length_append, List.length_replicate, ih]; omega
        · rw [List.length_replicate]; omega

/-- What is taken from the front of a FIFO are its first values. -/
theorem fifoTake_getElem? (n : Nat) (fifo : List FifoEntry) (i : Nat) (hi : i < n) : (fifoTake n fifo)[i]? = fifoValue fifo i := by
  induction fifo generalizing n i with
  | nil => simp [fifoTake, fifoValue]
  | cons e rest ih =>
    obtain ⟨n, rfl⟩ : ∃ k, n = k + 1 := ⟨n - 1, by omega⟩
    cases e with
    | sample v =>
      rw [fifoTake, fifoValue]
      cases i with
      | zero => rfl
      | succ i => rw [List.getElem?_cons_succ, ih n i (by omega), if_neg (by omega), Nat.add_sub_cancel]
    | zeros m =>
      rw [fifoTake, fifoValue]
      by_cases hm : m ≤ n + 1
      · rw [if_pos hm]
        by_cases him : i < m
        · rw [if_pos him, List.getElem?_append_left (by simpa using him), List.getElem?_replicate, if_pos him]
        · rw [if_neg him, List.getElem?_append_right (by simpa using him), List.length_replicate, ih _ _ (by omega)]
      · rw [if_neg hm, if_pos (by omega), List.getElem?_replicate, if_pos hi]

/-- What is left of a FIFO are the values behind those dropped. -/
theorem fifoValue_fifoDrop (n : Nat) (fifo : List FifoEntry) (i : Nat) : fifoValue (fifoDrop n fifo) i = fifoValue fifo (n + i) := by
  induction fifo generalizing n i with
  | nil => simp [fifoDrop, fifoValue]
  | cons e rest ih =>
    cases n with
    | zero => rw [fifoDrop, Nat.zero_add]; nofun
    | succ n =>
      cases e with
      | sample v => rw [fifoDrop, fifoValue, ih, if_neg (by omega), show n + 1 + i - 1 = n + i by omega]
      | zeros m =>
        rw [fifoDrop, fifoValue]
        by_cases hm : m ≤ n + 1
        · rw [if_pos hm, ih, if_neg (by omega), show n + 1 + i - m = n + 1 - m + i by omega]
        · rw [if_neg hm, fifoValue]
          by_cases hi : i < m - (n + 1)
          · rw [if_pos hi, if_pos (by omega)]
          · rw [if_neg hi, if_neg (by omega), show n + 1 + i - m = i - (m - (n + 1)) by omega]

/-- A FIFO from which fewer offsets are dropped than it stands for is not empty. -/
theorem fifoDrop_ne_nil (n : Nat) (fifo : List FifoEntry) (h : n < fifoOffsets fifo) : fifoDrop n fifo ≠ [] := by
  intro hd
  have hn := fifoTake_length (n + 1) fifo
  have hlast := fifoTake_getElem? (n + 1) fifo n (by omega)
  have hdrop := fifoValue_fifoDrop n fifo 0
  rw [hd, fifoValue, Nat.add_zero] at hdrop
  rw [← hdrop, List.getElem?_eq_none_iff] at hlast
  omega

/-! ## Samples written one behind the other -/

theorem readSample_congr (m m' : List Host.Cell) (x : Nat) (h : ∀ b, b / 2 = x → readByte m b = readByte m' b) :
    readSample m x = readSample m' x := by
  unfold readSample
  rw [h (2 * x + 1) (by omega), h (2 * x) (by omega)]

/-- Samples within 16 bits read back as they were written. -/
theorem readSample_writeSamples (m : List Host.Cell) (a i : Nat) (vs : List Int) (h : Memory.wf m = true) (v : Int)
    (hi : vs[i]? = some v) (hv : -32768 ≤ v ∧ v ≤ 32767) : readSample (writeSamples m a vs) (a + i) = v := by
  induction vs generalizing m a i with
  | nil => simp at hi
  | cons w rest ih =>
    have hwf : Memory.wf (writeSample m a w) = true := writeWord_wf m a (BitVec.ofInt 16 w) h
    rw [writeSamples]
    cases i with
    | zero =>
      obtain rfl : w = v := by simpa using hi
      have hkept : readSample (writeSamples (writeSample m a w) (a + 1) rest) a = readSample (writeSample m a w) a :=
        readSample_congr _ _ a fun b hb => readByte_writeSamples_outside _ _ _ _ hwf (.inl (by omega))
      rw [Nat.add_zero a, hkept, readSample_writeSample _ _ _ _ h, if_pos rfl, BitVec.toInt_ofInt]
      exact Int.bmod_eq_of_le (by omega) (by omega)
    | succ i => rw [show a + (i + 1) = a + 1 + i by omega, ih _ _ _ hwf (by simpa using hi)]

/-! ## A drain completes -/

theorem exec_drainBurstComplete (s : State) (r : Recorder) (n left : Nat) (hr : isRunning s = true)
    (ht : s.store.transfer = some ⟨.drain r n, left⟩) (hleft : left ≤ 1) :
    exec .drainBurstComplete s = .next (completeDrain r n s) := by
  simp [exec, execDrainBurstComplete, takeCompletion, takeEvent, completionDue, completeNow, complete, isDrain, hr, ht, hleft]

theorem exec_refillLanding (s : State) (sl : Slot) (entries : List Entry) (left : Nat) (hr : isRunning s = true)
    (ht : s.store.transfer = some ⟨.refill sl entries, left⟩) (hleft : left ≤ 1) :
    exec .refillLanding s = .next (completeRefill sl entries s) := by
  simp [exec, execRefillLanding, takeCompletion, takeEvent, completionDue, completeNow, complete, isRefill, hr, ht, hleft]

/-- A drain burst of recorder `r` completes, before what follows from it: `n` values in memory from the address of the write cursor on. -/
def State.withDrained (s : State) (r : Recorder) (n a : Nat) : State :=
  { s with
    mem := writeSamples s.mem a (fifoTake n (s.recorder r).fifo)
    store := { s.store with transfer := none }
    takes :=
      { s.takes with
        recs := s.takes.recs.set r.val
          { s.recorder r with
            fifo := fifoDrop n (s.recorder r).fifo, cursor := (s.recorder r).cursor + n, inFlight := false } } }

theorem completeDrain_eq (s : State) (r : Recorder) (sl : Slot) (n left a : Nat)
    (ht : s.store.transfer = some ⟨.drain r n, left⟩) (hsl : (s.recorder r).slot = some sl)
    (ha : offsetAddress (s.layer sl).extents (s.recorder r).cursor = some a) :
    completeDrain r n s = drainDone r (s.withDrained r n a) := by
  unfold completeDrain
  dsimp only
  rw [hsl, Option.bind_some, ha]
  dsimp only
  rw [releasePort_some _ ⟨.drain r n, left⟩ (by exact ht)]
  refine congrArg (drainDone r) ?_
  unfold clearFlight
  dsimp only
  rw [State.setStore_recorder, State.setRecorder_recorder, if_pos rfl]
  refine State.eq_of_fields rfl rfl rfl rfl ?_ rfl rfl rfl rfl rfl rfl rfl rfl
  simp [State.withDrained, State.setRecorder, hsl]

theorem State.withDrained_recorder (s : State) (r : Recorder) (n a : Nat) :
    (s.withDrained r n a).recorder r =
      { s.recorder r with
        fifo := fifoDrop n (s.recorder r).fifo, cursor := (s.recorder r).cursor + n, inFlight := false } :=
  (State.setRecorder_recorder s r r _).trans (if_pos rfl)

/-- A recorder with samples left to drain or to come goes on. -/
theorem drainDone_of_not_drained (r : Recorder) (s : State) (h : drained (s.recorder r) = false) : drainDone r s = s := by
  unfold drainDone
  rw [h]
  rfl

/-- The memory after a burst of values of a FIFO. -/
theorem memory_drained (m : List Host.Cell) (a n : Nat) (fifo : List FifoEntry) (h : Memory.wf m = true)
    (hn : n ≤ fifoOffsets fifo) (hv : ∀ i v, fifoValue fifo i = some v → -32768 ≤ v ∧ v ≤ 32767) :
    (∀ i, i < n → fifoValue fifo i = some (readSample (writeSamples m a (fifoTake n fifo)) (a + i))) ∧
      ∀ b, b < 2 * a ∨ 2 * (a + n) ≤ b → readByte (writeSamples m a (fifoTake n fifo)) b = readByte m b := by
  have hlen : (fifoTake n fifo).length = n := by rw [fifoTake_length]; omega
  refine ⟨fun i hi => ?_, fun b hb => readByte_writeSamples_outside _ _ _ _ h (by rw [hlen]; exact hb)⟩
  have htaken := fifoTake_getElem? n fifo i hi
  rw [List.getElem?_eq_getElem (by omega)] at htaken
  rw [← htaken, readSample_writeSamples m a i _ h _ (htaken ▸ fifoTake_getElem? n fifo i hi) (hv i _ htaken.symm)]

/-- Settles O55: the values of a burst by `memory_drained`, the rest of the FIFO by `fifoValue_fifoDrop`; a refill by
`landEntries_eq` and `raiseRefill_eq`. -/
theorem drainsAndRefillsComplete : Obligations.DrainsAndRefillsComplete := by
  intro s sl left hr hleft
  refine ⟨fun r n a ht hsl hn hmore ha hmem hv => ?_, fun b entries ht hb => ?_⟩
  · have hdone : drained ((s.withDrained r n a).recorder r) = false := by
      rw [State.withDrained_recorder]
      rcases hmore with h | h | h
      · simp [drained, h]
      · simp [drained, fifoDrop_ne_nil n _ h]
      · have : (s.recorder r).gap ≠ 0 := by omega
        simp [drained, this]
    obtain ⟨hin, hout⟩ := memory_drained s.mem a n (s.recorder r).fifo hmem hn hv
    refine ⟨s.withDrained r n a, fifoDrop n (s.recorder r).fifo, ?_, hin, hout, fifoValue_fifoDrop n _, rfl⟩
    rw [exec_drainBurstComplete s r n left hr ht hleft, completeDrain_eq s r sl n left a ht hsl ha,
      drainDone_of_not_drained _ _ hdone]
  · intro free
    have hfree : releasePort s = free := by
      rw [releasePort_some s _ ht]
      unfold clearFlight
      dsimp only
      rw [show (s.setStore { s.store with transfer := none }).buffer sl = some b from hb]
      rfl
    rw [exec_refillLanding s sl entries left hr ht hleft]
    unfold completeRefill
    rw [hfree, landEntries_eq sl entries free { b with inFlight := false } (State.setBuffer_buffer_self s sl _), raiseRefill_eq]

end Sys2Proof.Machine
end

section
/-! Completions of the memory port: the reads and writes of a bounce (O57). -/

namespace Sys2Proof.Machine

/-! ## Partial sums -/

theorem addFrom_length (n : Nat) (vs xs : List Int) : (addFrom n vs xs).length = xs.length := by
  induction xs generalizing n vs with
  | nil => cases n <;> simp [addFrom]
  | cons x xs ih =>
    cases vs with
    | nil => cases n <;> simp [addFrom]
    | cons v vs => cases n <;> simp [addFrom, ih]

/-- The values added from place `n` on. -/
theorem addFrom_getD (n : Nat) (vs xs : List Int) (i : Nat) (hi : i < xs.length) :
    (addFrom n vs xs).getD i 0 = xs.getD i 0 + if n ≤ i ∧ i < n + vs.length then vs.getD (i - n) 0 else 0 := by
  induction xs generalizing n vs i with
  | nil => simp at hi
  | cons x xs ih =>
    cases vs with
    | nil =>
      rw [if_neg (by simp), add_zero]
      cases n <;> rfl
    | cons v vs =>
      cases n with
      | zero =>
        cases i with
        | zero => simp [addFrom]
        | succ i =>
          rw [addFrom, List.getD_cons_succ, List.getD_cons_succ, ih 0 vs i (by simpa using hi)]
          simp
      | succ n =>
        cases i with
        | zero => simp [addFrom]
        | succ i =>
          have hrange : n ≤ i ∧ i < n + (v :: vs).length ↔ n + 1 ≤ i + 1 ∧ i + 1 < n + 1 + (v :: vs).length := by omega
          rw [addFrom, List.getD_cons_succ, List.getD_cons_succ, ih n (v :: vs) i (by simpa using hi), Nat.add_sub_add_right]
          · exact congrArg (xs.getD i 0 + ·) (if_congr hrange rfl rfl)
          · nofun

/-! ## Sources taken in hand -/

theorem getD_zipWith_add (xs ys : List Int) (i : Nat) (h : xs.length = ys.length) :
    (List.zipWith (· + ·) xs ys).getD i 0 = xs.getD i 0 + ys.getD i 0 := by
  rw [List.getD_eq_getElem?_getD, List.getD_eq_getElem?_getD, List.getD_eq_getElem?_getD, List.getElem?_zipWith]
  by_cases hi : i < xs.length
  · rw [List.getElem?_eq_getElem hi, List.getElem?_eq_getElem (by omega)]
    rfl
  · rw [List.getElem?_eq_none (by omega), List.getElem?_eq_none (by omega)]
    rfl

/-- From place `n` on the sources are taken in hand as `State.takenInHand` says, of a state `t` that reads as `s` with job `j` does. -/
theorem takeInHand_takenInHand (s t : State) (j : Job)
    (hreads : ∀ src ch, sourceReads s j src ch = t.bounceReads src ch.start ch.length)
    (hfifo : ∀ src ch, sourceFifo s j src ch = (List.range ch.length).map fun i => t.bounceAtOnce src ch.start i)
    (srcs : List Source) : ∀ (n : Nat) (ch : Chunk), t.job.sources.drop n = srcs → ch.sums.length = ch.length →
      ch.phase = .read →
      (takeInHand s j srcs n ch).start = ch.start ∧ (takeInHand s j srcs n ch).length = ch.length ∧
        t.takenInHand n ch.sums (takeInHand s j srcs n ch) := by
  induction srcs with
  | nil =>
    intro n ch hdrop hlen hphase
    refine ⟨rfl, rfl, rfl, .inr ⟨fun i x hi hx => ?_, rfl, rfl, fun i hi => ?_⟩⟩
    · obtain ⟨hlt, -⟩ := List.getElem?_eq_some_iff.mp hx
      have := List.drop_eq_nil_iff.mp hdrop
      omega
    · rw [hdrop]
      simp [takeInHand]
  | cons src rest ih =>
    intro n ch hdrop hlen hphase
    have hn : t.job.sources[n]? = some src := by
      rw [← List.head?_drop, hdrop]
      rfl
    have hrest : t.job.sources.drop (n + 1) = rest := by
      rw [← List.tail_drop, hdrop]
      rfl
    have hsums : ∀ i, i < ch.sums.length →
        (List.zipWith (· + ·) ch.sums (sourceFifo s j src ch)).getD i 0 = ch.sums.getD i 0 + t.bounceAtOnce src ch.start i := by
      intro i hi
      rw [hfifo, getD_zipWith_add _ _ _ (by simpa using hlen)]
      congr 1
      rw [List.getD_eq_getElem?_getD, List.getElem?_map, List.getElem?_range (by omega)]
      rfl
    have hsumsLength : (List.zipWith (· + ·) ch.sums (sourceFifo s j src ch)).length = ch.sums.length := by
      rw [hfifo]
      simp [hlen]
    unfold takeInHand
    dsimp only
    split
    · next hnone =>
      have hempty : t.bounceReads src ch.start ch.length = [] := by
        rw [← hreads]
        exact (piecesOf_eq_nil_iff _).mp hnone
      have hearlier : ∀ i x, n ≤ i → t.job.sources[i]? = some x → i < n + 1 → t.bounceReads x ch.start ch.length = [] := by
        intro i x hi hx hlt
        obtain rfl : i = n := by omega
        obtain rfl := Option.some.inj (hn.symm.trans hx)
        exact hempty
      obtain ⟨hstart, hlength, hsame, hcases⟩ := ih (n + 1)
        { ch with
          source := n, pieces := piecesOf (sourceReads s j src ch)
          sums := List.zipWith (· + ·) ch.sums (sourceFifo s j src ch) } hrest (hsumsLength.trans hlen) hphase
      refine ⟨hstart, hlength, hsame.trans hsumsLength, ?_⟩
      rw [hstart, hlength] at hcases ⊢
      rcases hcases with ⟨m, x, hm, hx, hread, hbefore, hsource, hread', hpieces, hat⟩ | ⟨hafter, hwrite, hpieces, hat⟩
      · refine .inl ⟨m, x, by omega, hx, hread, fun i y hi him hy => ?_, hsource, hread', hpieces, fun i hi => ?_⟩
        · by_cases hin : i < n + 1
          · exact hearlier i y hi hy hin
          · exact hbefore i y (by omega) him hy
        · have htake : (t.job.sources.take (m + 1)).drop n = src :: (t.job.sources.take (m + 1)).drop (n + 1) := by
            rw [List.drop_take, List.drop_take, hdrop, hrest, show m + 1 - n = m + 1 - (n + 1) + 1 by omega]
            rfl
          rw [hat i (by rw [hsumsLength]; exact hi), hsums i hi, htake, List.map_cons, List.sum_cons, add_assoc]
      · refine .inr ⟨fun i y hi hy => ?_, hwrite, hpieces, fun i hi => ?_⟩
        · by_cases hin : i < n + 1
          · exact hearlier i y hi hy hin
          · exact hafter i y (by omega) hy
        · rw [hat i (by rw [hsumsLength]; exact hi), hsums i hi, hdrop, hrest, List.map_cons, List.sum_cons, add_assoc]
    · next hsome =>
      refine ⟨rfl, rfl, hsumsLength, .inl ⟨n, src, le_rfl, hn, ?_, fun i x hi hin _ => absurd hin (by omega), rfl, hphase, ?_,
        fun i hi => ?_⟩⟩
      · rw [← hreads]
        exact mt (piecesOf_eq_nil_iff _).mpr hsome
      · exact congrArg piecesOf (hreads src ch)
      · have htake : (t.job.sources.take (n + 1)).drop n = [src] := by
          rw [List.drop_take, hdrop, Nat.add_sub_cancel_left]
          rfl
        rw [htake]
        simpa using hsums i hi

/-- The alignment of a source, in the words of the statements. -/
theorem sourceOffset_eq (s : State) (j j' : Job) (h : j'.anchorK = j.anchorK) (src : Source) (x : Nat) :
    sourceOffset s j src x = (s.setJob j').bounceOffset src x := by
  unfold sourceOffset sourceIndex State.bounceOffset backMod
  rw [State.setJob_job, h]
  rfl

theorem sourceReads_eq (s : State) (j j' : Job) (h : j'.anchorK = j.anchorK) (src : Source) (ch : Chunk) :
    sourceReads s j src ch = (s.setJob j').bounceReads src ch.start ch.length := by
  unfold sourceReads State.bounceReads
  simp only [sourceOffset_eq s j j' h]
  rfl

theorem sourceFifo_eq (s : State) (j j' : Job) (h : j'.anchorK = j.anchorK) (src : Source) (ch : Chunk) :
    sourceFifo s j src ch = (List.range ch.length).map fun i => (s.setJob j').bounceAtOnce src ch.start i := by
  unfold sourceFifo State.bounceAtOnce
  simp only [sourceOffset_eq s j j' h]
  rfl

theorem clipsAfter_eq (clips : Nat) (ch : Chunk) :
    clipsAfter clips ch = if ch.phase = .write then satAdd 65535 clips (sumClips ch) else clips := by
  have hclip : (fun x : Int => clipped 16 (bounceRounded x)) =
      fun x => if -32768 ≤ (x + 2048) / 4096 ∧ (x + 2048) / 4096 ≤ 32767 then 0 else 1 := by
    funext x
    unfold clipped saturate bounceRounded roundShift
    norm_num
    refine if_congr ?_ rfl rfl
    omega
  unfold clipsAfter sumClips satAdd
  rw [hclip]

/-! ## A read completes -/

theorem exec_bounceReadComplete (s : State) (left : Nat) (hr : isRunning s = true)
    (ht : s.store.transfer = some ⟨.bounceRead, left⟩) (hleft : left ≤ 1) :
    exec .bounceReadComplete s = .next (completeRead s) := by
  simp [exec, execBounceReadComplete, takeCompletion, takeEvent, completionDue, completeNow, complete, isBounceRead, hr, ht, hleft]

theorem exec_bounceWriteComplete (s : State) (left : Nat) (hr : isRunning s = true)
    (ht : s.store.transfer = some ⟨.bounceWrite, left⟩) (hleft : left ≤ 1) :
    exec .bounceWriteComplete s = .next (completeWrite s) := by
  simp [exec, execBounceWriteComplete, takeCompletion, takeEvent, completionDue, completeNow, complete, isBounceWrite, hr, ht,
    hleft]

/-- The port after a burst of the bounce engine. -/
def State.bounceReleased (s : State) : State :=
  { s with store := { s.store with transfer := none }, job := { s.job with inFlight := false } }

theorem releasePort_bounceRead (s : State) (left : Nat) (ht : s.store.transfer = some ⟨.bounceRead, left⟩) :
    releasePort s = s.bounceReleased := releasePort_some s _ ht

theorem releasePort_bounceWrite (s : State) (left : Nat) (ht : s.store.transfer = some ⟨.bounceWrite, left⟩) :
    releasePort s = s.bounceReleased := releasePort_some s _ ht

/-- A read with another piece of its source behind it. -/
theorem addPiece_of_more (ch : Chunk) (s : State) (src : Source) (q next : Piece) (rest : List Piece)
    (hp : ch.pieces = q :: next :: rest) (hsrc : s.job.sources[ch.source]? = some src) :
    addPiece ch s =
      setChunk
        { ch with
          sums := addFrom q.rel ((List.range q.count).map fun i => sourceValue s src (q.off + i)) ch.sums
          pieces := next :: rest } s := by
  unfold addPiece
  rw [hsrc, hp]
  rfl

theorem read_adds (s : State) (src : Source) (q : Piece) (sums : List Int) (i : Nat) (hi : i < sums.length) :
    (addFrom q.rel ((List.range q.count).map fun i => sourceValue s src (q.off + i)) sums).getD i 0 =
      sums.getD i 0 +
        (if q.rel ≤ i ∧ i < q.rel + q.count then
          readOffset s src.slot (q.off + (i - q.rel)) *
            (effectiveGain src.gain src.fade (s.layer src.slot).len (q.off + (i - q.rel)) : Int)
        else 0) := by
  rw [addFrom_getD _ _ _ _ hi, List.length_map, List.length_range]
  refine congrArg (sums.getD i 0 + ·) ?_
  split
  · next hin =>
    rw [List.getD_eq_getElem?_getD, List.getElem?_map, List.getElem?_range (by omega)]
    rfl
  · rfl

/-! ## A chunk is written -/

theorem sat16_bounceRounded (x : Int) : sat16 (bounceRounded x) = max (-32768) (min 32767 ((x + 2048) / 4096)) := by
  norm_num [sat16, saturate, bounceRounded, roundShift]

/-- The job of a completed bounce that goes on to its next chunk. -/
theorem setUpChunk_eq (s : State) :
    ∃ next : Chunk, next.start = s.job.progress ∧ next.length = min 128 (s.job.total - s.job.progress) ∧
      (∀ j : Job, j.sources = s.job.sources → j.anchorK = s.job.anchorK →
        (s.setJob j).takenInHand 0 (List.replicate next.length 0) next) ∧
      setUpChunk s = s.setJob { s.job with chunk := some next, clips := clipsAfter s.job.clips next } := by
  have htaken : ∀ j : Job, j.sources = s.job.sources → j.anchorK = s.job.anchorK → _ := fun j hsources hanchor =>
    takeInHand_takenInHand s (s.setJob j) s.job (sourceReads_eq s s.job j hanchor) (sourceFifo_eq s s.job j hanchor)
      s.job.sources 0
      ⟨s.job.progress, min 128 (s.job.total - s.job.progress),
        List.replicate (min 128 (s.job.total - s.job.progress)) 0, 0, [], .read⟩ hsources (List.length_replicate ..) rfl
  obtain ⟨hstart, hlength, -⟩ := htaken s.job rfl rfl
  refine ⟨_, hstart, hlength, fun j hsources hanchor => ?_, ?_⟩
  · rw [hlength]
    exact (htaken j hsources hanchor).2.2
  · rw [clipsAfter_eq]
    rfl

/-! ## The last write -/

/-- The stack with the result in the place of the newest source. -/
theorem mergedStack_eq (below above slots : List Slot) (newest result : Slot) (hnewest : newest ∈ slots)
    (habove : ∀ x ∈ above, x ∉ slots) (hbelow : newest ∉ below) :
    mergedStack (below ++ newest :: above) slots (some newest) result =
      (below.filter fun x => decide (x ∉ slots)) ++ result :: above := by
  unfold mergedStack
  rw [List.filterMap_append, List.filterMap_cons, if_pos rfl]
  congr 1
  · rw [← List.filterMap_eq_filter]
    refine List.filterMap_congr fun x hx => ?_
    have hne : newest ≠ x := fun e => hbelow (e ▸ hx)
    by_cases hs : x ∈ slots <;> simp [hs, hne, Option.guard]
  · refine congrArg (result :: ·) ?_
    conv_rhs => rw [← List.filterMap_some (l := above)]
    refine List.filterMap_congr fun x hx => ?_
    have hs := habove x hx
    have hne : newest ≠ x := fun e => hs (e ▸ hnewest)
    simp [hs, hne]

theorem newestSource_eq (s : State) (below above slots : List Slot) (newest : Slot) (hs : s.table.stack = below ++ newest :: above)
    (hnewest : newest ∈ slots) (habove : ∀ x ∈ above, x ∉ slots) : newestSource s slots = some newest := by
  unfold newestSource
  rw [hs, List.reverse_append, List.reverse_cons, List.append_assoc, List.find?_append, List.find?_eq_none.mpr]
  · simp [hnewest]
  · intro x hx
    simpa using habove x (List.mem_reverse.mp hx)

/-- With no transfer in flight layers are freed whatever the job. -/
theorem withLayerFreed_setJob (s : State) (j : Job) (sl : Slot) (ht : s.store.transfer = none) :
    (s.setJob j).withLayerFreed sl = (s.withLayerFreed sl).setJob j := by
  refine State.eq_of_fields rfl rfl rfl rfl rfl ?_ rfl rfl ?_ rfl rfl rfl rfl
  · unfold State.withLayerFreed
    simp [ht]
  · rw [withLayerFreed_job, State.setJob_store, ht, State.setJob_job, State.setJob_job]
    exact Job.inFlight_kept j _ (by simp)

theorem freeLayers_setJob (sls : List Slot) (j : Job) : ∀ s : State, s.store.transfer = none →
    freeLayers sls (s.setJob j) = (freeLayers sls s).setJob j := by
  simp only [freeLayers_eq]
  induction sls with
  | nil => exact fun _ _ => rfl
  | cons sl rest ih =>
    intro s ht
    rw [List.foldl_cons, withLayerFreed_setJob s j sl ht]
    refine ih _ ?_
    show s.store.transfer.filter _ = none
    rw [ht]
    rfl

theorem freeLayers_layer_of_not_mem (sls : List Slot) (x : Slot) (hx : x ∉ sls) : ∀ s : State,
    (freeLayers sls s).layer x = s.layer x := by
  simp only [freeLayers_eq]
  induction sls with
  | nil => exact fun _ => rfl
  | cons sl rest ih =>
    intro s
    rw [List.foldl_cons, ih (fun h => hx (List.mem_cons_of_mem _ h)), withLayerFreed_layer,
      if_neg fun h => hx (by rw [h]; exact List.mem_cons_self)]

theorem besideRefills_setJob (j : Job) : BesideRefills (State.setJob · j) :=
  ⟨fun _ => rfl, fun _ _ => rfl, fun _ _ => rfl, fun _ _ => rfl, fun _ _ _ => rfl⟩

theorem raiseRefill_setJob (sl : Slot) (s : State) (j : Job) : raiseRefill sl (s.setJob j) = (raiseRefill sl s).setJob j :=
  (besideRefills_setJob j).raiseRefill s sl (fun _ => ⟨rfl, rfl⟩) fun _ => ⟨rfl, rfl⟩

theorem activateResult_setJob (result : Slot) (k : Nat) (s : State) (j : Job) :
    activateResult result k (s.setJob j) = (activateResult result k s).setJob j := by
  unfold activateResult activate
  rw [← raiseRefill_setJob]
  rfl

theorem activateResult_eq (result : Slot) (k : Nat) (s : State) :
    activateResult result k s =
      ({ s with
          table :=
            { s.table with layers := s.table.layers.set result.val { s.layer result with state := .active, k := some k } }
          store :=
            { s.store with
              buffers := s.store.buffers.set result.val
                (if s.transport.state = .idle ∨ s.transport.state = .halted then none
                else some { entries := [], primed := false, inFlight := false }) } } : State).withRefillRaised result := by
  have hstreams : (if s.transport.streams then some (⟨[], false, false⟩ : Stream) else none) =
      if s.transport.state = .idle ∨ s.transport.state = .halted then none else some ⟨[], false, false⟩ := by
    by_cases h : s.transport.state = .idle ∨ s.transport.state = .halted
    · rw [if_pos h, if_neg (by rw [streams_iff]; tauto)]
    · rw [if_neg h, if_pos (by rw [streams_iff]; tauto)]
  unfold activateResult activate
  rw [raiseRefill_eq, State.setLayer_transport, hstreams]
  exact congrArg (State.withRefillRaised · result) (State.eq_of_fields rfl rfl rfl rfl rfl rfl rfl rfl rfl rfl rfl rfl rfl)

theorem raiseRefill_layer (sl x : Slot) (s : State) : (raiseRefill sl s).layer x = s.layer x := by
  unfold State.layer
  rw [(raiseRefill_frame sl s).1]

/-- The completion of a job of which only the progress and the chunk in hand have changed since `w`. -/
theorem completeBounce_eq (w : State) (j : Job) (result anchor : Slot) (i : Nat) (stack : List Slot)
    (ht : w.store.transfer = none) (hsources : j.sources = w.job.sources) (hanchor : j.anchor = some i)
    (hmultiple : j.multiple = w.job.multiple) (htotal : j.total = w.job.total) (hclips : j.clips = w.job.clips)
    (hi : (w.job.sources.map Source.slot)[i]? = some anchor) (hresult : result ∉ w.job.sources.map Source.slot)
    (hstack : mergedStack w.table.stack (w.job.sources.map Source.slot)
      (newestSource w (w.job.sources.map Source.slot)) result = stack) :
    completeBounce result (w.setJob j) = w.withBounceDone result ((w.layer anchor).k.getD 0) stack := by
  let F : State :=
    freeLayers (w.job.sources.map Source.slot) (w.setTable { w.table with stack := stack })
  have hF : ∀ x, x ∉ w.job.sources.map Source.slot → F.layer x = w.layer x :=
    fun x hx => freeLayers_layer_of_not_mem _ x hx _
  have hfreed : F = (w.job.sources.map Source.slot).foldl State.withLayerFreed { w with table := { w.table with stack := stack } } :=
    freeLayers_eq _ _
  let A : State := activateResult result ((w.layer anchor).k.getD 0) F
  have hA : (A.layer result).extents = (w.layer result).extents := by
    show ((activateResult result ((w.layer anchor).k.getD 0) F).layer result).extents = _
    unfold activateResult activate
    rw [raiseRefill_layer, State.setBuffer_layer, State.setLayer_layer, if_pos rfl, hF result hresult]
  have hmodel : completeBounce result (w.setJob j) =
      primingCheck (((A.setJob j).reported 31
        (.bounceEnd .done result j.multiple (pageCount (A.layer result).extents) j.total j.clips)).setJob Job.idle) := by
    have hk : ((((w.setJob j).job.anchor.bind fun a => (w.job.sources.map Source.slot)[a]?).map
        fun sl => ((w.setJob j).layer sl).k.getD 0)).getD 0 = (w.layer anchor).k.getD 0 := by
      rw [State.setJob_job, hanchor, Option.bind_some, hi]
      rfl
    unfold completeBounce
    dsimp only
    rw [show (w.setJob j).job.sources = w.job.sources from hsources, hk,
      show newestSource (w.setJob j) (w.job.sources.map Source.slot) = newestSource w (w.job.sources.map Source.slot) from rfl,
      State.setJob_table, hstack,
      show (w.setJob j).setTable { w.table with stack := stack } = (w.setTable { w.table with stack := stack }).setJob j from rfl,
      freeLayers_setJob _ _ _ (by exact ht), activateResult_setJob]
    unfold reportBounceEnd
    rw [raiseReport_eq_reported]
    rfl
  rw [hmodel, hmultiple, htotal, hclips, hA, primingCheck_eq]
  unfold State.withBounceDone
  dsimp only
  rw [← hfreed, ← show F.transport = w.transport from (freeLayers_frame _ _).1, ← activateResult_eq]
  refine congrArg State.withPrimingEnded ?_
  show ((A.setJob j).reported 31 _).setJob Job.idle = (A.reported 31 _).setJob Job.idle
  rw [State.reported_eq, State.reported_eq]
  rfl

/-- The memory after a chunk write. -/
theorem memory_chunk (m : List Host.Cell) (a : Nat) (sums : List Int) (h : Memory.wf m = true) :
    (∀ i, i < sums.length →
      readSample (writeSamples m a (sums.map fun x => sat16 (bounceRounded x))) (a + i) =
        max (-32768) (min 32767 ((sums.getD i 0 + 2048) / 4096))) ∧
      ∀ b, b < 2 * a ∨ 2 * (a + sums.length) ≤ b →
        readByte (writeSamples m a (sums.map fun x => sat16 (bounceRounded x))) b = readByte m b := by
  refine ⟨fun i hi => ?_, fun b hb => readByte_writeSamples_outside _ _ _ _ h (by rwa [List.length_map])⟩
  rw [← sat16_bounceRounded]
  refine readSample_writeSamples m a i _ h _ ?_ ?_
  · rw [List.getElem?_map, List.getD_eq_getElem?_getD, List.getElem?_eq_getElem hi]
    rfl
  · rw [sat16_bounceRounded]
    omega

/-- Settles O57: a read by `addPiece_of_more` and `read_adds`; a write by `memory_chunk`, and behind it the next chunk
(`setUpChunk_eq`) or the result (`completeBounce_eq`). -/
theorem bounceReadsAndWritesComplete : Obligations.BounceReadsAndWritesComplete := by
  intro s ch left hr hleft hch
  refine ⟨fun src q next rest ht hp hsrc => ?_, fun result a ht hres ha hmem hlen => ?_⟩
  · refine ⟨addFrom q.rel ((List.range q.count).map fun i => sourceValue s src (q.off + i)) ch.sums, addFrom_length _ _ _,
      fun i hi => read_adds s src q ch.sums i hi, ?_⟩
    rw [exec_bounceReadComplete s left hr ht hleft]
    unfold completeRead
    rw [releasePort_bounceRead s left ht]
    dsimp only
    rw [show s.bounceReleased.job.chunk = some ch from hch]
    dsimp only
    rw [addPiece_of_more ch s.bounceReleased src q next rest hp hsrc]
    rfl
  · let mem := writeSamples s.mem a (ch.sums.map fun x => sat16 (bounceRounded x))
    let w : State := { s with mem := mem, store := { s.store with transfer := none } }
    let j : Job := { s.job with inFlight := false, progress := s.job.progress + ch.length, chunk := none }
    have hwrite : completeWrite s = if j.progress = j.total then completeBounce result (w.setJob j) else setUpChunk (w.setJob j) := by
      unfold completeWrite
      rw [releasePort_bounceWrite s left ht]
      dsimp only
      rw [show s.bounceReleased.job.chunk = some ch from hch, show s.bounceReleased.job.result = some result from hres]
      dsimp only
      unfold writeChunk
      dsimp only
      rw [show offsetAddress (s.bounceReleased.layer result).extents ch.start = some a from ha]
      rfl
    obtain ⟨hin, hout⟩ := memory_chunk s.mem a ch.sums hmem
    rw [hlen] at hin hout
    rw [exec_bounceWriteComplete s left hr ht hleft, hwrite]
    by_cases hlast : s.job.progress + ch.length = s.job.total
    · rw [if_pos hlast]
      have hkept : (completeBounce result (w.setJob j)).mem = mem := (completeBounce_frame _ _).2.2.1
      refine ⟨_, rfl, ?_, ?_, fun hmore => absurd hlast hmore, ?_⟩
      · rw [hkept]
        exact hin
      · rw [hkept]
        exact hout
      · intro anchor i below above newest _ hanchor hi hstack hnewest habove hbelow hresult
        rw [hkept]
        refine completeBounce_eq w j result anchor i _ rfl rfl hanchor rfl rfl rfl hi hresult ?_
        show mergedStack s.table.stack (s.job.sources.map Source.slot) (newestSource s (s.job.sources.map Source.slot)) result = _
        rw [newestSource_eq s below above _ newest hstack hnewest habove, hstack]
        exact mergedStack_eq below above _ newest result hnewest habove hbelow
    · rw [if_neg hlast]
      obtain ⟨next, hstart, hlength, htaken, hsetUp⟩ := setUpChunk_eq (w.setJob j)
      rw [hsetUp]
      refine ⟨_, rfl, hin, hout, fun _ => ⟨rfl, rfl, hres, rfl, rfl, rfl, ⟨next, rfl, hstart, hlength, ?_, rfl⟩, rfl⟩,
        fun _ _ _ _ _ h => absurd h hlast⟩
      exact htaken { j with chunk := some next, clips := clipsAfter s.job.clips next } rfl rfl

end Sys2Proof.Machine
end

section
/-! SUPPORT. The transport record of a sound playhead, along every way that the transport can take, and the position inside the cycle that a
sample period finds. -/

namespace Sys2Proof.Machine

/-- The clauses of `playheadSound` that speak of the transport record alone. -/
structure Transport.Sound (t : Transport) : Prop where
  grid : 1 ≤ t.beats ∧ t.beats ≤ 32 ∧ 400 ≤ t.tempo ∧ t.tempo ≤ 3000
  counters : t.c ≤ 65535 ∧ t.cyclesRecorded ≤ 7 ∧ (t.state ≠ .defining → t.cyclesRecorded = 0 ∧ t.closePending = false)
  idle : t.state = .idle → t.length = none ∧ t.p = 0 ∧ t.c = 0
  defining : t.state = .defining → t.mode = .free → t.length = none ∧ t.p ≤ 2304000
  cycle : t.state ≠ .idle → ¬(t.state = .defining ∧ t.mode = .free) →
    ∃ n, t.length = some n ∧ 4800 ≤ n ∧ n ≤ 2304000 ∧ t.p ≤ n
  stopped : t.state = .halted ∨ t.state = .priming → t.p = 0
  beat : t.beatDue = true → t.moves = true ∧ 0 < t.p ∧ t.p < t.length.getD 0

namespace Transport.Sound

variable {t : Transport}

/-- In every state with a cycle L is defined. -/
theorem length_of_state (h : t.Sound) (hs : t.state = .running ∨ t.state = .priming ∨ t.state = .halted) :
    ∃ n, t.length = some n ∧ 4800 ≤ n ∧ n ≤ 2304000 := by
  have hne : t.state ≠ .idle ∧ t.state ≠ .defining := by
    rcases hs with hs | hs | hs <;> rw [hs] <;> decide
  obtain ⟨n, hn, h1, h2, -⟩ := h.cycle hne.1 fun hd => hne.2 hd.1
  exact ⟨n, hn, h1, h2⟩

/-- At L no beat start is marked as reached. -/
theorem beatDue_of_wrap (h : t.Sound) (hp : t.length = some t.p) : t.beatDue = false := by
  by_contra hb
  obtain ⟨-, -, hlt⟩ := h.beat (by simpa using hb)
  rw [hp] at hlt
  exact lt_irrefl _ hlt

/-- The top of a cycle of length `n`, in a state in which the transport has one. -/
theorem top (h : t.Sound) (u : Transport) (n : Nat) (hgrid : u.beats = t.beats ∧ u.tempo = t.tempo)
    (hcount : u.c ≤ 65535 ∧ u.cyclesRecorded ≤ 7 ∧ (u.state ≠ .defining → u.cyclesRecorded = 0 ∧ u.closePending = false))
    (hstate : u.state ≠ .idle) (hfree : ¬(u.state = .defining ∧ u.mode = .free)) (hp : u.p = 0) (hb : u.beatDue = false)
    (hn : u.length = some n) (h1 : 4800 ≤ n) (h2 : n ≤ 2304000) : u.Sound where
  grid := by rw [hgrid.1, hgrid.2]; exact h.grid
  counters := hcount
  idle hi := absurd hi hstate
  defining hd hm := absurd ⟨hd, hm⟩ hfree
  cycle _ _ := ⟨n, hn, h1, h2, by omega⟩
  stopped _ := hp
  beat hb' := by rw [hb] at hb'; cases hb'

end Transport.Sound

theorem Transport.Reaches.sound {t u : Transport} (hr : t.Reaches u) (h : t.Sound) : u.Sound := by
  induction hr with
  | refl => exact h
  | trans _ _ ih1 ih2 => exact ih2 (ih1 h)
  | @primed t hp =>
    obtain ⟨n, hn, h1, h2⟩ := h.length_of_state (.inr (.inl hp))
    obtain ⟨hc, -, hrest⟩ := h.counters
    obtain ⟨hzero, hpending⟩ := hrest (by rw [hp]; decide)
    exact h.top _ n ⟨rfl, rfl⟩ ⟨hc, by show t.cyclesRecorded ≤ 7; omega, fun _ => ⟨hzero, hpending⟩⟩ nofun nofun rfl rfl hn h1 h2
  | @halted t hs =>
    obtain ⟨n, hn, h1, h2⟩ := h.length_of_state (hs.imp id .inl)
    obtain ⟨hc, -, hrest⟩ := h.counters
    obtain ⟨hzero, hpending⟩ := hrest (by rcases hs with hs | hs <;> rw [hs] <;> decide)
    exact h.top _ n ⟨rfl, rfl⟩ ⟨hc, by show t.cyclesRecorded ≤ 7; omega, fun _ => ⟨hzero, hpending⟩⟩ nofun nofun rfl rfl hn h1 h2
  | idled t =>
    exact ⟨h.grid, ⟨Nat.zero_le _, Nat.zero_le _, fun _ => ⟨rfl, rfl⟩⟩, fun _ => ⟨rfl, rfl, rfl⟩, nofun,
      fun hne _ => absurd rfl hne, nofun, nofun⟩
  | pulsed => exact ⟨h.grid, h.counters, h.idle, h.defining, h.cycle, h.stopped, h.beat⟩
  | @pending t hd =>
    exact ⟨h.grid, ⟨h.counters.1, h.counters.2.1, fun hne => absurd hd hne⟩, h.idle, h.defining, h.cycle, h.stopped, h.beat⟩
  | @closed t hd hm hp =>
    obtain ⟨-, hle⟩ := h.defining hd hm
    refine h.top _ t.p ⟨rfl, rfl⟩ ⟨?_, Nat.zero_le _, fun _ => ⟨rfl, rfl⟩⟩ nofun nofun rfl rfl rfl hp hle
    show (if t.mode = .free then 0 else t.c) ≤ 65535
    rw [if_pos hm]
    omega
  | @wrapped t hs hp =>
    obtain ⟨n, hn, h1, h2⟩ := h.length_of_state (.inl hs)
    obtain ⟨-, hseven, hrest⟩ := h.counters
    exact h.top _ n ⟨rfl, rfl⟩ ⟨by show (t.c + 1) % 65536 ≤ 65535; omega, hseven, hrest⟩ (by show t.state ≠ _; rw [hs]; decide)
      (by show ¬(t.state = _ ∧ _); rw [hs]; nofun) rfl (h.beatDue_of_wrap hp) hn h1 h2
  | @recorded t hd hm hne hp =>
    obtain ⟨n, hn, h1, h2, -⟩ := h.cycle (by rw [hd]; decide) (by rw [hm]; nofun)
    obtain ⟨-, hseven, -⟩ := h.counters
    exact h.top _ n ⟨rfl, rfl⟩ ⟨by show (t.c + 1) % 65536 ≤ 65535; omega, by show t.cyclesRecorded + 1 ≤ 7; omega,
      fun hnd => absurd hd hnd⟩ (by show t.state ≠ _; rw [hd]; decide) (by show ¬(_ ∧ t.mode = _); rw [hm]; nofun) rfl
      (h.beatDue_of_wrap hp) hn h1 h2
  | @completed t hd hm =>
    obtain ⟨n, hn, h1, h2, -⟩ := h.cycle (by rw [hd]; decide) (by rw [hm]; nofun)
    refine h.top _ n ⟨rfl, rfl⟩ ⟨?_, Nat.zero_le _, fun _ => ⟨rfl, rfl⟩⟩ nofun nofun rfl rfl ?_ h1 h2
    · show (if t.mode = .free then 0 else (t.c + 1) % 65536) ≤ 65535
      split <;> omega
    · show some (t.length.getD 0) = some n
      rw [hn]
      rfl
  | beaten => exact ⟨h.grid, h.counters, h.idle, h.defining, h.cycle, h.stopped, nofun⟩
  | @begun t hi hm =>
    obtain ⟨hlength, -, -⟩ := h.idle hi
    exact ⟨h.grid, ⟨Nat.zero_le _, Nat.zero_le _, fun hne => absurd rfl hne⟩, nofun, fun _ _ => ⟨hlength, Nat.zero_le _⟩,
      fun _ hfree => absurd ⟨rfl, hm⟩ hfree, nofun, nofun⟩
  | @gridBegun t hi hm =>
    obtain ⟨hb1, hb32, ht1, ht2⟩ := h.grid
    obtain ⟨hspb1, hspb2⟩ := samplesPerBeat_range t.tempo ht1 ht2
    refine h.top _ (t.beats * samplesPerBeat t.tempo) ⟨rfl, rfl⟩
      ⟨Nat.zero_le _, Nat.zero_le _, fun hne => absurd rfl hne⟩ nofun (by show ¬(_ ∧ t.mode = _); rw [hm]; nofun) rfl rfl rfl ?_ ?_
    · nlinarith
    · nlinarith
  | @played t hh =>
    obtain ⟨n, hn, h1, h2⟩ := h.length_of_state (.inr (.inr hh))
    obtain ⟨hc, -, hrest⟩ := h.counters
    obtain ⟨hzero, hpending⟩ := hrest (by rw [hh]; decide)
    exact h.top _ n ⟨rfl, rfl⟩ ⟨hc, by show t.cyclesRecorded ≤ 7; omega, fun _ => ⟨hzero, hpending⟩⟩ nofun nofun rfl rfl hn h1 h2

/-! ## The position that a sample period finds -/

/-- A condition on a position inside the cycle: it holds at the top of every cycle, and with the position where it is. -/
structure TopCondition (I : Transport → Prop) : Prop where
  top : ∀ t : Transport, t.Sound → t.p = 0 → I t
  same : ∀ t u : Transport, I t → u.p = t.p → u.moves = t.moves → u.freeDefining = t.freeDefining → u.length = t.length → I u

/-- Every way of a sound transport keeps such a condition. -/
theorem Transport.Reaches.kept {I : Transport → Prop} (hI : TopCondition I) {t u : Transport} (hr : t.Reaches u) (h : t.Sound)
    (hin : I t) : I u := by
  induction hr with
  | refl => exact hin
  | trans h1 _ ih1 ih2 => exact ih2 (h1.sound h) (ih1 h hin)
  | primed hp => exact hI.top _ ((Reaches.primed hp).sound h) rfl
  | halted hs => exact hI.top _ ((Reaches.halted hs).sound h) rfl
  | idled t => exact hI.top _ ((Reaches.idled t).sound h) rfl
  | pulsed => exact hI.same _ _ hin rfl rfl rfl rfl
  | pending => exact hI.same _ _ hin rfl rfl rfl rfl
  | closed hd hm hp => exact hI.top _ ((Reaches.closed hd hm hp).sound h) rfl
  | wrapped hs hp => exact hI.top _ ((Reaches.wrapped hs hp).sound h) rfl
  | recorded hd hm hne hp => exact hI.top _ ((Reaches.recorded hd hm hne hp).sound h) rfl
  | completed hd hm => exact hI.top _ ((Reaches.completed hd hm).sound h) rfl
  | beaten => exact hI.same _ _ hin rfl rfl rfl rfl
  | begun hi hm => exact hI.top _ ((Reaches.begun hi hm).sound h) rfl
  | gridBegun hi hm => exact hI.top _ ((Reaches.gridBegun hi hm).sound h) rfl
  | played hh => exact hI.top _ ((Reaches.played hh).sound h) rfl

/-- The FREE base take has room for another sample. -/
def Transport.freeInside (t : Transport) : Prop := t.freeDefining = true → t.p < 2304000

/-- The playhead that moves is inside its cycle. -/
def Transport.moveInside (t : Transport) : Prop := t.moves = true → t.p < t.length.getD 0

theorem topCondition_freeInside : TopCondition Transport.freeInside where
  top t _ hp _ := by omega
  same t u h hp _ hf _ hu := by
    rw [hp]
    exact h (hf ▸ hu)

theorem topCondition_moveInside : TopCondition Transport.moveInside where
  top t h hp hm := by
    have hs := (moves_iff t).mp hm
    obtain ⟨n, hn, h1, -, -⟩ := h.cycle (by rcases hs with hs | ⟨hs, -⟩ <;> rw [hs] <;> decide)
      (by rcases hs with hs | ⟨-, hs⟩ <;> rw [hs] <;> nofun)
    rw [hn, hp]
    show 0 < n
    omega
  same t u h hp hm _ hl hu := by
    rw [hp, hl]
    exact h (hm ▸ hu)

/-! ## What is due takes the playhead inside its cycle -/

/-- Behind the cycle start the playhead is at the top of the next cycle. -/
theorem moveInside_wrapCycle (s : State) (h : s.transport.Sound) (hdue : cycleStartDue s = true) :
    (wrapCycle s).transport.moveInside := by
  have hm : s.transport.moves = true := moves_of_cycleStartDue s hdue
  have hp : s.transport.length = some s.transport.p := beq_iff_eq.mp (Bool.and_eq_true_iff.mp hdue).2
  have hboundary : ∀ u : State, s.transport.Reaches u.transport → u.transport.p = 0 → u.transport.moves = true →
      (raiseBoundary 0 false none u).transport.moveInside := fun u hu hp hmu =>
    (Transport.Reaches.raiseBoundary 0 false none u hmu).kept topCondition_moveInside (hu.sound h)
      (topCondition_moveInside.top _ (hu.sound h) hp)
  unfold wrapCycle
  dsimp only
  split
  · next hd =>
    have hg : s.transport.mode = .grid := by simpa [Transport.moves, hd] using hm
    split
    · have hclosed := Transport.Reaches.completed hd hg
      exact (Transport.Reaches.closure _ _ _ (.refl _)).kept topCondition_moveInside (hclosed.sound h)
        (topCondition_moveInside.top _ (hclosed.sound h) rfl)
    · next hn =>
      exact hboundary _ (.recorded hd hg (fun h8 => hn (.inr h8)) hp) rfl (by simpa [Transport.moves] using hm)
  · next hd =>
    have hr : s.transport.state = .running := by simpa [Transport.moves, hd] using hm
    exact hboundary _ (.wrapped hr hp) rfl (by simpa [Transport.moves] using hm)

theorem freeInside_selfCloseIfDue (s : State) (h : s.transport.Sound) : (selfCloseIfDue s).transport.freeInside := by
  unfold selfCloseIfDue
  split
  · next hdue =>
    simp only [selfCloseDue, Transport.freeDefining, Bool.and_eq_true, beq_iff_eq, decide_eq_true_eq] at hdue
    obtain ⟨⟨hd, hm⟩, hp⟩ := hdue
    have hclosed := Transport.Reaches.closed hd hm (by omega)
    rw [hp] at hclosed
    exact (Transport.Reaches.closure 1 2304000 s (.refl _)).kept topCondition_freeInside (hclosed.sound h)
      (topCondition_freeInside.top _ (hclosed.sound h) rfl)
  · next hdue =>
    intro hf
    have hstate : s.transport.state = .defining ∧ s.transport.mode = .free := by simpa [Transport.freeDefining] using hf
    obtain ⟨-, hle⟩ := h.defining hstate.1 hstate.2
    have hne : s.transport.p ≠ 2304000 := fun hp => hdue (by simp [selfCloseDue, hf, hp])
    omega

theorem moveInside_boundaryIfDue (s : State) (h : s.transport.Sound) : (boundaryIfDue s).transport.moveInside := by
  unfold boundaryIfDue
  split
  · exact moveInside_wrapCycle s h ‹_›
  · next hdue =>
    have hin : s.transport.moveInside := fun hm => by
      have hs := (moves_iff _).mp hm
      obtain ⟨n, hn, -, -, hle⟩ := h.cycle (by rcases hs with hs | ⟨hs, -⟩ <;> rw [hs] <;> decide)
        (by rcases hs with hs | ⟨-, hs⟩ <;> rw [hs] <;> nofun)
      have hne : s.transport.p ≠ n := fun hp => hdue (by simp [cycleStartDue, hm, hn, hp])
      rw [hn]
      show s.transport.p < n
      omega
    split
    · exact (Transport.Reaches.takeBeat s (moves_of_beatDue s ‹_›)).kept topCondition_moveInside h hin
    · exact hin

/-- The position that a sample period finds. -/
def Transport.Inside (t : Transport) : Prop := t.moveInside ∧ t.freeInside

theorem Transport.Reaches.inside {t u : Transport} (hr : t.Reaches u) (h : t.Sound) (hin : t.Inside) : u.Inside :=
  ⟨hr.kept topCondition_moveInside h hin.1, hr.kept topCondition_freeInside h hin.2⟩

namespace Transport.Reaches

theorem takeFulls (s : State) : s.transport.Reaches (takeFulls s).transport :=
  foldl (fun u r => by
    unfold takeFullAt
    split
    · exact endTake _ _ _
    · exact .refl _) _ _

theorem boundaryIfDue (s : State) : s.transport.Reaches (boundaryIfDue s).transport := by
  unfold Machine.boundaryIfDue
  split
  · exact wrapCycle s ‹_›
  · split
    · exact takeBeat s (moves_of_beatDue s ‹_›)
    · exact .refl _

theorem completeDue (s : State) : s.transport.Reaches (completeDue s).transport := by
  unfold Machine.completeDue
  split
  · exact .refl _
  · split
    · exact complete _ s
    · exact .refl _

theorem windows (s : State) : s.transport.Reaches (laneNumbers.foldl windowEndAt s).transport :=
  foldl (fun u l => by
    unfold windowEndAt
    split
    · exact endWindow l u
    · exact .refl _) _ _

theorem selfCloseIfDue (s : State) : s.transport.Reaches (selfCloseIfDue s).transport := by
  unfold Machine.selfCloseIfDue
  split
  · exact selfClose s ‹_›
  · exact .refl _

theorem startWindowIfDue (s : State) : s.transport.Reaches (startWindowIfDue s).transport := by
  unfold Machine.startWindowIfDue
  split
  · exact of_same (decidePort _) rfl
  · exact .refl _

end Transport.Reaches

/-- The ends of the pulse and of the click burst leave the transport but for the pin. -/
theorem clickEndIfDue_sound (s : State) (h : s.transport.Sound) : (clickEndIfDue (pulseEndIfDue s)).transport.Sound := by
  have hpulse : (pulseEndIfDue s).transport.Sound := by
    unfold pulseEndIfDue
    split
    · exact ⟨h.grid, h.counters, h.idle, h.defining, h.cycle, h.stopped, h.beat⟩
    · exact h
  unfold clickEndIfDue
  split
  · exact hpulse
  · exact hpulse

theorem startFrameDue_transport (s : State) : (startFrameDue s).transport = s.transport := by
  unfold startFrameDue
  split
  · exact (startFrame_frame s).1
  · rfl

/-- The last events that are due: the completion, the arbiter's decision and the start of a frame. -/
theorem reaches_portDue (s : State) : s.transport.Reaches (startFrameDue (decidePort (completeDue s))).transport := by
  rw [startFrameDue_transport]
  exact (Transport.Reaches.completeDue s).trans (Transport.Reaches.decidePort _)

/-- From the ends of the windows on, what is due takes the playhead inside its cycle. -/
theorem portDue_inside (s : State) (h : s.transport.Sound) (hf : s.transport.freeInside) :
    (startFrameDue (decidePort (completeDue (boundaryIfDue s)))).transport.Inside :=
  (reaches_portDue (boundaryIfDue s)).inside ((Transport.Reaches.boundaryIfDue s).sound h)
    ⟨moveInside_boundaryIfDue s h, (Transport.Reaches.boundaryIfDue s).kept topCondition_freeInside h hf⟩

/-- With everything due taken, the playhead is inside its cycle. -/
theorem urgent_inside (s : State) (h : s.transport.Sound) (hr : isRunning s = true) : (urgent s).transport.Inside := by
  have hclick := clickEndIfDue_sound (takeFulls s) ((Transport.Reaches.takeFulls s).sound h)
  have hclosed := (Transport.Reaches.selfCloseIfDue _).sound hclick
  have hwindows := Transport.Reaches.windows (selfCloseIfDue (clickEndIfDue (pulseEndIfDue (takeFulls s))))
  have hurgent : urgent s = startFrameDue (decidePort (completeDue (boundaryIfDue
      (laneNumbers.foldl windowEndAt (selfCloseIfDue (clickEndIfDue (pulseEndIfDue (takeFulls s)))))))) := if_pos hr
  rw [hurgent]
  exact portDue_inside _ (hwindows.sound hclosed)
    (hwindows.kept topCondition_freeInside hclosed (freeInside_selfCloseIfDue _ hclick))

/-- A state behind the dispatcher that runs has everything due taken. -/
theorem dispatchAll_inside {P : State → Prop} (kept : KeptByEvents P) (hP : ∀ s, P s → s.transport.Sound) (n : Nat) (s : State)
    (h : P s) (hin : isRunning s = true → s.transport.Inside) :
    isRunning (dispatchAll n s) = true → (dispatchAll n s).transport.Inside := by
  induction n generalizing s with
  | zero => exact hin
  | succ n ih =>
    unfold dispatchAll
    split
    · have hd := kept.dispatch s h
      refine ih _ (kept.urgent _ hd) fun hr => ?_
      by_cases hrun : isRunning (dispatch s) = true
      · exact urgent_inside _ (hP _ hd) hrun
      · have hsame : urgent (dispatch s) = dispatch s := if_neg hrun
        rw [hsame] at hr
        exact absurd hr hrun
    · exact hin

theorem settle_inside {P : State → Prop} (kept : KeptByEvents P) (hP : ∀ s, P s → s.transport.Sound) (s : State) (h : P s)
    (hr : isRunning (settle s) = true) : (startWindowIfDue (settle s)).transport.Inside := by
  have hsettled : (settle s).transport.Inside := by
    refine dispatchAll_inside kept hP _ _ (kept.urgent s h) (fun hu => ?_) hr
    by_cases hrun : isRunning s = true
    · exact urgent_inside s (hP s h) hrun
    · have hsame : urgent s = s := if_neg hrun
      rw [hsame] at hu
      exact absurd hu hrun
  exact (Transport.Reaches.startWindowIfDue _).inside (hP _ (kept.settle s h)) hsettled

end Sys2Proof.Machine
end

section
/-! SUPPORT. The part of a sound song that every event keeps: what `playheadSound` says beside the transport record, with the clauses of
`songSound` that it rests on. -/

namespace Sys2Proof.Machine

/-! ## The clauses -/

/-- What the layer table says of a layer with its layer cycle. -/
def LayerRec.core (l : LayerRec) : LState × Nat × Option Nat × Bool := (l.state, l.multiple, l.k, l.held)

/-- What a recorder says of its take. -/
def RecorderRec.core (q : RecorderRec) : RState × Option Slot × Bool × Bool := (q.state, q.slot, q.base, q.tail)

/-- What the job record says of layers. -/
def Job.core (j : Job) : Bool × Option Slot × List Source × Option Nat × Nat := (j.running, j.result, j.sources, j.anchor, j.multiple)

/-- The layer cycle of a layer in transport state `x` (R25, R34, R35). -/
def LayerRec.cycleSound (l : LayerRec) (x : TState) : Prop :=
  if l.state = .free ∨ l.state = .building then l.k = none
  else 1 ≤ l.multiple ∧ l.multiple ≤ 8 ∧ ∃ k, l.k = some k ∧ k < l.multiple ∧ (x = .halted ∨ x = .priming → k = 0)

/-- The layer of a recorder's take is in this state. -/
def RecorderRec.fits (q : RecorderRec) (x : LState) : Prop :=
  if q.tail = true then q.state = .closing ∧ (x = .active ∨ x = .parked) else x = .recording ∨ x = .closing

/-- Layers, recorders and buffers agree. -/
structure SongCore (s : State) : Prop where
  stack : ∀ x ∈ s.table.stack, (s.layer x).state = .active
  redo : s.table.redo.Nodup ∧ ∀ x ∈ s.table.redo, (s.layer x).state = .parked
  idle : ∀ q, (s.recorder q).state = .idle →
    (s.recorder q).slot = none ∧ (s.recorder q).base = false ∧ (s.recorder q).tail = false
  listed : ∀ q, (s.recorder q).state ≠ .idle → q ∈ s.takes.order ∧ (s.recorder q).slot ≠ none
  fits : ∀ q x, (s.recorder q).slot = some x → (s.recorder q).fits (s.layer x).state
  named : ∀ q r x, (s.recorder q).slot = some x → (s.recorder r).slot = some x → q = r
  base : ∀ q, (s.recorder q).base = true → (s.recorder q).tail = false → s.transport.state = .defining ∧
    ∀ r, (s.recorder r).base = true → (s.recorder r).tail = false → r = q
  idleSong : s.transport.state = .idle → (∀ x, (s.layer x).state = .free) ∧ ∀ q, (s.recorder q).state = .idle
  cycles : ∀ x, (s.layer x).cycleSound s.transport.state
  buffers : ∀ x, (s.buffer x ≠ none ↔ (s.layer x).state = .active ∧ s.transport.streams = true) ∧
    ∀ b, s.buffer x = some b → b.entries.length ≤ 256
  refill : ∀ x entries left, s.store.transfer = some ⟨.refill x entries, left⟩ →
    entries.length = 128 ∧ ∃ b, s.buffer x = some b ∧ b.inFlight = true ∧ b.entries.length ≤ 128

/-- A job that runs has its sources held and its result in work. -/
structure JobSound (s : State) : Prop where
  idle : s.job.running = false → s.job.result = none
  runs : s.job.running = true →
    (s.transport.state = .running ∨ s.transport.state = .priming ∨ s.transport.state = .halted) ∧
      (∀ src ∈ s.job.sources, (s.layer src.slot).state = .active ∧ (s.layer src.slot).held = true) ∧
      ∃ i src result, s.job.anchor = some i ∧ s.job.sources[i]? = some src ∧ s.job.result = some result ∧
        (s.layer result).state = .building ∧ (s.layer src.slot).multiple = s.job.multiple ∧
        (s.layer result).multiple = s.job.multiple

/-- The cues that wait may wait, and lanes are armed in IDLE alone. -/
structure CuesSound (s : State) : Prop where
  idle : s.transport.state = .idle → s.cues.cycle = [] ∧ s.cues.beat = []
  waiting : (∀ e ∈ s.cues.cycle, quantAllowed e.kind (.wait .cycle) = true ∧ paramsInRange e.kind e.p1 e.p2 e.p3 = true) ∧
    ∀ e ∈ s.cues.beat, quantAllowed e.kind (.wait .beat) = true ∧ paramsInRange e.kind e.p1 e.p2 e.p3 = true ∧ e.target = none
  armed : ∀ l, (s.lane l).armed = true → s.transport.state = .idle

/-- The song that every event keeps. -/
structure Song (s : State) : Prop where
  core : SongCore s
  job : JobSound s
  cues : CuesSound s

/-! ## From and to the conditions of the statements -/

theorem song_of_sound (s : State) (h : songSound s) (hp : playheadSound s) : s.transport.Sound ∧ Song s := by
  refine ⟨⟨hp.grid, hp.counters, fun hi => ?_, hp.defining, hp.cycle, hp.stopped, hp.beat⟩, ⟨?_, ?_, ?_⟩⟩
  · obtain ⟨hlength, hzero, hc, -⟩ := hp.idle hi
    exact ⟨hlength, hzero, hc⟩
  · exact
      { stack := fun x hx => (h.stack.2 x).mp hx
        redo := ⟨h.redo.1, fun x hx => (h.redo.2 x).mp hx⟩
        idle := fun q hq => by rw [h.idle q hq]; exact ⟨rfl, rfl, rfl⟩
        listed := fun q hq => by
          obtain ⟨-, x, hx, -⟩ := h.take q hq
          exact ⟨(h.order.2 q).mpr hq, by rw [hx]; nofun⟩
        fits := fun q x hx => by
          have hq : (s.recorder q).state ≠ .idle := fun hq => by rw [h.idle q hq] at hx; cases hx
          obtain ⟨-, y, hy, -, -, -, hfit⟩ := h.take q hq
          obtain rfl := Option.some.inj (hy.symm.trans hx)
          unfold RecorderRec.fits
          split at hfit
          · next ht => rw [if_pos ht]; exact ⟨hfit.1, hfit.2.2⟩
          · next ht =>
            rw [if_neg ht]
            split at hfit
            · exact .inr hfit
            · exact .inl hfit
        named := fun q r x hq hr => h.named q r x hq hr
        base := h.base
        idleSong := fun hi => ⟨(h.idleSong hi).1, (h.idleSong hi).2.1⟩
        cycles := hp.cycles
        buffers := hp.buffers
        refill := hp.refill }
  · refine ⟨fun hj => by rw [h.jobIdle hj]; rfl, fun hj => ?_⟩
    obtain ⟨hstate, -, hsources, result, hresult, hbuilding⟩ := h.jobRuns hj
    obtain ⟨i, src, result', ha, hi, hr, hm⟩ := hp.anchor hj
    obtain rfl := Option.some.inj (hr.symm.trans hresult)
    exact ⟨hstate, fun x hx => ⟨hsources x hx, (h.held _).mpr ⟨hj, List.mem_map.mpr ⟨x, hx, rfl⟩⟩⟩, i, src, result', ha, hi, hr,
      hbuilding, hm⟩
  · exact ⟨fun hi => (hp.idle hi).2.2.2, hp.waiting, hp.armed⟩

theorem Song.playheadSound {s : State} (ht : s.transport.Sound) (h : Song s) : playheadSound s where
  grid := ht.grid
  counters := ht.counters
  idle hi := by
    obtain ⟨hlength, hp, hc⟩ := ht.idle hi
    exact ⟨hlength, hp, hc, h.cues.idle hi⟩
  defining := ht.defining
  cycle := ht.cycle
  stopped := ht.stopped
  beat := ht.beat
  cycles := h.core.cycles
  buffers := h.core.buffers
  refill := h.core.refill
  waiting := h.cues.waiting
  armed := h.cues.armed
  anchor hj := by
    obtain ⟨-, -, i, src, result, ha, hi, hr, -, hm⟩ := h.job.runs hj
    exact ⟨i, src, result, ha, hi, hr, hm⟩

/-! ## What the clauses do not read -/

theorem SongCore.congr {s t : State} (h : SongCore s) (hstate : t.transport.state = s.transport.state)
    (hstack : t.table.stack = s.table.stack) (hredo : t.table.redo = s.table.redo) (horder : t.takes.order = s.takes.order)
    (hlayer : ∀ x, (t.layer x).core = (s.layer x).core) (hrec : ∀ q, (t.recorder q).core = (s.recorder q).core)
    (hbuffer : ∀ x, (t.buffer x).map Stream.entries = (s.buffer x).map Stream.entries)
    (hrefill : ∀ x entries left, t.store.transfer = some ⟨.refill x entries, left⟩ →
      entries.length = 128 ∧ ∃ b, t.buffer x = some b ∧ b.inFlight = true ∧ b.entries.length ≤ 128) : SongCore t := by
  simp only [LayerRec.core, RecorderRec.core, Prod.mk.injEq] at hlayer hrec
  have hfits : ∀ q x, (t.recorder q).fits x = (s.recorder q).fits x := fun q x => by
    simp only [RecorderRec.fits, hrec]
  have hcycle : ∀ x y, (t.layer x).cycleSound y = (s.layer x).cycleSound y := fun x y => by
    simp only [LayerRec.cycleSound, hlayer]
  constructor
  · simpa only [hstack, hlayer] using h.stack
  · simpa only [hredo, hlayer] using h.redo
  · simpa only [hrec] using h.idle
  · simpa only [hrec, horder] using h.listed
  · simpa only [hfits, hlayer, hrec] using h.fits
  · simpa only [hrec] using h.named
  · simpa only [hrec, hstate] using h.base
  · simpa only [hrec, hstate, hlayer] using h.idleSong
  · simpa only [hcycle, hstate] using h.cycles
  · intro x
    obtain ⟨hiff, hlen⟩ := h.buffers x
    have hb := hbuffer x
    have hstreams : t.transport.streams = s.transport.streams := by unfold Transport.streams; rw [hstate]
    rw [(hlayer x).1, hstreams]
    cases ht : t.buffer x with
    | none =>
      have hs : s.buffer x = none := by simpa [ht] using hb.symm
      exact ⟨hs ▸ hiff, nofun⟩
    | some b =>
      rw [ht] at hb
      obtain ⟨b', hs, hentries⟩ := Option.map_eq_some_iff.mp hb.symm
      refine ⟨⟨fun _ => hiff.mp (by rw [hs]; nofun), nofun⟩, fun c hc => ?_⟩
      obtain rfl := Option.some.inj hc
      rw [← hentries]
      exact hlen b' hs
  · exact hrefill

/-- A change beside the layers, the recorders, the buffers and the transport's state. -/
theorem SongCore.same {s t : State} (h : SongCore s) (hstate : t.transport.state = s.transport.state) (htable : t.table = s.table)
    (htakes : t.takes = s.takes) (hbuffers : t.store.buffers = s.store.buffers) (htransfer : t.store.transfer = s.store.transfer) :
    SongCore t := by
  have hbuffer : ∀ x, t.buffer x = s.buffer x := fun x => by unfold State.buffer; rw [hbuffers]
  refine h.congr hstate (by rw [htable]) (by rw [htable]) (by rw [htakes]) (fun x => by unfold State.layer; rw [htable])
    (fun q => by unfold State.recorder; rw [htakes]) (fun x => by rw [hbuffer]) ?_
  rw [htransfer]
  simpa only [hbuffer] using h.refill

theorem JobSound.relabel {s t : State} (h : JobSound s) (hjob : t.job.core = s.job.core)
    (hstate : (s.transport.state = .running ∨ s.transport.state = .priming ∨ s.transport.state = .halted) →
      t.transport.state = .running ∨ t.transport.state = .priming ∨ t.transport.state = .halted)
    (hlayer : ∀ x, ((s.layer x).state = .active ∧ (s.layer x).held = true) ∨ (s.layer x).state = .building →
      (t.layer x).state = (s.layer x).state ∧ (t.layer x).multiple = (s.layer x).multiple ∧ (t.layer x).held = (s.layer x).held) :
    JobSound t := by
  simp only [Job.core, Prod.mk.injEq] at hjob
  obtain ⟨hrunning, hresult, hsources, hanchor, hmultiple⟩ := hjob
  refine ⟨fun hj => ?_, fun hj => ?_⟩
  · rw [hresult]
    exact h.idle (hrunning ▸ hj)
  · obtain ⟨hs, hsrc, i, src, result, ha, hi, hr, hb, hm1, hm2⟩ := h.runs (hrunning ▸ hj)
    rw [hanchor, hsources, hresult, hmultiple]
    refine ⟨hstate hs, fun x hx => ?_, i, src, result, ha, hi, hr, ?_, ?_, ?_⟩
    · obtain ⟨h1, -, h3⟩ := hlayer x.slot (.inl (hsrc x hx))
      rw [h1, h3]
      exact hsrc x hx
    · rw [(hlayer result (.inr hb)).1, hb]
    · rw [(hlayer src.slot (.inl (hsrc src (List.mem_of_getElem? hi)))).2.1, hm1]
    · rw [(hlayer result (.inr hb)).2.1, hm2]

theorem JobSound.congr {s t : State} (h : JobSound s) (hjob : t.job.core = s.job.core)
    (hstate : (s.transport.state = .running ∨ s.transport.state = .priming ∨ s.transport.state = .halted) →
      t.transport.state = .running ∨ t.transport.state = .priming ∨ t.transport.state = .halted)
    (hlayer : ∀ x, ((s.layer x).state = .active ∧ (s.layer x).held = true) ∨ (s.layer x).state = .building →
      (t.layer x).core = (s.layer x).core) : JobSound t := by
  simp only [LayerRec.core, Prod.mk.injEq] at hlayer
  refine h.relabel hjob hstate fun x hx => ?_
  obtain ⟨h1, h2, -, h4⟩ := hlayer x hx
  exact ⟨h1, h2, h4⟩

/-- A bounce engine without a job asks nothing of the layers. -/
theorem JobSound.of_idle {s : State} (hr : s.job.running = false) (hn : s.job.result = none) : JobSound s :=
  ⟨fun _ => hn, fun h => by rw [hr] at h; cases h⟩

theorem CuesSound.congr {s t : State} (h : CuesSound s)
    (hstate : t.transport.state = .idle ↔ s.transport.state = .idle) (hcues : t.cues = s.cues)
    (harmed : ∀ l, (t.lane l).armed = true → (s.lane l).armed = true) : CuesSound t := by
  refine ⟨fun hi => ?_, ?_, fun l hl => hstate.mpr (h.armed l (harmed l hl))⟩
  · rw [hcues]
    exact h.idle (hstate.mp hi)
  · rw [hcues]
    exact h.waiting

theorem CuesSound.same {s t : State} (h : CuesSound s) (hstate : t.transport.state = s.transport.state) (hcues : t.cues = s.cues)
    (hlanes : t.lanes = s.lanes) : CuesSound t :=
  h.congr (by rw [hstate]) hcues fun l hl => by unfold State.lane at hl ⊢; rwa [← hlanes]

/-- A change beside everything that the song reads. -/
theorem Song.same {s t : State} (h : Song s) (hstate : t.transport.state = s.transport.state) (htable : t.table = s.table)
    (hcues : t.cues = s.cues) (hlanes : t.lanes = s.lanes) (htakes : t.takes = s.takes)
    (hbuffers : t.store.buffers = s.store.buffers) (htransfer : t.store.transfer = s.store.transfer) (hjob : t.job.core = s.job.core) :
    Song t where
  core := h.core.same hstate htable htakes hbuffers htransfer
  job := h.job.congr hjob (by rw [hstate]; exact id) fun x _ => by unfold State.layer; rw [htable]
  cues := h.cues.same hstate hcues hlanes

theorem Song.setLink {s : State} (h : Song s) (l : Link) : Song (s.setLink l) := h.same rfl rfl rfl rfl rfl rfl rfl rfl

theorem Song.reported {s : State} (h : Song s) (room : Nat) (m : Message) : Song (s.reported room m) := by
  rw [State.reported_eq]
  exact h.setLink _

theorem Song.reply {s : State} (h : Song s) (m : Message) : Song (Machine.reply m s) := h.same rfl rfl rfl rfl rfl rfl rfl rfl

end Sys2Proof.Machine
end

section
/-! SUPPORT. The song through refills, the end of PRIMING and the port. -/

namespace Sys2Proof.Machine

/-! ## The end of PRIMING -/

/-- A transport in another state that streams alike, neither in IDLE nor newly stopped, in DEFINING if a base take runs. -/
theorem SongCore.setState {s t : State} (h : SongCore s) (htable : t.table = s.table) (htakes : t.takes = s.takes)
    (hstore : t.store = s.store) (hidle : t.transport.state = .idle → s.transport.state = .idle)
    (hbase : ∀ q, (s.recorder q).base = true → (s.recorder q).tail = false → t.transport.state = .defining)
    (hstreams : t.transport.streams = s.transport.streams)
    (hstill : t.transport.state = .halted ∨ t.transport.state = .priming →
      s.transport.state = .halted ∨ s.transport.state = .priming) : SongCore t := by
  have hlayer : ∀ x, t.layer x = s.layer x := fun x => by unfold State.layer; rw [htable]
  have hrec : ∀ q, t.recorder q = s.recorder q := fun q => by unfold State.recorder; rw [htakes]
  have hbuffer : ∀ x, t.buffer x = s.buffer x := fun x => by unfold State.buffer; rw [hstore]
  constructor
  · simpa only [htable, hlayer] using h.stack
  · simpa only [htable, hlayer] using h.redo
  · simpa only [hrec] using h.idle
  · simpa only [hrec, htakes] using h.listed
  · simpa only [hrec, hlayer] using h.fits
  · simpa only [hrec] using h.named
  · intro q hb ht
    rw [hrec] at hb ht
    obtain ⟨-, huniq⟩ := h.base q hb ht
    exact ⟨hbase q hb ht, by simpa only [hrec] using huniq⟩
  · intro hi
    simpa only [hlayer, hrec] using h.idleSong (hidle hi)
  · intro x
    have hx := h.cycles x
    rw [hlayer]
    unfold LayerRec.cycleSound at hx ⊢
    split at hx
    · next hf => rw [if_pos hf]; exact hx
    · next hf =>
      rw [if_neg hf]
      obtain ⟨h1, h8, k, hk, hlt, hz⟩ := hx
      exact ⟨h1, h8, k, hk, hlt, fun hs => hz (hstill hs)⟩
  · simpa only [hbuffer, hlayer, hstreams] using h.buffers
  · simpa only [hbuffer, hstore] using h.refill

theorem Song.primingCheck {s : State} (h : Song s) : Song (primingCheck s) := by
  rcases primingCheck_cases s with he | ⟨hp, he⟩
  · rw [he]
    exact h
  · rw [he]
    have hbase : ∀ q, (s.recorder q).base = true → (s.recorder q).tail = false → TState.running = .defining := fun q hb ht => by
      obtain ⟨hd, -⟩ := h.core.base q hb ht
      rw [hp] at hd
      cases hd
    refine ⟨h.core.setState rfl rfl rfl nofun hbase (by unfold Transport.streams; rw [hp]; rfl) nofun,
      h.job.congr rfl (fun _ => .inl rfl) fun _ _ => rfl, ⟨nofun, h.cues.waiting, fun l hl => ?_⟩⟩
    have := h.cues.armed l hl
    rw [hp] at this
    cases this

/-! ## Refills -/

/-- A buffer in which no refill is awaited has other entries. -/
theorem SongCore.setStream {s : State} (h : SongCore s) (x : Slot) (b b' : Stream) (hb : s.buffer x = some b)
    (hlen : b'.entries.length ≤ 256) (hno : ∀ entries left, s.store.transfer ≠ some ⟨.refill x entries, left⟩) :
    SongCore (s.setBuffer x (some b')) where
  stack := h.stack
  redo := h.redo
  idle := h.idle
  listed := h.listed
  fits := h.fits
  named := h.named
  base := h.base
  idleSong := h.idleSong
  cycles := h.cycles
  buffers y := by
    rw [State.setBuffer_buffer]
    by_cases hy : y = x
    · rw [if_pos hy]
      refine ⟨⟨fun _ => ?_, nofun⟩, fun c hc => ?_⟩
      · exact (h.buffers y).1.mp (by rw [hy, hb]; nofun)
      · obtain rfl := Option.some.inj hc
        exact hlen
    · rw [if_neg hy]
      exact h.buffers y
  refill y entries left ht := by
    have hy : y ≠ x := by
      rintro rfl
      exact hno entries left ht
    rw [State.setBuffer_buffer, if_neg hy]
    exact h.refill y entries left ht

theorem Song.landEntries {s : State} (h : Song s) (x : Slot) (entries : List Entry) (hlen : entries.length ≤ 128)
    (hb : ∀ b, s.buffer x = some b → b.entries.length ≤ 128)
    (hno : ∀ es left, s.store.transfer ≠ some ⟨.refill x es, left⟩) : Song (landEntries x entries s) := by
  cases hx : s.buffer x with
  | none =>
    rw [landEntries_none _ _ _ hx]
    exact h
  | some b =>
    rw [landEntries_some _ _ _ b hx]
    refine Song.primingCheck ⟨h.core.setStream x b _ hx ?_ hno, h.job.congr rfl id fun _ _ => rfl, h.cues.same rfl rfl rfl⟩
    have := hb b hx
    rw [List.length_drop, List.length_append]
    omega

theorem nextRefill_length (s : State) (x : Slot) (b : Stream) : (s.nextRefill x b).length = 128 := by
  simp [State.nextRefill, State.refillFrom]

/-- A buffer that waits for nothing has no refill in flight. -/
theorem SongCore.no_refill {s : State} (h : SongCore s) (x : Slot) (hx : ∀ b, s.buffer x = some b → b.inFlight = false)
    (entries : List Entry) (left : Nat) : s.store.transfer ≠ some ⟨.refill x entries, left⟩ := by
  intro ht
  obtain ⟨-, b, hb, hin, -⟩ := h.refill x entries left ht
  rw [hx b hb] at hin
  cases hin

theorem Song.placeSilent {s : State} (h : Song s) (x : Slot) : Song (placeSilent s x) := by
  rw [placeSilent_eq]
  unfold State.withRefillPlaced
  cases hx : s.buffer x with
  | none => exact h
  | some b =>
    dsimp only
    split
    · next hc =>
      obtain ⟨-, -, hlen, hin, -⟩ := hc
      rw [← landEntries_eq x _ s b hx]
      refine h.landEntries x _ (nextRefill_length s x b).le (fun c hc => ?_) (h.core.no_refill x fun c hc => ?_)
      · rw [hx] at hc
        obtain rfl := Option.some.inj hc
        exact hlen
      · rw [hx] at hc
        obtain rfl := Option.some.inj hc
        exact hin
    · exact h

theorem Song.raiseRefill {s : State} (h : Song s) (x : Slot) : Song (raiseRefill x s) := (h.placeSilent x).placeSilent x

theorem Song.placeAll {s : State} (h : Song s) : Song (placeAll s) :=
  KeptByEvents.foldl (P := Song) (fun _ x hs => hs.raiseRefill x) _ _ h

/-! ## The port -/

/-- The port without a transfer, and flags of requesters written anew. -/
theorem SongCore.released {s t : State} (h : SongCore s) (hstate : t.transport.state = s.transport.state) (htable : t.table = s.table)
    (horder : t.takes.order = s.takes.order) (hrec : ∀ q, (t.recorder q).core = (s.recorder q).core)
    (hbuffer : ∀ x, (t.buffer x).map Stream.entries = (s.buffer x).map Stream.entries) (ht : t.store.transfer = none) : SongCore t :=
  h.congr hstate (by rw [htable]) (by rw [htable]) horder (fun x => by unfold State.layer; rw [htable]) hrec hbuffer
    fun x entries left hx => by rw [ht] at hx; cases hx

theorem recorder_core_setRecorder (s : State) (r q : Recorder) (x : RecorderRec) (hx : x.core = (s.recorder r).core) :
    ((s.setRecorder r x).recorder q).core = (s.recorder q).core := by
  rw [State.setRecorder_recorder]
  split
  · next hq => rw [hq, hx]
  · rfl

theorem layer_core_setLayer (s : State) (x y : Slot) (l : LayerRec) (hl : l.core = (s.layer x).core) :
    ((s.setLayer x l).layer y).core = (s.layer y).core := by
  rw [State.setLayer_layer]
  split
  · next hy => rw [hy, hl]
  · rfl

theorem Song.releasePort {s : State} (h : Song s) : Song (releasePort s) := by
  cases hx : s.store.transfer with
  | none =>
    unfold Machine.releasePort
    rw [hx]
    exact h
  | some y =>
    rw [releasePort_some s y hx]
    obtain ⟨kind, left⟩ := y
    cases kind with
    | drain r n =>
      exact ⟨h.core.released rfl rfl rfl (fun q => recorder_core_setRecorder _ r q _ rfl) (fun _ => rfl) rfl,
        h.job.congr rfl id fun _ _ => rfl, h.cues.same rfl rfl rfl⟩
    | refill x es =>
      refine ⟨h.core.released rfl rfl rfl (fun _ => rfl) (fun y => ?_) rfl, h.job.congr rfl id fun _ _ => rfl,
        h.cues.same rfl rfl rfl⟩
      show (((s.setStore { s.store with transfer := none }).setBuffer x _).buffer y).map _ = _
      rw [State.setBuffer_buffer]
      split
      · next hy =>
        rw [hy, Option.map_map]
        rfl
      · rfl
    | bounceRead =>
      exact ⟨h.core.released rfl rfl rfl (fun _ => rfl) (fun _ => rfl) rfl, h.job.congr rfl id fun _ _ => rfl,
        h.cues.same rfl rfl rfl⟩
    | bounceWrite =>
      exact ⟨h.core.released rfl rfl rfl (fun _ => rfl) (fun _ => rfl) rfl, h.job.congr rfl id fun _ _ => rfl,
        h.cues.same rfl rfl rfl⟩

theorem Song.endTransferIf {s : State} (h : Song s) (mine : TransferKind → Bool) : Song (endTransferIf mine s) := by
  unfold Machine.endTransferIf
  split
  · exact h
  · split
    · exact h.releasePort
    · exact h

/-- A refill request chosen is one that waits. -/
theorem refillPending_of_chosen (s : State) (x : Slot) (h : chosenRequest s = some (.refill x)) : refillPending s x = true := by
  have hmem : ∀ (qs : List PortRequest) q, leastSlack s qs = some q → q ∈ qs := by
    intro qs
    induction qs with
    | nil => exact fun _ hq => by cases hq
    | cons y rest ih =>
      intro q hq
      unfold leastSlack at hq
      split at hq
      · obtain rfl := Option.some.inj hq
        exact List.mem_cons_self
      · next z hz =>
        split at hq
        · obtain rfl := Option.some.inj hq
          exact List.mem_cons_of_mem _ (ih _ hz)
        · obtain rfl := Option.some.inj hq
          exact List.mem_cons_self
  have hchosen : PortRequest.refill x ∈ realTimeRequests s := by
    unfold chosenRequest at h
    split at h
    · next q hq =>
      obtain rfl := Option.some.inj h
      exact hmem _ _ hq
    · split at h
      · cases h
      · cases h
  simp only [realTimeRequests, List.mem_append, List.mem_map, List.mem_filter] at hchosen
  rcases hchosen with ⟨r, -, hr⟩ | ⟨y, ⟨-, hy⟩, hr⟩
  · cases hr
  · obtain rfl : y = x := by injection hr
    exact hy

/-- A granted request is in flight: a refill with the 128 entries that its buffer waits for. -/
theorem Song.grant {s : State} (h : Song s) (q : PortRequest) (hq : chosenRequest s = some q) : Song (grant q s) := by
  cases q with
  | drain r =>
    refine ⟨h.core.congr rfl rfl rfl rfl (fun _ => rfl) (fun q => recorder_core_setRecorder s r q _ rfl) (fun _ => rfl) nofun,
      h.job.congr rfl id fun _ _ => rfl, h.cues.same rfl rfl rfl⟩
  | bounce =>
    refine ⟨h.core.congr rfl rfl rfl rfl (fun _ => rfl) (fun _ => rfl) (fun _ => rfl) fun x entries left ht => ?_,
      h.job.congr rfl id fun _ _ => rfl, h.cues.same rfl rfl rfl⟩
    have hkind : (transferOf s .bounce).kind ≠ .refill x entries := by
      unfold transferOf
      dsimp only
      split
      · nofun
      · split <;> nofun
    exact absurd (congrArg Transfer.kind (Option.some.inj ht)) hkind
  | refill x =>
    obtain ⟨b, hb, hlen⟩ : ∃ b, s.buffer x = some b ∧ b.entries.length ≤ 128 := by
      have hpending := refillPending_of_chosen s x hq
      unfold refillPending at hpending
      cases hb : s.buffer x with
      | none => simp [hb] at hpending
      | some b =>
        simp only [hb, Bool.and_eq_true, decide_eq_true_eq] at hpending
        exact ⟨b, rfl, hpending.2.1⟩
    have hbuffer : ∀ y, (Machine.grant (.refill x) s).buffer y =
        if y = x then (s.buffer x).map fun b => { b with inFlight := true } else s.buffer y :=
      fun y => State.setBuffer_buffer _ x y _
    refine ⟨h.core.congr rfl rfl rfl rfl (fun _ => rfl) (fun _ => rfl) (fun y => ?_) fun y entries left ht => ?_,
      h.job.congr rfl id fun _ _ => rfl, h.cues.same rfl rfl rfl⟩
    · rw [hbuffer]
      split
      · next hy =>
        rw [hy, Option.map_map]
        rfl
      · rfl
    · have hkind : TransferKind.refill x (composedEntries s x) = .refill y entries :=
        congrArg Transfer.kind (Option.some.inj ht)
      injection hkind with hxy hentries
      rw [hbuffer, if_pos hxy.symm, hb, ← hentries]
      refine ⟨?_, _, rfl, rfl, hlen⟩
      unfold composedEntries
      rw [hb]
      simp [refillEntries]

theorem Song.decidePort {s : State} (h : Song s) : Song (decidePort s) := by
  have hp := h.placeAll
  unfold Machine.decidePort arbitrate
  generalize Machine.placeAll s = u at hp ⊢
  split
  · split
    · exact hp
    · next q hq =>
      unfold grantOrStall
      split
      · exact hp.grant q hq
      · exact hp.same rfl rfl rfl rfl rfl rfl rfl rfl
  · exact hp

end Sys2Proof.Machine
end

section
/-! SUPPORT. The song through the changes of one layer or one take: freed, activated, begun, in its take, parked. -/

namespace Sys2Proof.Machine

/-! ## Layers that are freed -/

/-- A freed layer has no layer cycle. -/
theorem LayerRec.cycleSound_freed (x : TState) : LayerRec.freed.cycleSound x := by
  simp [cycleSound, freed]

theorem SongCore.freed {s u : State} {gone : Slot → Bool} {idle : Recorder → Bool} (h : SongCore s) (f : SongFreed s u gone idle)
    (hstate : u.transport.state = s.transport.state)
    (hidle : ∀ q x, (s.recorder q).slot = some x → gone x = true → idle q = true) : SongCore u := by
  have hrec : ∀ q, idle q = false → (u.recorder q).core = (s.recorder q).core := fun q hq => by
    obtain ⟨b, hb⟩ := f.kept q hq
    rw [hb]
    rfl
  have hidled : ∀ q, idle q = true → u.recorder q = RecorderRec.idle := f.idled
  have hlayer : ∀ x, gone x = false → u.layer x = s.layer x := fun x hx => by rw [f.layer, hx]; rfl
  have hfree : ∀ x, gone x = true → u.layer x = LayerRec.freed := fun x hx => by rw [f.layer, if_pos hx]
  simp only [RecorderRec.core, Prod.mk.injEq] at hrec
  have hstreams : u.transport.streams = s.transport.streams := by unfold Transport.streams; rw [hstate]
  constructor
  · intro x hx
    rw [f.stack, List.mem_filter] at hx
    rw [hlayer x (by simpa using hx.2)]
    exact h.stack x hx.1
  · rw [f.redo]
    refine ⟨h.redo.1.filter _, fun x hx => ?_⟩
    rw [List.mem_filter] at hx
    rw [hlayer x (by simpa using hx.2)]
    exact h.redo.2 x hx.1
  · intro q hq
    cases hi : idle q with
    | true => rw [hidled q hi]; exact ⟨rfl, rfl, rfl⟩
    | false =>
      obtain ⟨h1, h2, h3, h4⟩ := hrec q hi
      rw [h1] at hq
      rw [h2, h3, h4]
      exact h.idle q hq
  · intro q hq
    cases hi : idle q with
    | true => rw [hidled q hi] at hq; exact absurd rfl hq
    | false =>
      obtain ⟨h1, h2, -, -⟩ := hrec q hi
      rw [h1] at hq
      rw [h2, f.order, List.mem_filter]
      obtain ⟨hmem, hslot⟩ := h.listed q hq
      exact ⟨⟨hmem, by simp [hi]⟩, hslot⟩
  · intro q x hx
    obtain ⟨hs, hi⟩ := (f.slot q x).mp hx
    obtain ⟨h1, -, -, h4⟩ := hrec q hi
    have hg : gone x = false := by
      by_contra hg
      rw [hidle q x hs (by simpa using hg)] at hi
      cases hi
    have hfit := h.fits q x hs
    unfold RecorderRec.fits at hfit ⊢
    rw [h4, h1, hlayer x hg]
    exact hfit
  · intro q r x hq hr
    exact h.named q r x ((f.slot q x).mp hq).1 ((f.slot r x).mp hr).1
  · have hback : ∀ q, (u.recorder q).base = true → (u.recorder q).tail = false →
        (s.recorder q).base = true ∧ (s.recorder q).tail = false := fun q hb ht => by
      cases hi : idle q with
      | true => rw [hidled q hi] at hb; cases hb
      | false =>
        obtain ⟨-, -, h3, h4⟩ := hrec q hi
        exact ⟨h3 ▸ hb, h4 ▸ ht⟩
    intro q hb ht
    obtain ⟨hd, huniq⟩ := h.base q (hback q hb ht).1 (hback q hb ht).2
    exact ⟨hstate.trans hd, fun r hrb hrt => huniq r (hback r hrb hrt).1 (hback r hrb hrt).2⟩
  · intro hi
    obtain ⟨hl, hr⟩ := h.idleSong (hstate ▸ hi)
    refine ⟨fun x => ?_, fun q => ?_⟩
    · cases hx : gone x with
      | true => rw [hfree x hx]; rfl
      | false => rw [hlayer x hx]; exact hl x
    · cases hq : idle q with
      | true => rw [hidled q hq]; rfl
      | false => rw [(hrec q hq).1]; exact hr q
  · intro x
    rw [hstate]
    cases hx : gone x with
    | true => rw [hfree x hx]; exact LayerRec.cycleSound_freed _
    | false => rw [hlayer x hx]; exact h.cycles x
  · intro x
    rw [hstreams, f.buffer]
    cases hx : gone x with
    | true =>
      rw [if_pos rfl, hfree x hx]
      exact ⟨⟨fun hn => absurd rfl hn, fun ha => by cases ha.1⟩, nofun⟩
    | false =>
      rw [if_neg (by simp), hlayer x hx]
      exact h.buffers x
  · intro x entries left ht
    rw [f.store] at ht
    obtain ⟨hs, hlive⟩ := Option.filter_eq_some_iff.mp ht
    have hg : gone x = false := by
      by_contra hg
      have hany : (slotNumbers.any fun z => gone z && ofLayer s z (.refill x entries)) = true :=
        List.any_eq_true.mpr ⟨x, mem_slotNumbers x, by simp [ofLayer, Bool.eq_true_of_not_eq_false hg]⟩
      simp [hany] at hlive
    rw [f.buffer, hg]
    exact h.refill x entries left hs

theorem JobSound.freed {s u : State} {gone : Slot → Bool} {idle : Recorder → Bool} (h : JobSound s) (f : SongFreed s u gone idle)
    (hstate : u.transport.state = s.transport.state)
    (hgone : s.job.running = true → ∀ x, gone x = true →
      ¬(((s.layer x).state = .active ∧ (s.layer x).held = true) ∨ (s.layer x).state = .building)) :
    JobSound u := by
  obtain ⟨b, hb⟩ := f.job
  cases hr : s.job.running with
  | false => exact .of_idle (by rw [hb]; exact hr) (by rw [hb]; exact h.idle hr)
  | true =>
  refine h.congr (by rw [hb]; rfl) (by rw [hstate]; exact id) fun x hx => ?_
  rw [f.layer, if_neg fun hg => hgone hr x hg hx]

theorem tailRecorder_of_named (s : State) (q : Recorder) (x : Slot)
    (h : ∀ q r x, (s.recorder q).slot = some x → (s.recorder r).slot = some x → q = r) (ht : (s.recorder q).tail = true)
    (hx : (s.recorder q).slot = some x) : tailRecorder s x = some q := by
  cases hr : tailRecorder s x with
  | none =>
    have := List.find?_eq_none.mp hr q (mem_recorderNumbers q)
    simp [ht, hx] at this
  | some r => rw [h q r x hx (tailRecorder_tail s x r hr).2]

/-- A recorder in the tail drain of a layer that is freed names it no more. -/
theorem freeLayers_slot (sls : List Slot) : ∀ s : State,
    (∀ q r x, (s.recorder q).slot = some x → (s.recorder r).slot = some x → q = r) →
    ∀ q x, (s.recorder q).tail = true → x ∈ sls → ((freeLayers sls s).recorder q).slot ≠ some x := by
  induction sls with
  | nil => exact fun _ _ _ _ _ hx => by cases hx
  | cons sl rest ih =>
    intro s hnamed q x ht hx hslot
    have hcons : freeLayers (sl :: rest) s = freeLayers rest (s.withLayerFreed sl) := by
      rw [freeLayers_eq, freeLayers_eq]
      rfl
    rw [hcons] at hslot
    obtain ⟨_, hrest, -⟩ := (songFreed_refl (s.withLayerFreed sl)).freeLayers rest
    obtain ⟨hmid, -⟩ := (hrest.slot q x).mp hslot
    have hone := (songFreed_refl s).withLayerFreed sl
    obtain ⟨hold, hnot⟩ := (hone.slot q x).mp hmid
    have hslots : ∀ r y, ((s.withLayerFreed sl).recorder r).slot = some y → (s.recorder r).slot = some y :=
      fun r y hy => ((hone.slot r y).mp hy).1
    by_cases hsl : x = sl
    · rw [hsl] at hold
      rw [tailRecorder_of_named s q sl hnamed ht hold] at hnot
      simp at hnot
    · refine ih _ (fun a b y ha hb => hnamed a b y (hslots a y ha) (hslots b y hb)) q x ?_
        ((List.mem_cons.mp hx).resolve_left hsl) hslot
      rw [withLayerFreed_recorder] at hmid ⊢
      split at hmid
      · cases hmid
      · next hne =>
        rw [if_neg hne]
        split
        · exact ht
        · exact ht

/-- Layers freed that only recorders in the tail drain name, if any. -/
theorem SongCore.freeLayers {s : State} (h : SongCore s) (sls : List Slot)
    (hsls : ∀ x ∈ sls, (s.layer x).state ≠ .recording ∧ (s.layer x).state ≠ .closing) : SongCore (freeLayers sls s) := by
  obtain ⟨idle, f, -⟩ := (songFreed_refl s).freeLayers sls
  refine h.freed f (by rw [(freeLayers_frame sls s).1]) fun q x hx hg => ?_
  have hmem : x ∈ sls := by simpa using hg
  have hfit := h.fits q x hx
  have htail : (s.recorder q).tail = true := by
    by_contra ht
    unfold RecorderRec.fits at hfit
    rw [if_neg ht] at hfit
    exact hfit.elim (hsls x hmem).1 (hsls x hmem).2
  by_contra hi
  exact freeLayers_slot sls s h.named q x htail hmem ((f.slot q x).mpr ⟨hx, by simpa using hi⟩)

/-- The release of the redo list. -/
theorem Song.releaseRedo {s : State} (h : Song s) : Song (releaseRedo s) := by
  obtain ⟨idle, f, -⟩ := (songFreed_refl s).freeLayers s.table.redo
  have hframe := freeLayers_frame s.table.redo s
  have hstate : (Machine.releaseRedo s).transport.state = s.transport.state := by
    unfold Machine.releaseRedo
    rw [hframe.1]
  refine ⟨h.core.freeLayers _ fun x hx => ?_, h.job.freed f hstate fun _ x hg => ?_, h.cues.same hstate hframe.2.1 hframe.2.2.1⟩
  · rw [h.core.redo.2 x hx]
    exact ⟨nofun, nofun⟩
  · rw [h.core.redo.2 x (by simpa using hg)]
    rintro (⟨ha, -⟩ | hb)
    · cases ha
    · cases hb

/-- A take in progress has its layer in RECORDING or CLOSING. -/
theorem SongCore.inTake {s : State} (h : SongCore s) (r : Recorder) (sl : Slot) (hr : (s.recorder r).slot = some sl)
    (ht : (s.recorder r).tail = false) : (s.layer sl).state = .recording ∨ (s.layer sl).state = .closing := by
  have hfit := h.fits r sl hr
  unfold RecorderRec.fits at hfit
  rwa [if_neg (by rw [ht]; nofun)] at hfit

/-- A take that leaves no layer. -/
theorem Song.dropTake {s : State} (h : Song s) (r : Recorder) (sl : Slot) (reason : EndReason)
    (hr : (s.recorder r).slot = some sl) (ht : (s.recorder r).tail = false) : Song (dropTake r sl reason s) := by
  have f : SongFreed s (Machine.dropTake r sl reason s) (fun y => false || y == sl) fun q =>
      (false || tailRecorder
        (s.reported 31 (.takeEnd r sl reason (s.layer sl).len (s.layer sl).lost (pageCount (s.layer sl).extents))) sl == some q) ||
        q == r := by
    rw [dropTake_eq, withTakeDropped_eq s r sl reason hr]
    exact (((songFreed_refl s).congr (by rw [State.reported_eq]; rfl) (by rw [State.reported_eq]; rfl)
      (by rw [State.reported_eq]; rfl) (by rw [State.reported_eq]; rfl)).withLayerFreed sl).resetRecorder r sl hr (by simp)
  have hstate : (Machine.dropTake r sl reason s).transport.state = s.transport.state := by simp
  refine ⟨h.core.freed f hstate fun q x hx hg => ?_, h.job.freed f hstate fun _ x hg => ?_, h.cues.same hstate ?_ ?_⟩
  · obtain rfl : x = sl := by simpa using hg
    simp [h.core.named q r x hx hr]
  · obtain rfl : x = sl := by simpa using hg
    rcases h.core.inTake r x hr ht with hs | hs <;> rw [hs] <;> nofun
  · simp
  · simp

end Sys2Proof.Machine
end

section
/-! SUPPORT. The clauses of layers, recorders and buffers through a change of one layer or of one recorder. -/

namespace Sys2Proof.Machine

/-! ## One recorder -/

theorem RecorderRec.fits_congr {q p : RecorderRec} (h : q.core = p.core) (x : LState) : q.fits x = p.fits x := by
  simp only [core, Prod.mk.injEq] at h
  obtain ⟨hstate, -, -, htail⟩ := h
  simp only [fits, hstate, htail]

/-- A recorder whose layer is in a take or kept is the one that names it. -/
theorem SongCore.fits_cases {s : State} (h : SongCore s) (q : Recorder) (x : Slot) (hq : (s.recorder q).slot = some x) :
    ((s.recorder q).tail = true ∧ (s.recorder q).state = .closing ∧ ((s.layer x).state = .active ∨ (s.layer x).state = .parked)) ∨
      ((s.recorder q).tail = false ∧ ((s.layer x).state = .recording ∨ (s.layer x).state = .closing)) := by
  have hfit := h.fits q x hq
  unfold RecorderRec.fits at hfit
  split at hfit
  · next ht => exact .inl ⟨ht, hfit⟩
  · next ht => exact .inr ⟨by simpa using ht, hfit⟩

/-- A recorder in RECORDING is in no tail drain. -/
theorem SongCore.tail_of_recording {s : State} (h : SongCore s) (q : Recorder) (hq : (s.recorder q).state = .recording) :
    (s.recorder q).tail = false := by
  obtain ⟨-, hslot⟩ := h.listed q (by rw [hq]; nofun)
  obtain ⟨x, hx⟩ := Option.ne_none_iff_exists'.mp hslot
  rcases h.fits_cases q x hx with ⟨-, hc, -⟩ | ⟨ht, -⟩
  · rw [hq] at hc
    cases hc
  · exact ht

/-- A recorder back in IDLE. -/
theorem SongCore.resetRecorder {s : State} (h : SongCore s) (r : Recorder) : SongCore (resetRecorder r s) := by
  have hrec := fun q => resetRecorder_recorder r q s
  have hother : ∀ q, q ≠ r → (Machine.resetRecorder r s).recorder q = s.recorder q := fun q hq => by rw [hrec, if_neg hq]
  have hself : (Machine.resetRecorder r s).recorder r = RecorderRec.idle := by rw [hrec, if_pos rfl]
  have hslot : ∀ q x, ((Machine.resetRecorder r s).recorder q).slot = some x → q ≠ r := fun q x hx hq => by
    rw [hq, hself] at hx
    cases hx
  have hbase : ∀ q, ((Machine.resetRecorder r s).recorder q).base = true → q ≠ r := fun q hb hq => by
    rw [hq, hself] at hb
    cases hb
  refine ⟨h.stack, h.redo, fun q hq => ?_, fun q hq => ?_, fun q x hx => ?_, fun q p x hq hp => ?_, fun q hb ht => ?_, fun hi => ?_,
    h.cycles, h.buffers, h.refill⟩
  · by_cases hqr : q = r
    · rw [hqr, hself]
      exact ⟨rfl, rfl, rfl⟩
    · rw [hother q hqr] at hq ⊢
      exact h.idle q hq
  · have hqr : q ≠ r := by
      rintro rfl
      rw [hself] at hq
      exact hq rfl
    rw [hother q hqr] at hq ⊢
    obtain ⟨hmem, hs⟩ := h.listed q hq
    exact ⟨List.mem_filter.mpr ⟨hmem, by simpa using hqr⟩, hs⟩
  · have hqr := hslot q x hx
    rw [hother q hqr] at hx ⊢
    exact h.fits q x hx
  · have hqr := hslot q x hq
    have hpr := hslot p x hp
    rw [hother q hqr] at hq
    rw [hother p hpr] at hp
    exact h.named q p x hq hp
  · have hqr := hbase q hb
    rw [hother q hqr] at hb ht
    obtain ⟨hd, huniq⟩ := h.base q hb ht
    refine ⟨hd, fun p hpb hpt => ?_⟩
    have hpr := hbase p hpb
    rw [hother p hpr] at hpb hpt
    exact huniq p hpb hpt
  · obtain ⟨hl, hq⟩ := h.idleSong hi
    refine ⟨hl, fun q => ?_⟩
    rw [hrec]
    split
    · rfl
    · exact hq q

theorem Song.resetRecorder {s : State} (h : Song s) (r : Recorder) : Song (resetRecorder r s) :=
  ⟨h.core.resetRecorder r, h.job.congr rfl id fun _ _ => rfl, h.cues.same rfl rfl rfl⟩

/-- A recorder that names a layer which no other does. -/
theorem SongCore.setRecorder {s t : State} (h : SongCore s) (r : Recorder) (x : Slot)
    (hstate : t.transport.state = s.transport.state) (htable : t.table = s.table) (hstore : t.store = s.store)
    (hother : ∀ q, q ≠ r → (t.recorder q).core = (s.recorder q).core)
    (horder : r ∈ t.takes.order ∧ ∀ q ∈ s.takes.order, q ≠ r → q ∈ t.takes.order) (hslot : (t.recorder r).slot = some x)
    (hbusy : (t.recorder r).state ≠ .idle) (hfits : (t.recorder r).fits (s.layer x).state)
    (hnamed : ∀ q, q ≠ r → (s.recorder q).slot ≠ some x) (hactive : s.transport.state ≠ .idle)
    (hbase : (t.recorder r).base = true → (t.recorder r).tail = false → s.transport.state = .defining ∧
      ∀ q, q ≠ r → ¬((s.recorder q).base = true ∧ (s.recorder q).tail = false)) : SongCore t := by
  have hlayer : ∀ y, t.layer y = s.layer y := fun y => by unfold State.layer; rw [htable]
  have hbuffer : ∀ y, t.buffer y = s.buffer y := fun y => by unfold State.buffer; rw [hstore]
  have hfitsOf : ∀ q, q ≠ r → ∀ y, (t.recorder q).fits y = (s.recorder q).fits y := fun q hq =>
    RecorderRec.fits_congr (hother q hq)
  simp only [RecorderRec.core, Prod.mk.injEq] at hother
  refine ⟨?_, ?_, fun q hq => ?_, fun q hq => ?_, fun q y hy => ?_, fun q p y hq hp => ?_, fun q hb ht => ?_, fun hi => ?_, ?_, ?_, ?_⟩
  · simpa only [htable, hlayer] using h.stack
  · simpa only [htable, hlayer] using h.redo
  · by_cases hqr : q = r
    · rw [hqr] at hq
      exact absurd hq hbusy
    · obtain ⟨h1, h2, h3, h4⟩ := hother q hqr
      rw [h2, h3, h4]
      exact h.idle q (h1 ▸ hq)
  · by_cases hqr : q = r
    · rw [hqr, hslot]
      exact ⟨horder.1, nofun⟩
    · obtain ⟨h1, h2, -, -⟩ := hother q hqr
      rw [h2]
      obtain ⟨hmem, hs⟩ := h.listed q (h1 ▸ hq)
      exact ⟨horder.2 q hmem hqr, hs⟩
  · rw [hlayer]
    by_cases hqr : q = r
    · rw [hqr, hslot] at hy
      obtain rfl := Option.some.inj hy
      rw [hqr]
      exact hfits
    · rw [hfitsOf q hqr]
      exact h.fits q y ((hother q hqr).2.1 ▸ hy)
  · have hy : ∀ q, (t.recorder q).slot = some y → q ≠ r → y ≠ x := fun q hq hqr hyx => by
      rw [(hother q hqr).2.1, hyx] at hq
      exact hnamed q hqr hq
    by_cases hqr : q = r
    · by_cases hpr : p = r
      · rw [hqr, hpr]
      · rw [hqr, hslot] at hq
        exact absurd (Option.some.inj hq).symm (hy p hp hpr)
    · by_cases hpr : p = r
      · rw [hpr, hslot] at hp
        exact absurd (Option.some.inj hp).symm (hy q hq hqr)
      · exact h.named q p y ((hother q hqr).2.1 ▸ hq) ((hother p hpr).2.1 ▸ hp)
  · rw [hstate]
    by_cases hqr : q = r
    · obtain ⟨hd, hno⟩ := hbase (hqr ▸ hb) (hqr ▸ ht)
      refine ⟨hd, fun p hpb hpt => ?_⟩
      by_contra hpq
      obtain ⟨-, -, h3, h4⟩ := hother p (hqr ▸ hpq)
      exact hno p (hqr ▸ hpq) ⟨h3 ▸ hpb, h4 ▸ hpt⟩
    · obtain ⟨-, -, h3, h4⟩ := hother q hqr
      obtain ⟨hd, huniq⟩ := h.base q (h3 ▸ hb) (h4 ▸ ht)
      refine ⟨hd, fun p hpb hpt => ?_⟩
      by_cases hpr : p = r
      · obtain ⟨-, hno⟩ := hbase (hpr ▸ hpb) (hpr ▸ hpt)
        exact absurd ⟨h3 ▸ hb, h4 ▸ ht⟩ (hno q hqr)
      · obtain ⟨-, -, h3, h4⟩ := hother p hpr
        exact huniq p (h3 ▸ hpb) (h4 ▸ hpt)
  · exact absurd (hstate ▸ hi) hactive
  · simpa only [hlayer, hstate] using h.cycles
  · have hstreams : t.transport.streams = s.transport.streams := by unfold Transport.streams; rw [hstate]
    simpa only [hbuffer, hlayer, hstreams] using h.buffers
  · simpa only [hbuffer, hstore] using h.refill

/-! ## One layer -/

/-- One layer in another state, with its place in the lists and its buffer. -/
theorem SongCore.setLayer {s t : State} (h : SongCore s) (x : Slot) (hstate : t.transport.state = s.transport.state)
    (hother : ∀ y, y ≠ x → (t.layer y).core = (s.layer y).core) (hrec : ∀ q, (t.recorder q).core = (s.recorder q).core)
    (horder : t.takes.order = s.takes.order)
    (hstack : ∀ y ∈ t.table.stack, y ≠ x ∧ y ∈ s.table.stack ∨ y = x ∧ (t.layer x).state = .active)
    (hredo : t.table.redo.Nodup ∧ ∀ y ∈ t.table.redo, y ≠ x ∧ y ∈ s.table.redo ∨ y = x ∧ (t.layer x).state = .parked)
    (hfits : ∀ q, (s.recorder q).slot = some x → (s.recorder q).fits (t.layer x).state)
    (hactive : s.transport.state ≠ .idle) (hcycle : (t.layer x).cycleSound s.transport.state)
    (hbuffer : (t.buffer x ≠ none ↔ (t.layer x).state = .active ∧ s.transport.streams = true) ∧
      ∀ b, t.buffer x = some b → b.entries.length ≤ 256)
    (hbuffers : ∀ y, y ≠ x → t.buffer y = s.buffer y)
    (hrefill : ∀ y entries left, t.store.transfer = some ⟨.refill y entries, left⟩ →
      y ≠ x ∧ s.store.transfer = some ⟨.refill y entries, left⟩) : SongCore t := by
  have hstreams : t.transport.streams = s.transport.streams := by unfold Transport.streams; rw [hstate]
  have hfitsOf : ∀ q y, (t.recorder q).fits y = (s.recorder q).fits y := fun q => RecorderRec.fits_congr (hrec q)
  simp only [RecorderRec.core, Prod.mk.injEq] at hrec
  simp only [LayerRec.core, Prod.mk.injEq] at hother
  refine ⟨fun y hy => ?_, ⟨hredo.1, fun y hy => ?_⟩, ?_, ?_, fun q y hy => ?_, ?_, ?_, fun hi => absurd (hstate ▸ hi) hactive,
    fun y => ?_, fun y => ?_, fun y entries left ht => ?_⟩
  · rcases hstack y hy with ⟨hne, hmem⟩ | ⟨rfl, ha⟩
    · rw [(hother y hne).1]
      exact h.stack y hmem
    · exact ha
  · rcases hredo.2 y hy with ⟨hne, hmem⟩ | ⟨rfl, hp⟩
    · rw [(hother y hne).1]
      exact h.redo.2 y hmem
    · exact hp
  · simpa only [hrec] using h.idle
  · simpa only [hrec, horder] using h.listed
  · rw [hfitsOf]
    rw [(hrec q).2.1] at hy
    by_cases hyx : y = x
    · rw [hyx]
      exact hfits q (hyx ▸ hy)
    · rw [(hother y hyx).1]
      exact h.fits q y hy
  · simpa only [hrec] using h.named
  · simpa only [hrec, hstate] using h.base
  · rw [hstate]
    by_cases hyx : y = x
    · rw [hyx]
      exact hcycle
    · obtain ⟨h1, h2, h3, -⟩ := hother y hyx
      have hy := h.cycles y
      unfold LayerRec.cycleSound at hy ⊢
      rwa [h1, h2, h3]
  · rw [hstreams]
    by_cases hyx : y = x
    · rw [hyx]
      exact hbuffer
    · rw [hbuffers y hyx, (hother y hyx).1]
      exact h.buffers y
  · obtain ⟨hyx, hs⟩ := hrefill y entries left ht
    rw [hbuffers y hyx]
    exact h.refill y entries left hs

/-- A layer without a buffer has no refill in flight. -/
theorem SongCore.refill_ne {s : State} (h : SongCore s) (x : Slot) (hx : (s.layer x).state ≠ .active) (y : Slot) (entries : List Entry)
    (left : Nat) (ht : s.store.transfer = some ⟨.refill y entries, left⟩) : y ≠ x := by
  rintro rfl
  obtain ⟨-, b, hb, -, -⟩ := h.refill y entries left ht
  exact hx ((h.buffers y).1.mp (by rw [hb]; nofun)).1

end Sys2Proof.Machine
end

section
/-! SUPPORT. The song through the ends of takes and the sample path. -/

namespace Sys2Proof.Machine

/-! ## A layer that joins the stack -/

/-- The layer ACTIVE on top of the stack, before its refill request is raised. -/
def State.stacked (s : State) (x : Slot) : State :=
  (((s.setLayer x { s.layer x with state := .active }).setTable
      { (s.setLayer x { s.layer x with state := .active }).table with stack := s.table.stack ++ [x] }).setBuffer x
    (if s.transport.streams then some ⟨[], false, false⟩ else none))

theorem joinStack_stacked (x : Slot) (s : State) : joinStack x s = raiseRefill x (s.stacked x) := rfl

theorem State.stacked_layer (s : State) (x y : Slot) :
    (s.stacked x).layer y = if y = x then { s.layer x with state := .active } else s.layer y :=
  State.setLayer_layer s x y _

theorem State.stacked_buffer (s : State) (x y : Slot) :
    (s.stacked x).buffer y =
      if y = x then (if s.transport.streams then some ⟨[], false, false⟩ else none) else s.buffer y :=
  State.setBuffer_buffer _ x y _

/-- The layer of a take that has been drained, or of a parked layer, joins the stack. -/
theorem Song.stacked {s : State} (h : Song s) (x : Slot) (hcycles : (s.layer x).state ≠ .free ∧ (s.layer x).state ≠ .building)
    (hinactive : (s.layer x).state ≠ .active) (hnamed : ∀ q, (s.recorder q).slot = some x → (s.recorder q).tail = true)
    (hredo : x ∉ s.table.redo) : Song (s.stacked x) := by
  have hself : (s.stacked x).layer x = { s.layer x with state := .active } := by rw [State.stacked_layer, if_pos rfl]
  have hother : ∀ y, y ≠ x → (s.stacked x).layer y = s.layer y := fun y hy => by rw [State.stacked_layer, if_neg hy]
  refine ⟨h.core.setLayer x rfl (fun y hy => by rw [hother y hy]) (fun _ => rfl) rfl (fun y hy => ?_) ⟨h.core.redo.1, fun y hy => ?_⟩
    (fun q hq => ?_) (fun hi => hcycles.1 ((h.core.idleSong hi).1 x)) ?_ ⟨?_, fun b hb => ?_⟩
    (fun y hy => by rw [State.stacked_buffer, if_neg hy]) fun y entries left ht => ⟨h.core.refill_ne x hinactive y entries left ht, ht⟩,
    h.job.congr rfl id fun y hy => ?_, h.cues.same rfl rfl rfl⟩
  · rcases List.mem_append.mp hy with hs | hs
    · refine .inl ⟨fun hyx => hinactive (hyx ▸ h.core.stack y hs), hs⟩
    · exact .inr ⟨List.mem_singleton.mp hs, by rw [hself]⟩
  · exact .inl ⟨fun hyx => hredo (hyx ▸ hy), hy⟩
  · rw [hself]
    rcases h.core.fits_cases q x hq with ⟨ht, hc, -⟩ | ⟨ht, -⟩
    · unfold RecorderRec.fits
      rw [if_pos ht]
      exact ⟨hc, .inl rfl⟩
    · rw [hnamed q hq] at ht
      cases ht
  · have hx := h.core.cycles x
    rw [hself]
    unfold LayerRec.cycleSound at hx ⊢
    rw [if_neg (by rintro (hf | hb); exacts [hcycles.1 hf, hcycles.2 hb])] at hx
    rw [if_neg nofun]
    exact hx
  · rw [State.stacked_buffer, if_pos rfl, hself]
    cases s.transport.streams <;> simp
  · rw [State.stacked_buffer, if_pos rfl] at hb
    split at hb
    · obtain rfl := Option.some.inj hb
      exact Nat.zero_le _
    · cases hb
  · have hyx : y ≠ x := by
      rintro rfl
      rcases hy with ⟨ha, -⟩ | hb
      · exact hinactive ha
      · exact hcycles.2 hb
    rw [hother y hyx]

theorem finishTake_eq_joinStack (r : Recorder) (x : Slot) (s : State) (h : (s.recorder r).tail = false) :
    finishTake r x s =
      joinStack x (resetRecorder r (reportTakeEnd r x ((s.recorder r).endReason.getD .stopped) s)) := by
  have ht : (((reportTakeEnd r x ((s.recorder r).endReason.getD .stopped) s).stacked x).recorder r).tail = false := by
    rw [reportTakeEnd_eq_reported, State.reported_eq]
    exact h
  unfold finishTake
  dsimp only
  rw [joinStack_stacked, ← raiseRefill_resetRecorder r _ x ht]
  rfl

/-- A drained take hands its layer over. -/
theorem Song.finishTake {s : State} (h : Song s) (r : Recorder) (x : Slot) (hr : (s.recorder r).slot = some x)
    (ht : (s.recorder r).tail = false) : Song (finishTake r x s) := by
  have hlayer := h.core.inTake r x hr ht
  rw [finishTake_eq_joinStack r x s ht, joinStack_stacked, reportTakeEnd_eq_reported]
  have hreported := h.reported 31 (.takeEnd r x ((s.recorder r).endReason.getD .stopped) (s.layer x).len (s.layer x).lost
    (pageCount (s.layer x).extents))
  have hstate : ∀ y, ((Machine.resetRecorder r (s.reported 31 (.takeEnd r x ((s.recorder r).endReason.getD .stopped) (s.layer x).len
      (s.layer x).lost (pageCount (s.layer x).extents)))).layer y).state = (s.layer y).state := fun y => by
    rw [State.reported_eq]
    rfl
  refine Song.raiseRefill ((hreported.resetRecorder r).stacked x ?_ ?_ (fun q hq => ?_) fun hredo => ?_) x
  · rw [hstate]
    rcases hlayer with hl | hl <;> rw [hl] <;> exact ⟨nofun, nofun⟩
  · rw [hstate]
    rcases hlayer with hl | hl <;> rw [hl] <;> nofun
  · rw [resetRecorder_recorder] at hq
    split at hq
    · cases hq
    · next hqr =>
      rw [State.reported_eq] at hq
      exact absurd (h.core.named q r x hq hr) hqr
  · have hp := (hreported.resetRecorder r).core.redo.2 x hredo
    rw [hstate] at hp
    rw [hp] at hlayer
    exact hlayer.elim nofun nofun

/-- A recorder whose drain may be done. -/
theorem Song.drainDone {s : State} (h : Song s) (r : Recorder) : Song (drainDone r s) := by
  unfold Machine.drainDone
  split
  · split
    · exact h.resetRecorder r
    · next ht =>
      split
      · exact h
      · split
        · exact h
        · exact h.finishTake r _ ‹_› (by simpa using ht)
  · exact h

/-! ## A take that closes -/

/-- A recorder of a take that is now in CLOSING. -/
theorem SongCore.closing {s t : State} (h : SongCore s) (r : Recorder) (hr : (s.recorder r).slot ≠ none)
    (hstate : t.transport.state = s.transport.state)
    (hstack : t.table.stack = s.table.stack) (hredo : t.table.redo = s.table.redo) (horder : t.takes.order = s.takes.order)
    (hlayer : ∀ x, (t.layer x).core = (s.layer x).core)
    (hself : (t.recorder r).core = (.closing, (s.recorder r).slot, (s.recorder r).base, (s.recorder r).tail))
    (hother : ∀ q, q ≠ r → (t.recorder q).core = (s.recorder q).core) (hstore : t.store = s.store) : SongCore t := by
  have hbusy : (s.recorder r).state ≠ .idle := fun hi => hr (h.idle r hi).1
  have hrec : ∀ q, (t.recorder q).slot = (s.recorder q).slot ∧ (t.recorder q).base = (s.recorder q).base ∧
      (t.recorder q).tail = (s.recorder q).tail ∧ ((t.recorder q).state = .idle ↔ (s.recorder q).state = .idle) := fun q => by
    simp only [RecorderRec.core, Prod.mk.injEq] at hself hother
    by_cases hq : q = r
    · obtain ⟨h1, h2, h3, h4⟩ := hself
      rw [hq]
      exact ⟨h2, h3, h4, by rw [h1]; exact ⟨nofun, fun hi => absurd hi hbusy⟩⟩
    · obtain ⟨h1, h2, h3, h4⟩ := hother q hq
      exact ⟨h2, h3, h4, by rw [h1]⟩
  have hfits : ∀ q x, (s.recorder q).fits (s.layer x).state → (t.recorder q).fits (s.layer x).state := fun q x hfit => by
    by_cases hq : q = r
    · simp only [RecorderRec.core, Prod.mk.injEq] at hself
      obtain ⟨h1, -, -, h4⟩ := hself
      rw [hq] at hfit ⊢
      unfold RecorderRec.fits at hfit ⊢
      rw [h1, h4]
      split
      · next ht =>
        rw [if_pos ht] at hfit
        exact ⟨rfl, hfit.2⟩
      · next ht =>
        rw [if_neg ht] at hfit
        exact hfit
    · rw [RecorderRec.fits_congr (hother q hq)]
      exact hfit
  have hbuffer : ∀ x, t.buffer x = s.buffer x := fun x => by unfold State.buffer; rw [hstore]
  simp only [LayerRec.core, Prod.mk.injEq] at hlayer
  have hstreams : t.transport.streams = s.transport.streams := by unfold Transport.streams; rw [hstate]
  refine ⟨?_, ?_, fun q hq => ?_, fun q hq => ?_, fun q x hx => ?_, ?_, ?_, fun hi => ?_, fun x => ?_, ?_, ?_⟩
  · simpa only [hstack, hlayer] using h.stack
  · simpa only [hredo, hlayer] using h.redo
  · obtain ⟨h2, h3, h4, hidle⟩ := hrec q
    rw [h2, h3, h4]
    exact h.idle q (hidle.mp hq)
  · obtain ⟨h2, -, -, hidle⟩ := hrec q
    rw [h2, horder]
    exact h.listed q (mt hidle.mpr hq)
  · rw [(hlayer x).1]
    exact hfits q x (h.fits q x ((hrec q).1 ▸ hx))
  · intro q p x hq hp
    exact h.named q p x ((hrec q).1 ▸ hq) ((hrec p).1 ▸ hp)
  · intro q hb ht
    obtain ⟨-, h3, h4, -⟩ := hrec q
    obtain ⟨hd, huniq⟩ := h.base q (h3 ▸ hb) (h4 ▸ ht)
    refine ⟨hstate.trans hd, fun p hpb hpt => ?_⟩
    obtain ⟨-, h3, h4, -⟩ := hrec p
    exact huniq p (h3 ▸ hpb) (h4 ▸ hpt)
  · obtain ⟨hl, hq⟩ := h.idleSong (hstate ▸ hi)
    refine ⟨fun x => by rw [(hlayer x).1]; exact hl x, fun q => (hrec q).2.2.2.mpr (hq q)⟩
  · have hx := h.cycles x
    obtain ⟨h1, h2, h3, -⟩ := hlayer x
    rw [hstate]
    unfold LayerRec.cycleSound at hx ⊢
    rwa [h1, h2, h3]
  · simpa only [hbuffer, hlayer, hstreams] using h.buffers
  · simpa only [hbuffer, hstore] using h.refill

/-- The open gap of a take closed. -/
theorem Song.closeGap {s : State} (h : Song s) (r : Recorder) (x : Slot) : Song (closeGap r x s) := by
  rw [closeGap_eq]
  have hlayer := layer_core_setLayer (s.setRecorder r { s.recorder r with fifo := (s.recorder r).filled, gap := 0 }) x
  exact ⟨h.core.congr rfl rfl rfl rfl (fun y => hlayer y _ rfl) (fun q => recorder_core_setRecorder s r q _ rfl) (fun _ => rfl)
    h.core.refill, h.job.congr rfl id fun y _ => hlayer y _ rfl, h.cues.same rfl rfl rfl⟩

theorem Song.recorderClosing {s : State} (h : Song s) (r : Recorder) (hr : (s.recorder r).slot ≠ none) (reason : Option EndReason) :
    Song (s.setRecorder r { s.recorder r with state := .closing, endReason := reason }) := by
  refine ⟨h.core.closing r hr rfl rfl rfl rfl (fun _ => rfl) ?_ (fun q hq => ?_) rfl, h.job.congr rfl id fun _ _ => rfl,
    h.cues.same rfl rfl rfl⟩
  · rw [State.setRecorder_recorder, if_pos rfl]
    rfl
  · rw [State.setRecorder_recorder, if_neg hq]

/-- The layer of a take in CLOSING. -/
theorem Song.layerClosing {s : State} (h : Song s) (x : Slot) (hx : (s.layer x).state = .recording ∨ (s.layer x).state = .closing) :
    Song (s.setLayer x { s.layer x with state := .closing }) := by
  have hinactive : (s.layer x).state ≠ .active := by rcases hx with hx | hx <;> rw [hx] <;> nofun
  have hself : ((s.setLayer x { s.layer x with state := .closing }).layer x).state = .closing := by
    rw [State.setLayer_layer, if_pos rfl]
  have hother : ∀ y, y ≠ x → (s.setLayer x { s.layer x with state := .closing }).layer y = s.layer y := fun y hy => by
    rw [State.setLayer_layer, if_neg hy]
  refine ⟨h.core.setLayer x rfl (fun y hy => by rw [hother y hy]) (fun _ => rfl) rfl (fun y hy => .inl ⟨?_, hy⟩)
    ⟨h.core.redo.1, fun y hy => .inl ⟨?_, hy⟩⟩ (fun q hq => ?_) (fun hi => ?_) ?_ ⟨?_, ?_⟩ (fun _ _ => rfl)
    fun y entries left ht => ⟨h.core.refill_ne x hinactive y entries left ht, ht⟩,
    h.job.congr rfl id fun y hy => ?_, h.cues.same rfl rfl rfl⟩
  · rintro rfl
    exact hinactive (h.core.stack y hy)
  · rintro rfl
    rw [h.core.redo.2 y hy] at hx
    exact hx.elim nofun nofun
  · rw [hself]
    rcases h.core.fits_cases q x hq with ⟨-, -, hl⟩ | ⟨ht, -⟩
    · rcases hl with hl | hl <;> rw [hl] at hx <;> exact hx.elim nofun nofun
    · unfold RecorderRec.fits
      rw [if_neg (by rw [ht]; nofun)]
      exact .inr rfl
  · rw [(h.core.idleSong hi).1 x] at hx
    exact hx.elim nofun nofun
  · have hc := h.core.cycles x
    unfold LayerRec.cycleSound at hc ⊢
    rw [if_neg (by rcases hx with hx | hx <;> rw [hx] <;> nofun)] at hc
    rw [if_neg (by rw [hself]; nofun), State.setLayer_layer, if_pos rfl]
    exact hc
  · rw [hself]
    show s.buffer x ≠ none ↔ _
    rw [(h.core.buffers x).1]
    exact ⟨fun ha => absurd ha.1 hinactive, fun ha => nomatch ha.1⟩
  · exact (h.core.buffers x).2
  · rw [hother y]
    rintro rfl
    rcases hx with hx | hx <;> rw [hx] at hy <;> exact hy.elim (fun ha => nomatch ha.1) nofun

/-- The normal end of a take that is in no tail drain. -/
theorem Song.endTake {s : State} (h : Song s) (reason : EndReason) (r : Recorder) (ht : (s.recorder r).tail = false) :
    Song (endTake reason s r) := by
  unfold Machine.endTake
  cases hr : (s.recorder r).slot with
  | none => exact h
  | some x =>
    dsimp only
    split
    · exact h.dropTake r x .empty hr ht
    · have hgap := h.closeGap r x
      have hrec : ((Machine.closeGap r x s).recorder r).core = (s.recorder r).core := by
        rw [closeGap_eq]
        exact recorder_core_setRecorder s r r _ rfl
      simp only [RecorderRec.core, Prod.mk.injEq] at hrec
      obtain ⟨-, hslot, -, htail⟩ := hrec
      refine ((hgap.recorderClosing r (by rw [hslot, hr]; nofun) (some reason)).layerClosing x ?_).drainDone r
      exact hgap.core.inTake r x (hslot.trans hr) (htail.trans ht)

/-! ## Takes that end one after the other -/

/-- A recorder in RECORDING that may be stopped is in no tail drain and not the base recorder. -/
theorem Song.plain_of_stoppable {s : State} (h : Song s) (q : Recorder) (hq : stoppable (s.recorder q) = true) : s.plain q := by
  obtain ⟨hrec, hbase⟩ : (s.recorder q).state = .recording ∧ (s.recorder q).base = false := by simpa [stoppable] using hq
  exact ⟨h.core.tail_of_recording q hrec, hbase⟩

theorem Song.endTakes (reason : EndReason) (rs : List Recorder) : ∀ {s : State}, Song s → (∀ q ∈ rs, s.plain q) →
    Song (rs.foldl (Machine.endTake reason) s) := by
  induction rs with
  | nil => exact fun h _ => h
  | cons r rest ih =>
    intro s h hp
    obtain ⟨htail, hbase⟩ := hp r List.mem_cons_self
    refine ih (h.endTake reason r htail) fun q hq => ?_
    rw [endTake_eq reason s r htail hbase]
    exact plain_withTakeEnded s reason r q (hp q (List.mem_cons_of_mem _ hq))

/-! ## The sample path -/

theorem Song.acquirePage {s t : State} (h : Song s) (x : Slot) (ht : acquirePage x s = .ok t) : Song t := by
  unfold Machine.acquirePage at ht
  split at ht
  · cases ht
  · split at ht
    · cases ht
    · cases ht
      have hlayer := fun y => layer_core_setLayer s x y
      exact ⟨h.core.congr rfl rfl rfl rfl (fun y => hlayer y _ rfl) (fun _ => rfl) (fun _ => rfl) h.core.refill,
        h.job.congr rfl id fun y _ => hlayer y _ rfl, h.cues.same rfl rfl rfl⟩

/-- A recorder with other counts in its record. -/
theorem Song.setRecorder {s : State} (h : Song s) (r : Recorder) (q : RecorderRec) (hq : q.core = (s.recorder r).core) :
    Song (s.setRecorder r q) :=
  ⟨h.core.congr rfl rfl rfl rfl (fun _ => rfl) (fun p => recorder_core_setRecorder s r p q hq) (fun _ => rfl) h.core.refill,
    h.job.congr rfl id fun _ _ => rfl, h.cues.same rfl rfl rfl⟩

/-- A layer with other settings or counts in its record. -/
theorem Song.setLayer {s : State} (h : Song s) (x : Slot) (l : LayerRec) (hl : l.core = (s.layer x).core) : Song (s.setLayer x l) :=
  ⟨h.core.congr rfl rfl rfl rfl (fun y => layer_core_setLayer s x y l hl) (fun _ => rfl) (fun _ => rfl) h.core.refill,
    h.job.congr rfl id fun y _ => layer_core_setLayer s x y l hl, h.cues.same rfl rfl rfl⟩

theorem Song.fillGap {s : State} (h : Song s) (r : Recorder) (x : Slot) (n : Nat) : Song (fillGap r x n s) := by
  unfold Machine.fillGap
  refine Song.setLayer ?_ x _ rfl
  exact h.setRecorder r _ rfl

theorem Song.takeSample {s : State} (h : Song s) (r : Recorder) (x : Slot) (o : Nat) (v : Int) : Song (takeSample r x o v s) := by
  have hgap : Song (if (s.recorder r).gap = 65535 then Machine.fillGap r x 65535 s else s) := by
    split
    · exact h.fillGap r x 65535
    · exact h
  unfold Machine.takeSample
  refine Song.setLayer ?_ x _ rfl
  split
  · exact (h.closeGap r x).setRecorder r _ rfl
  · exact hgap.setRecorder r _ rfl

theorem Song.exhaustRecorder {s : State} (h : Song s) (r : Recorder) (x : Slot) (reason : EndReason)
    (hr : (s.recorder r).slot ≠ none) : Song (exhaustRecorder r x reason s) := by
  refine (h.closeGap r x).recorderClosing r ?_ (some reason)
  have hrec : ((Machine.closeGap r x s).recorder r).core = (s.recorder r).core := by
    rw [closeGap_eq]
    exact recorder_core_setRecorder s r r _ rfl
  simp only [RecorderRec.core, Prod.mk.injEq] at hrec
  rwa [hrec.2.1]

/-- A recorder takes its sample: the song stays, and the transport follows its ways. -/
theorem Song.recordSample {s : State} (h : Song s) (value : Lane → Int) (r : Recorder) :
    Song (recordSample value s r) ∧ s.transport.Reaches (recordSample value s r).transport := by
  unfold Machine.recordSample
  split
  · next l x hrec hl hx =>
    have htail := h.core.tail_of_recording r hrec
    dsimp only
    split
    · split
      · next u hu =>
        exact ⟨(h.acquirePage x hu).takeSample r x _ _, .of_eq (by simp [acquirePage_frame _ _ _ hu])⟩
      · next e he =>
        split
        · next hb =>
          obtain ⟨hd, -⟩ := h.core.base r hb htail
          refine ⟨(h.exhaustRecorder r x e.reason (by rw [hx]; nofun)).same rfl rfl rfl rfl rfl rfl rfl rfl, ?_⟩
          have hpending := Transport.Reaches.pending hd
          simpa [exhaustGrid] using hpending
        · exact ⟨h.endTake e.reason r htail, .endTake _ _ _⟩
    · exact ⟨h.takeSample r x _ _, .of_eq (by simp)⟩
  · exact ⟨h, .refl _⟩

theorem Song.recordAll {s : State} (h : Song s) (value : Lane → Int) :
    Song (recordAll value s) ∧ s.transport.Reaches (recordAll value s).transport := by
  have hfold : ∀ (rs : List Recorder) (u : State), Song u →
      Song (rs.foldl (Machine.recordSample value) u) ∧
        u.transport.Reaches (rs.foldl (Machine.recordSample value) u).transport := by
    intro rs
    induction rs with
    | nil => exact fun u hu => ⟨hu, .refl _⟩
    | cons r rest ih =>
      intro u hu
      obtain ⟨hone, hway⟩ := hu.recordSample value r
      obtain ⟨hall, hways⟩ := ih _ hone
      exact ⟨hall, hway.trans hways⟩
  unfold Machine.recordAll
  dsimp only
  rw [openOrder_snd]
  exact hfold _ _ (h.same rfl rfl rfl rfl rfl rfl rfl rfl)

end Sys2Proof.Machine
end

section
/-! SUPPORT. The song through UNDO, REDO, MUTE, the aborts and HALT. -/

namespace Sys2Proof.Machine

/-! ## UNDO and REDO -/

/-- The layer parked, before the end of PRIMING is judged. -/
def State.parked (s : State) (x : Slot) : State :=
  withdraw x
    ((s.setTable { s.table with stack := s.table.stack.filter (· != x), redo := x :: s.table.redo }).setLayer x
      { s.layer x with state := .parked })

theorem parkLayer_parked (x : Slot) (s : State) : parkLayer x s = primingCheck (s.parked x) := rfl

theorem State.parked_eq (s : State) (x : Slot) :
    s.parked x =
      ((s.setTable { s.table with stack := s.table.stack.filter (· != x), redo := x :: s.table.redo }).setLayer x
        { s.layer x with state := .parked }).setStore
        { s.store with
          buffers := s.store.buffers.set x.val none
          transfer := s.store.transfer.filter fun y =>
            match y.kind with
            | .refill z _ => z != x
            | _ => true } := withdraw_eq x _

theorem State.parked_layer (s : State) (x y : Slot) :
    (s.parked x).layer y = if y = x then { s.layer x with state := .parked } else s.layer y := by
  rw [State.parked_eq]
  exact State.setLayer_layer _ x y _

theorem State.parked_buffer (s : State) (x y : Slot) : (s.parked x).buffer y = if y = x then none else s.buffer y := by
  rw [State.parked_eq]
  exact State.setBuffer_buffer s x y none

/-- The refill in flight is not one of a withdrawn layer. -/
theorem State.parked_refill (s : State) (x y : Slot) (entries : List Entry) (left : Nat)
    (ht : (s.parked x).store.transfer = some ⟨.refill y entries, left⟩) :
    y ≠ x ∧ s.store.transfer = some ⟨.refill y entries, left⟩ := by
  rw [State.parked_eq] at ht
  obtain ⟨hs, hkeep⟩ := Option.filter_eq_some_iff.mp ht
  exact ⟨by simpa using hkeep, hs⟩

/-- An UNDO parks an ACTIVE layer that no job holds. -/
theorem Song.parkLayer {s : State} (h : Song s) (x : Slot) (ha : (s.layer x).state = .active) (hheld : (s.layer x).held = false) :
    Song (parkLayer x s) := by
  have hself : (s.parked x).layer x = { s.layer x with state := .parked } := by rw [State.parked_layer, if_pos rfl]
  have hother : ∀ y, y ≠ x → (s.parked x).layer y = s.layer y := fun y hy => by rw [State.parked_layer, if_neg hy]
  have hrest : (s.parked x).transport = s.transport ∧ (s.parked x).takes = s.takes ∧ (s.parked x).job = s.job ∧
      (s.parked x).cues = s.cues ∧ (s.parked x).lanes = s.lanes ∧
      (s.parked x).table.stack = s.table.stack.filter (· != x) ∧ (s.parked x).table.redo = x :: s.table.redo := by
    rw [State.parked_eq]
    exact ⟨rfl, rfl, rfl, rfl, rfl, rfl, rfl⟩
  obtain ⟨htransport, htakes, hjob, hcues, hlanes, hstack, hredo⟩ := hrest
  rw [parkLayer_parked]
  refine Song.primingCheck ⟨h.core.setLayer x (by rw [htransport]) (fun y hy => by rw [hother y hy])
    (fun q => by unfold State.recorder; rw [htakes]) (by rw [htakes]) (fun y hy => ?_) ⟨?_, fun y hy => ?_⟩ (fun q hq => ?_)
    (fun hi => ?_) ?_ ⟨?_, fun b hb => ?_⟩ (fun y hy => by rw [State.parked_buffer, if_neg hy]) (s.parked_refill x),
    h.job.congr (by rw [hjob]) (by rw [htransport]; exact id) fun y hy => ?_, h.cues.same (by rw [htransport]) hcues hlanes⟩
  · rw [hstack, List.mem_filter] at hy
    exact .inl ⟨by simpa using hy.2, hy.1⟩
  · rw [hredo]
    refine List.nodup_cons.mpr ⟨fun hx => ?_, h.core.redo.1⟩
    rw [h.core.redo.2 x hx] at ha
    cases ha
  · rw [hredo] at hy
    by_cases hyx : y = x
    · exact .inr ⟨hyx, by rw [hself]⟩
    · exact .inl ⟨hyx, (List.mem_cons.mp hy).resolve_left hyx⟩
  · rw [hself]
    rcases h.core.fits_cases q x hq with ⟨ht, hc, -⟩ | ⟨-, hl⟩
    · unfold RecorderRec.fits
      rw [if_pos ht]
      exact ⟨hc, .inr rfl⟩
    · rw [ha] at hl
      exact hl.elim nofun nofun
  · rw [(h.core.idleSong hi).1 x] at ha
    cases ha
  · have hc := h.core.cycles x
    rw [hself]
    unfold LayerRec.cycleSound at hc ⊢
    rw [if_neg (by rw [ha]; nofun)] at hc
    rw [if_neg nofun]
    exact hc
  · rw [State.parked_buffer, if_pos rfl, hself]
    exact ⟨fun hn => absurd rfl hn, fun hp => nomatch hp.1⟩
  · rw [State.parked_buffer, if_pos rfl] at hb
    cases hb
  · rw [hother y]
    rintro rfl
    rcases hy with ⟨-, hh⟩ | hb
    · rw [hheld] at hh
      cases hh
    · rw [ha] at hb
      cases hb

theorem Song.applyRedo {s : State} (h : Song s) : Song (applyRedo s) := by
  unfold Machine.applyRedo
  cases hr : s.table.redo with
  | nil => exact h
  | cons x rest =>
    obtain ⟨hnodup, hparked⟩ := h.core.redo
    rw [hr] at hnodup hparked
    obtain ⟨hx, hrest⟩ := List.nodup_cons.mp hnodup
    have hp := hparked x List.mem_cons_self
    have hdropped : Song (s.setTable { s.table with redo := rest }) := by
      obtain ⟨hc, hj, hq⟩ := h
      exact ⟨⟨hc.stack, ⟨hrest, fun y hy => hparked y (List.mem_cons_of_mem x hy)⟩, hc.idle, hc.listed, hc.fits, hc.named, hc.base,
        hc.idleSong, hc.cycles, hc.buffers, hc.refill⟩, hj.congr rfl id fun _ _ => rfl, hq.same rfl rfl rfl⟩
    dsimp only
    rw [joinStack_stacked]
    refine Song.raiseRefill (hdropped.stacked x ?_ ?_ (fun q hq => ?_) hx) x
    · exact ⟨fun hf => (nomatch hp.symm.trans hf), fun hf => (nomatch hp.symm.trans hf)⟩
    · exact fun hf => nomatch hp.symm.trans hf
    · have hq' : (s.recorder q).slot = some x := hq
      rcases h.core.fits_cases q x hq' with ⟨ht, -, -⟩ | ⟨-, hl⟩
      · exact ht
      · rw [hp] at hl
        exact hl.elim nofun nofun

theorem Song.applyMute {s : State} (h : Song s) (on : Bool) (p1 p2 : Byte) : Song (applyMute on p1 p2 s) := by
  unfold Machine.applyMute
  split
  · obtain ⟨hc, hj, hq⟩ := h
    exact ⟨⟨hc.stack, hc.redo, hc.idle, hc.listed, hc.fits, hc.named, hc.base, hc.idleSong, hc.cycles, hc.buffers, hc.refill⟩,
      hj.congr rfl id fun _ _ => rfl, hq.same rfl rfl rfl⟩
  · exact h.setLayer _ _ rfl

/-! ## The empty song -/

/-- No layer, no take and nothing streamed. -/
theorem SongCore.of_empty {s : State} (hlayer : ∀ x, (s.layer x).state = .free ∧ (s.layer x).k = none)
    (hrec : ∀ q, (s.recorder q).core = RecorderRec.idle.core) (hstack : s.table.stack = []) (hredo : s.table.redo = [])
    (hbuffer : ∀ x, s.buffer x = none) (ht : ∀ x entries left, s.store.transfer ≠ some ⟨.refill x entries, left⟩) : SongCore s := by
  simp only [RecorderRec.core, Prod.mk.injEq] at hrec
  have hslot : ∀ q x, (s.recorder q).slot ≠ some x := fun q x hq => by
    rw [(hrec q).2.1] at hq
    cases hq
  refine ⟨?_, ?_, fun q _ => (hrec q).2, fun q hq => absurd (hrec q).1 hq, fun q x hx => absurd hx (hslot q x),
    fun q r x hq _ => absurd hq (hslot q x), fun q hb _ => ?_, fun _ => ⟨fun x => (hlayer x).1, fun q => (hrec q).1⟩, fun x => ?_,
    fun x => ?_, fun x entries left hx => absurd hx (ht x entries left)⟩
  · rw [hstack]
    nofun
  · rw [hredo]
    exact ⟨List.nodup_nil, nofun⟩
  · rw [(hrec q).2.2.1] at hb
    cases hb
  · unfold LayerRec.cycleSound
    rw [if_pos (.inl (hlayer x).1)]
    exact (hlayer x).2
  · rw [hbuffer, (hlayer x).1]
    exact ⟨⟨fun hn => absurd rfl hn, fun ha => nomatch ha.1⟩, nofun⟩

/-! ## Aborts -/

/-- The abort of the base take leaves the empty song. -/
theorem Song.abortBase {s : State} (h : Song s) (r : Recorder) (hd : s.transport.state = .defining) : Song (abortBase r s) := by
  obtain ⟨idle, f, hidle⟩ := abortBase_songFreed r s
  have hgone : ∀ x, s.freedByAbort r x = false → (s.layer x).state = .free := fun x hx => by
    obtain ⟨hfree, -⟩ := Bool.or_eq_false_iff.mp hx
    simpa using hfree
  have hstate : (Machine.abortBase r s).transport.state = .idle := by rw [abortBase_transport]; rfl
  have hnolayer : ∀ x, ((Machine.abortBase r s).layer x).state = .free ∧ ((Machine.abortBase r s).layer x).k = none := fun x => by
    rw [f.layer]
    split
    · exact ⟨rfl, rfl⟩
    · next hx =>
      have hfree := hgone x (by simpa using hx)
      have hc := h.core.cycles x
      unfold LayerRec.cycleSound at hc
      rw [if_pos (.inl hfree)] at hc
      exact ⟨hfree, hc⟩
  have hjob : (Machine.abortBase r s).job.running = false ∧ (Machine.abortBase r s).job.result = none := by
    have hr : s.job.running = false := by
      by_contra hr
      obtain ⟨hs, -⟩ := h.job.runs (by simpa using hr)
      rw [hd] at hs
      rcases hs with hs | hs | hs <;> cases hs
    obtain ⟨b, hb⟩ := f.job
    rw [hb]
    exact ⟨hr, h.job.idle hr⟩
  refine ⟨SongCore.of_empty hnolayer (fun q => ?_) ?_ ?_ (fun x => ?_) fun x entries left ht => ?_, .of_idle hjob.1 hjob.2, ?_⟩
  · cases hi : idle q with
    | true => rw [f.idled q hi]
    | false =>
      obtain ⟨b, hb⟩ := f.kept q hi
      rw [hb]
      by_cases hq : (s.recorder q).state = .idle
      · obtain ⟨h2, h3, h4⟩ := h.core.idle q hq
        show (_, _, _, _) = _
        rw [hq, h2, h3, h4]
        rfl
      · obtain ⟨hmem, hslot⟩ := h.core.listed q hq
        rw [hidle q (List.mem_cons_of_mem r hmem) hslot] at hi
        cases hi
  · rw [f.stack, List.filter_eq_nil_iff]
    intro x hx hgx
    have ha := h.core.stack x hx
    rw [hgone x (by simpa using hgx)] at ha
    cases ha
  · rw [f.redo, List.filter_eq_nil_iff]
    intro x hx hgx
    have hp := h.core.redo.2 x hx
    rw [hgone x (by simpa using hgx)] at hp
    cases hp
  · rw [f.buffer]
    split
    · rfl
    · next hx =>
      by_contra hb
      obtain ⟨ha, -⟩ := (h.core.buffers x).1.mp hb
      rw [hgone x (by simpa using hx)] at ha
      cases ha
  · rw [f.store] at ht
    obtain ⟨hs, hkeep⟩ := Option.filter_eq_some_iff.mp ht
    obtain ⟨-, b, hb, -⟩ := h.core.refill x entries left hs
    obtain ⟨ha, -⟩ := (h.core.buffers x).1.mp (by rw [hb]; nofun)
    have hany : (slotNumbers.any fun z => s.freedByAbort r z && ofLayer s z (.refill x entries)) = true :=
      List.any_eq_true.mpr ⟨x, mem_slotNumbers x, by simp [ofLayer, State.freedByAbort, ha]⟩
    simp [hany] at hkeep
  · refine ⟨fun _ => ?_, ?_, fun _ _ => hstate⟩
    · rw [abortBase_cues]
      exact ⟨rfl, rfl⟩
    · rw [abortBase_cues]
      exact ⟨nofun, nofun⟩

/-- UNDO acts on the newest take, or on a layer that no job holds. -/
theorem Song.applyUndo {s : State} (h : Song s) (hheld : takeInProgress s = false →
    ∀ x, s.table.stack.getLast? = some x → (s.layer x).held = false) : Song (applyUndo s) := by
  unfold Machine.applyUndo
  split
  · cases hr : newestTake s with
    | none => exact h
    | some r =>
      have hin := List.find?_some hr
      dsimp only at hin ⊢
      cases hx : (s.recorder r).slot with
      | none =>
        rw [hx] at hin
        cases hin
      | some x =>
        rw [hx] at hin
        have htail : (s.recorder r).tail = false := by
          rcases h.core.fits_cases r x hx with ⟨-, -, hl⟩ | ⟨ht, -⟩
          · dsimp only at hin
            rcases hl with hl | hl <;> rw [hl] at hin <;> cases hin
          · exact ht
        split
        · next hb => exact h.abortBase r (h.core.base r hb htail).1
        · unfold Machine.abortTake
          rw [hx]
          exact h.dropTake r x .aborted hx htail
  · next ht =>
    cases hl : s.table.stack.getLast? with
    | none => exact h
    | some x => exact h.parkLayer x (h.core.stack x (List.mem_of_getLast? hl)) (hheld (by simpa using ht) x hl)

/-! ## HALT -/

/-- No layer has a refill in flight or a buffer, and every layer cycle is 0. -/
theorem Song.haltBegun {s : State} (h : Song s) (hs : s.transport.state = .running ∨ s.transport.state = .priming) :
    Song s.haltBegun := by
  have hlayer := haltBegun_layer s
  have hfacts : ∀ x, (s.haltBegun.layer x).state = (s.layer x).state ∧ (s.haltBegun.layer x).multiple = (s.layer x).multiple ∧
      (s.haltBegun.layer x).held = (s.layer x).held := fun x => by
    rw [hlayer]
    split <;> exact ⟨rfl, rfl, rfl⟩
  have hbuffer : ∀ x, s.haltBegun.buffer x = none := fun x => by simp [State.buffer, State.haltBegun, State.playheadHalted]
  obtain ⟨hstack, hredo, -⟩ := haltBegun_lists s
  have hrest : s.haltBegun.transport.state = .halted ∧ s.haltBegun.takes = s.takes ∧ s.haltBegun.job = s.job ∧
      s.haltBegun.cues = s.cues ∧ s.haltBegun.lanes = s.lanes ∧
      s.haltBegun.store.transfer = s.store.transfer.filter fun x => !isRefill x.kind := ⟨rfl, rfl, rfl, rfl, rfl, rfl⟩
  obtain ⟨hstate, htakes, hjob, hcues, hlanes, htransfer⟩ := hrest
  have hrec : ∀ q, s.haltBegun.recorder q = s.recorder q := fun q => by unfold State.recorder; rw [htakes]
  generalize s.haltBegun = t at *
  refine ⟨⟨fun x hx => ?_, ⟨by rw [hredo]; exact h.core.redo.1, fun x hx => ?_⟩, ?_, ?_, fun q x hx => ?_, ?_, fun q hb ht => ?_,
    fun hi => ?_, fun x => ?_, fun x => ?_, fun x entries left ht => ?_⟩, ⟨?_, fun hj => ?_⟩, ⟨fun hi => ?_, ?_, fun l hl => ?_⟩⟩
  · rw [(hfacts x).1]
    exact h.core.stack x (hstack ▸ hx)
  · rw [(hfacts x).1]
    exact h.core.redo.2 x (hredo ▸ hx)
  · simpa only [hrec] using h.core.idle
  · simpa only [hrec, htakes] using h.core.listed
  · rw [hrec] at hx ⊢
    rw [(hfacts x).1]
    exact h.core.fits q x hx
  · simpa only [hrec] using h.core.named
  · rw [hrec] at hb ht
    obtain ⟨hd, -⟩ := h.core.base q hb ht
    rw [hd] at hs
    exact hs.elim nofun nofun
  · rw [hstate] at hi
    cases hi
  · have hc := h.core.cycles x
    obtain ⟨h1, h2, -⟩ := hfacts x
    unfold LayerRec.cycleSound at hc ⊢
    rw [h1, h2]
    split at hc
    · next hf =>
      rw [if_pos hf, hlayer, if_pos hf]
      exact hc
    · next hf =>
      obtain ⟨hm1, hm8, -⟩ := hc
      rw [if_neg hf, hlayer, if_neg hf]
      exact ⟨hm1, hm8, 0, rfl, by omega, fun _ => rfl⟩
  · have hstreams : t.transport.streams = false := by unfold Transport.streams; rw [hstate]; rfl
    rw [hbuffer, hstreams]
    exact ⟨⟨fun hn => absurd rfl hn, fun ha => nomatch ha.2⟩, nofun⟩
  · rw [htransfer] at ht
    obtain ⟨-, hkeep⟩ := Option.filter_eq_some_iff.mp ht
    simp [isRefill] at hkeep
  · rw [hjob]
    exact h.job.idle
  · rw [hjob] at hj ⊢
    obtain ⟨-, hsources, i, src, result, ha, hi, hr, hb, hm1, hm2⟩ := h.job.runs hj
    refine ⟨.inr (.inr hstate), fun y hy => ?_, i, src, result, ha, hi, hr, ?_, ?_, ?_⟩
    · obtain ⟨h1, -, h3⟩ := hfacts y.slot
      rw [h1, h3]
      exact hsources y hy
    · rw [(hfacts result).1]
      exact hb
    · rw [(hfacts src.slot).2.1]
      exact hm1
    · rw [(hfacts result).2.1]
      exact hm2
  · rw [hstate] at hi
    cases hi
  · rw [hcues]
    exact h.cues.waiting
  · have hidle := h.cues.armed l (by unfold State.lane at hl ⊢; rwa [← hlanes])
    rw [hidle] at hs
    exact hs.elim nofun nofun

theorem Song.cancelCues {s : State} (h : Song s) : Song (cancelCues s) := by
  have hemptied : Song (s.setCues ⟨[], []⟩) :=
    ⟨h.core.same rfl rfl rfl rfl rfl, h.job.congr rfl id fun _ _ => rfl, ⟨fun _ => ⟨rfl, rfl⟩, ⟨nofun, nofun⟩, h.cues.armed⟩⟩
  unfold Machine.cancelCues
  refine KeptByEvents.foldl (P := Song) (fun u e hu => ?_) _ _ hemptied
  unfold reportCancelled
  rw [raiseReport_eq_reported]
  exact hu.reported _ _

/-- Layers with other layer cycles and held flags. -/
theorem SongCore.relabel {s t : State} (h : SongCore s) (hstate : t.transport.state = s.transport.state)
    (hstack : t.table.stack = s.table.stack) (hredo : t.table.redo = s.table.redo) (htakes : t.takes = s.takes)
    (hstore : t.store = s.store) (hlayer : ∀ x, (t.layer x).state = (s.layer x).state)
    (hcycle : ∀ x, (t.layer x).cycleSound s.transport.state) : SongCore t := by
  have hrec : ∀ q, t.recorder q = s.recorder q := fun q => by unfold State.recorder; rw [htakes]
  have hbuffer : ∀ x, t.buffer x = s.buffer x := fun x => by unfold State.buffer; rw [hstore]
  have hstreams : t.transport.streams = s.transport.streams := by unfold Transport.streams; rw [hstate]
  constructor
  · simpa only [hstack, hlayer] using h.stack
  · simpa only [hredo, hlayer] using h.redo
  · simpa only [hrec] using h.idle
  · simpa only [hrec, htakes] using h.listed
  · simpa only [hrec, hlayer] using h.fits
  · simpa only [hrec] using h.named
  · simpa only [hrec, hstate] using h.base
  · simpa only [hrec, hstate, hlayer] using h.idleSong
  · simpa only [hstate] using hcycle
  · simpa only [hbuffer, hlayer, hstreams] using h.buffers
  · simpa only [hbuffer, hstore] using h.refill

theorem setHeld_layer (slots : List Slot) (held : Bool) (s : State) (x : Slot) :
    (setHeld slots held s).layer x = if slots.contains x then { s.layer x with held := held } else s.layer x := by
  simp [setHeld, mapLayers, State.layer]

theorem SongCore.setHeld {s : State} (h : SongCore s) (slots : List Slot) (held : Bool) : SongCore (setHeld slots held s) := by
  have hfields : (Machine.setHeld slots held s).transport = s.transport ∧ (Machine.setHeld slots held s).table.stack = s.table.stack ∧
      (Machine.setHeld slots held s).table.redo = s.table.redo ∧ (Machine.setHeld slots held s).takes = s.takes ∧
      (Machine.setHeld slots held s).store = s.store := by simp [Machine.setHeld, mapLayers]
  obtain ⟨h1, h2, h3, h4, h5⟩ := hfields
  have hlayer : ∀ x, ∃ b, (Machine.setHeld slots held s).layer x = { s.layer x with held := b } := fun x => by
    rw [setHeld_layer]
    split <;> exact ⟨_, rfl⟩
  generalize Machine.setHeld slots held s = t at *
  refine h.relabel (by rw [h1]) h2 h3 h4 h5 (fun x => ?_) fun x => ?_
  · obtain ⟨b, hb⟩ := hlayer x
    rw [hb]
  · obtain ⟨b, hb⟩ := hlayer x
    rw [hb]
    exact h.cycles x

/-- The abort of a running bounce. -/
theorem Song.abortBounce {s : State} (h : Song s) : Song (abortBounce s) := by
  unfold Machine.abortBounce
  cases hr : s.job.result with
  | none => exact h
  | some result =>
    have hrun : s.job.running = true := by
      by_contra hrun
      rw [h.job.idle (by simpa using hrun)] at hr
      cases hr
    obtain ⟨-, -, -, -, result', -, -, hr', hb, -⟩ := h.job.runs hrun
    obtain rfl := Option.some.inj (hr'.symm.trans hr)
    dsimp only
    unfold reportBounceEnd
    rw [raiseReport_eq_reported]
    have hended := h.endTransferIf isBounce
    have hlayers : ((Machine.endTransferIf isBounce s).layer result').state = .building := by
      obtain ⟨b, he⟩ := endTransferIf_isBounce s
      rw [he]
      exact hb
    generalize hu : Machine.endTransferIf isBounce s = u at hended hlayers ⊢
    have htold := hended.reported 31 (.bounceEnd .halted result' u.job.multiple (pageCount (u.layer result').extents) u.job.progress
      u.job.clips)
    generalize hv : u.reported 31 (.bounceEnd .halted result' u.job.multiple (pageCount (u.layer result').extents) u.job.progress
      u.job.clips) = v at htold ⊢
    have hbuilding : (v.layer result').state = .building := by
      rw [← hv, State.reported_eq]
      exact hlayers
    have hfreed : SongCore (Machine.freeLayer result' v) ∧ (Machine.freeLayer result' v).transport = v.transport ∧
        (Machine.freeLayer result' v).cues = v.cues ∧ (Machine.freeLayer result' v).lanes = v.lanes := by
      have hf := freeLayers_frame [result'] v
      refine ⟨htold.core.freeLayers [result'] fun x hx => ?_, hf.1, hf.2.1, hf.2.2.1⟩
      rw [List.mem_singleton.mp hx, hbuilding]
      exact ⟨nofun, nofun⟩
    obtain ⟨hcore, htransport, hcues, hlanes⟩ := hfreed
    have hheld := hcore.setHeld (s.job.sources.map Source.slot) false
    have hsetHeld := setHeld_frame (s.job.sources.map Source.slot) false (Machine.freeLayer result' v)
    generalize Machine.setHeld (s.job.sources.map Source.slot) false (Machine.freeLayer result' v) = w at hheld hsetHeld ⊢
    exact ⟨hheld.same rfl rfl rfl rfl rfl, .of_idle rfl rfl,
      htold.cues.same (congrArg Transport.state (hsetHeld.1.trans htransport)) (hsetHeld.2.1.trans hcues)
        (hsetHeld.2.2.1.trans hlanes)⟩

theorem Song.setOpenOrders {s : State} (h : Song s) (n : Nat) : Song (s.setOpenOrders n) := h.same rfl rfl rfl rfl rfl rfl rfl rfl

theorem openOrder_state {α : Type} (xs : List α) (s : State) : ∃ n, (openOrder xs s).2 = s.setOpenOrders n := ⟨_, openOrder_snd xs s⟩

theorem Song.openOrder {α : Type} {s : State} (h : Song s) (xs : List α) : Song (openOrder xs s).2 := by
  obtain ⟨n, hn⟩ := openOrder_state xs s
  rw [hn]
  exact h.setOpenOrders n

/-- A block takes the halt notice. -/
theorem Song.takeHalt {s : State} (h : Song s) (b : HaltBlock) : Song (takeHalt s b) := by
  cases b with
  | cues => exact h.cancelCues
  | bounce => exact h.abortBounce
  | recorders =>
    refine Song.endTakes .halted _ (h.openOrder (haltedTakes s)) fun q hq => ?_
    have hmem := List.mem_filter.mp ((openOrder_perm (haltedTakes s) s).mem_iff.mp hq)
    obtain ⟨n, hn⟩ := openOrder_state (haltedTakes s) s
    rw [hn]
    exact h.plain_of_stoppable q hmem.2

theorem Song.applyHalt {s : State} (h : Song s) (hs : s.transport.state = .running ∨ s.transport.state = .priming) :
    Song (applyHalt s) := by
  rw [applyHalt_eq]
  exact KeptByEvents.foldl (P := Song) (fun _ b hu => hu.takeHalt b) _ _ ((h.haltBegun hs).openOrder _)

end Sys2Proof.Machine
end

section
/-! SUPPORT. The song through the admission of takes and through cues that fire. -/

namespace Sys2Proof.Machine

/-! ## The admission of a take -/

/-- An idle recorder and a FREE layer begin a take. -/
theorem Song.takeBegun {s t : State} (h : Song s) (r : Recorder) (x : Slot) (m : Nat) (base : Bool)
    (hx : (s.layer x).state = .free) (hm : 1 ≤ m ∧ m ≤ 8) (hactive : s.transport.state ≠ .idle)
    (hbase : base = true → s.transport.state = .defining ∧ ∀ q, ¬((s.recorder q).base = true ∧ (s.recorder q).tail = false))
    (hstate : t.transport.state = s.transport.state) (hlayer : (t.layer x).core = (.recording, m, some 0, false))
    (hlayers : ∀ y, y ≠ x → (t.layer y).core = (s.layer y).core)
    (hlists : t.table.stack = s.table.stack ∧ t.table.redo = s.table.redo)
    (hrec : (t.recorder r).core = (.recording, some x, base, false)) (hrecs : ∀ q, q ≠ r → (t.recorder q).core = (s.recorder q).core)
    (horder : t.takes.order = s.takes.order ++ [r]) (hbuffers : t.store.buffers = s.store.buffers)
    (htransfer : t.store.transfer = s.store.transfer) (hjob : t.job.core = s.job.core) (hcues : t.cues = s.cues)
    (hlanes : t.lanes = s.lanes) : Song t := by
  let u : State := (s.setTable t.table).setStore t.store
  have hu : ∀ y, u.layer y = t.layer y := fun _ => rfl
  have hbuffer : ∀ y, u.buffer y = s.buffer y := fun y => by
    show t.store.buffers[y.val] = s.store.buffers[y.val]
    rw [hbuffers]
  have hinactive : (s.layer x).state ≠ .active := by rw [hx]; nofun
  have hunnamed : ∀ q, (s.recorder q).slot ≠ some x := fun q hq => by
    rcases h.core.fits_cases q x hq with ⟨-, -, hl⟩ | ⟨-, hl⟩ <;> rw [hx] at hl <;> exact hl.elim nofun nofun
  have hcore := hlayer
  simp only [LayerRec.core, RecorderRec.core, Prod.mk.injEq] at hcore hrec
  obtain ⟨hl1, hl2, hl3, -⟩ := hcore
  obtain ⟨hr1, hr2, hr3, hr4⟩ := hrec
  have hbegun : SongCore u := by
    refine h.core.setLayer x rfl hlayers (fun _ => rfl) rfl (fun y hy => .inl ?_) ⟨?_, fun y hy => .inl ?_⟩
      (fun q hq => absurd hq (hunnamed q)) hactive ?_ ⟨?_, ?_⟩ (fun y _ => hbuffer y) fun y entries left ht => ?_
    · have hmem : y ∈ s.table.stack := hlists.1 ▸ hy
      exact ⟨fun hyx => hinactive (hyx ▸ h.core.stack y hmem), hmem⟩
    · exact hlists.2 ▸ h.core.redo.1
    · have hmem : y ∈ s.table.redo := hlists.2 ▸ hy
      refine ⟨fun hyx => ?_, hmem⟩
      have hp := h.core.redo.2 y hmem
      rw [hyx, hx] at hp
      cases hp
    · rw [hu]
      unfold LayerRec.cycleSound
      rw [if_neg (by rw [hl1]; nofun), hl2, hl3]
      exact ⟨hm.1, hm.2, 0, rfl, hm.1, fun _ => rfl⟩
    · rw [hbuffer, hu, hl1, (h.core.buffers x).1]
      exact ⟨fun ha => absurd ha.1 hinactive, fun ha => nomatch ha.1⟩
    · rw [hbuffer]
      exact (h.core.buffers x).2
    · have ht' : s.store.transfer = some ⟨.refill y entries, left⟩ := htransfer ▸ ht
      exact ⟨h.core.refill_ne x hinactive y entries left ht', ht'⟩
  refine ⟨hbegun.setRecorder r x hstate rfl rfl hrecs ⟨?_, fun q hq _ => ?_⟩ hr2 (by rw [hr1]; nofun) ?_
    (fun q _ => hunnamed q) hactive fun hb _ => ?_, h.job.congr hjob (by rw [hstate]; exact id) fun y hy => ?_,
    h.cues.same hstate hcues hlanes⟩
  · rw [horder]
    exact List.mem_append_right _ (List.mem_singleton_self r)
  · rw [horder]
    exact List.mem_append_left _ hq
  · unfold RecorderRec.fits
    rw [if_neg (by rw [hr4]; nofun), hu, hl1]
    exact .inl rfl
  · obtain ⟨hd, hno⟩ := hbase (hr3 ▸ hb)
    exact ⟨hd, fun q _ => hno q⟩
  · refine hlayers y ?_
    rintro rfl
    rw [hx] at hy
    exact hy.elim (fun ha => nomatch ha.1) nofun

/-- What an admission leaves: the recorder and the layer of the take, and perhaps a page less in the pool. -/
theorem admitWith_fields (r : Recorder) (x : Slot) (lane : Lane) (m : Nat) (g : Group) (base : Bool) (start : Nat) (s : State) :
    ∃ l : LayerRec, ∃ pool : List Nat, l.core = (.recording, m, some 0, false) ∧
      admitWith r x lane m g base start s =
        ((s.setTakes { recs := s.takes.recs.set r.val (takeRecorder lane x base), order := s.takes.order ++ [r] }).setLayer x
          l).setStore { s.store with pool := pool } := by
  unfold admitWith
  dsimp only
  split
  · next u hu =>
    unfold acquirePage at hu
    split at hu
    · cases hu
    · split at hu
      · cases hu
      · next rest _ _ extents _ =>
        cases hu
        refine ⟨{ takeLayer s lane m g start with extents := extents }, rest, rfl, ?_⟩
        refine State.eq_of_fields rfl ?_ rfl rfl rfl rfl rfl rfl rfl rfl rfl rfl rfl
        simp only [State.setStore_table, State.setLayer_layer_self]
        simp [State.setLayer, takeLayer, State.lane]
  · exact ⟨takeLayer s lane m g start, s.store.pool, rfl, rfl⟩

theorem findSlot_some {s : State} {test : LayerRec → Bool} {x : Slot} (h : findSlot s test = some x) : test (s.layer x) = true :=
  List.find?_some (p := fun x => test (s.layer x)) h

/-- A START_TAKE that is admitted, or finds no room. -/
theorem Song.admitTake {s : State} (h : Song s) (lane : Lane) (m : Nat) (g : Group) (start : Nat) (hm : 1 ≤ m ∧ m ≤ 8)
    (hactive : s.transport.state ≠ .idle) : Song (admitTake lane m g false start s) := by
  have hreleased := h.releaseRedo
  have hstate : (Machine.releaseRedo s).transport = s.transport := (freeLayers_frame s.table.redo s).1
  unfold Machine.admitTake
  dsimp only
  split
  · next r x hr hx =>
    have hfree : ((Machine.releaseRedo s).layer x).state = .free := by simpa using findSlot_some hx
    obtain ⟨l, pool, hl, he⟩ := admitWith_fields r x lane m g false start (Machine.releaseRedo s)
    rw [he]
    generalize Machine.releaseRedo s = u at hreleased hstate hfree ⊢
    refine hreleased.takeBegun r x m false hfree hm (by rw [hstate]; exact hactive) nofun rfl ?_ (fun y hy => ?_) ⟨rfl, rfl⟩ ?_
      (fun q hq => ?_) rfl rfl rfl rfl rfl rfl
    · show (State.layer (State.setLayer _ x l) x).core = _
      rw [State.setLayer_layer, if_pos rfl, hl]
    · show (State.layer (State.setLayer _ x l) y).core = _
      rw [State.setLayer_layer, if_neg hy]
      rfl
    · show (State.recorder (u.setRecorder r (takeRecorder lane x false)) r).core = _
      rw [State.setRecorder_recorder, if_pos rfl]
      rfl
    · show (State.recorder (u.setRecorder r (takeRecorder lane x false)) q).core = _
      rw [State.setRecorder_recorder, if_neg hq]
  · exact hreleased

/-! ## The effects of cues -/

/-- An UNDO that may act without a take finds a layer that no job holds. -/
theorem held_of_undo_ok {s : State} {p1 p2 : Byte} (h : (cueResult .undo p1 p2 s).1 = .ok) (ht : takeInProgress s = false) (x : Slot)
    (hx : s.table.stack.getLast? = some x) : (s.layer x).held = false := by
  have hi : s.transport.state ≠ .idle := fun hi => by
    have := stateRefusal_of_ok h
    simp [stateRefusal, hi] at this
  rw [cueResult_undo_stack s p1 p2 hi ht, hx] at h
  dsimp only at h
  by_contra hh
  rw [if_pos (by simpa using hh)] at h
  cases h

/-- What STOP_TAKE stops may be stopped. -/
theorem stoppable_of_stopTarget {s : State} {p : Byte} {r : Recorder} (h : stopTarget s p = some r) :
    stoppable (s.recorder r) = true := by
  unfold stopTarget at h
  split at h
  · exact List.find?_some (p := fun r => stoppable (s.recorder r)) h
  · split at h
    · next hs =>
      obtain rfl := Option.some.inj h
      exact hs
    · cases h

theorem Song.applyQueued {s : State} (h : Song s) (kind : CueKind) (p1 p2 p3 : Byte) (hok : (cueResult kind p1 p2 s).1 = .ok)
    (hp : paramsInRange kind p1 p2 p3 = true) : Song (applyQueued kind p1 p2 p3 s) := by
  cases kind with
  | startTake =>
    simp only [paramsInRange, Bool.and_eq_true, decide_eq_true_eq] at hp
    refine h.admitTake _ _ _ _ ⟨hp.1.1.2, hp.1.2⟩ fun hi => ?_
    have hm := startTake_moves_of_ok hok
    simp [Transport.moves, hi] at hm
  | stopTake =>
    unfold Machine.applyQueued
    dsimp only
    split
    · exact h
    · next r hr => exact h.endTake .stopped r (h.plain_of_stoppable r (stoppable_of_stopTarget hr)).1
  | mute => exact h.applyMute true p1 p2
  | unmute => exact h.applyMute false p1 p2
  | undo => exact h.applyUndo (held_of_undo_ok hok)
  | redo => exact h.applyRedo
  | halt => exact h.applyHalt (halt_state_of_ok hok)
  | startBase => exact h
  | closeBase => exact h
  | play => exact h

/-! ## Firing -/

theorem Song.fireEntry {s : State} (h : Song s) (e : CueEntry) (he : paramsInRange e.kind e.p1 e.p2 e.p3 = true) :
    Song (fireEntry e s) := by
  unfold Machine.fireEntry
  dsimp only
  rw [raiseReport_eq_reported]
  have hreported := h.reported 31 (.cueFired e.tag e.kind (cueResult e.kind e.p1 e.p2 s).1 (cueResult e.kind e.p1 e.p2 s).2)
  split
  · next hok =>
    refine hreported.applyQueued _ _ _ _ ?_ he
    rw [State.reported_eq, cueResult_setLink]
    exact hok
  · exact hreported

/-- An entry that may wait in the cycle queue. -/
def CueEntry.waitsCycle (e : CueEntry) : Prop :=
  quantAllowed e.kind (.wait .cycle) = true ∧ paramsInRange e.kind e.p1 e.p2 e.p3 = true

/-- An entry that may wait in the beat queue. -/
def CueEntry.waitsBeat (e : CueEntry) : Prop :=
  quantAllowed e.kind (.wait .beat) = true ∧ paramsInRange e.kind e.p1 e.p2 e.p3 = true ∧ e.target = none

/-- Queues with other entries that may wait, while there is a song. -/
theorem Song.setCues {s : State} (h : Song s) (cues : CueQueues)
    (hempty : s.transport.state = .idle → cues.cycle = [] ∧ cues.beat = []) (hcycle : ∀ e ∈ cues.cycle, e.waitsCycle)
    (hbeat : ∀ e ∈ cues.beat, e.waitsBeat) : Song (s.setCues cues) :=
  ⟨h.core.same rfl rfl rfl rfl rfl, h.job.congr rfl id fun _ _ => rfl, ⟨hempty, ⟨hcycle, hbeat⟩, h.cues.armed⟩⟩

theorem Song.walkCycle (b : Boundary) (rest : List CueEntry) : ∀ {s : State} (kept : List CueEntry), Song s →
    s.transport.state ≠ .idle → (∀ e ∈ kept ++ rest, e.waitsCycle) → Song (walkCycle b kept rest s) := by
  induction rest with
  | nil => exact fun _ h _ _ => h
  | cons e rest ih =>
    intro s kept h hi hwait
    unfold Machine.walkCycle
    split
    · have hleft : ∀ x ∈ kept ++ rest, x.waitsCycle := fun x hx => hwait x (by
        rcases List.mem_append.mp hx with hx | hx
        · exact List.mem_append_left _ hx
        · exact List.mem_append_right _ (List.mem_cons_of_mem e hx))
      have hfired : Song (Machine.fireEntry e (s.setCues { s.cues with cycle := kept ++ rest })) :=
        (h.setCues ⟨kept ++ rest, s.cues.beat⟩ (fun hs => absurd hs hi) hleft h.cues.waiting.2).fireEntry e
          (hwait e (List.mem_append_right _ List.mem_cons_self)).2
      dsimp only
      split
      · exact hfired
      · next hne => exact ih kept hfired (fun hs => hne (hfired.cues.idle hs).1) hleft
    · exact ih (kept ++ [e]) h hi (by simpa using hwait)

theorem Song.fireBeats (rest : List CueEntry) : ∀ {s : State}, Song s → s.transport.state ≠ .idle ∨ rest = [] →
    (∀ e ∈ rest, e.waitsBeat) → Song (fireBeats rest s) := by
  induction rest with
  | nil => exact fun h _ _ => h
  | cons e rest ih =>
    intro s h hi hwait
    have hleft : ∀ x ∈ rest, x.waitsBeat := fun x hx => hwait x (List.mem_cons_of_mem e hx)
    have hfired : Song (Machine.fireEntry e (s.setCues { s.cues with beat := rest })) :=
      (h.setCues ⟨s.cues.cycle, rest⟩ (fun hs => absurd hs (hi.resolve_right nofun)) h.cues.waiting.1 hleft).fireEntry e (hwait e List.mem_cons_self).2.1
    unfold Machine.fireBeats
    dsimp only
    split
    · exact hfired
    · next hne => exact ih hfired (.inl fun hs => hne (hfired.cues.idle hs).2) hleft

theorem Song.cuesTake {s : State} (h : Song s) (b : Boundary) : Song (cuesTake b s) := by
  have hbeats : ∀ {u : State}, Song u → Song (Machine.fireBeats u.cues.beat u) := fun {u} hu => by
    refine Song.fireBeats _ hu ?_ hu.cues.waiting.2
    by_cases hi : u.transport.state = .idle
    · exact .inr (hu.cues.idle hi).2
    · exact .inl hi
  have hwalked : Song (if b.beat = 0 then Machine.walkCycle b [] s.cues.cycle s else s) := by
    split
    · by_cases hi : s.transport.state = .idle
      · rw [(h.cues.idle hi).1]
        exact h
      · exact Song.walkCycle b _ [] h hi h.cues.waiting.1
    · exact h
  unfold Machine.cuesTake
  exact hbeats hwalked

end Sys2Proof.Machine
end

section
/-! SUPPORT. The song through boundaries, the closure of the base take, and the cues that do not wait. -/

namespace Sys2Proof.Machine

/-! ## Boundaries -/

theorem advanceCycles_layer (skip : Option Slot) (s : State) (x : Slot) :
    (advanceCycles skip s).layer x = if skip = some x then s.layer x else (s.layer x).advanced := by
  simp [advanceCycles, mapLayers, State.layer]

theorem LayerRec.advanced_fields (l : LayerRec) :
    l.advanced.state = l.state ∧ l.advanced.multiple = l.multiple ∧ l.advanced.held = l.held := by
  unfold advanced
  split <;> exact ⟨rfl, rfl, rfl⟩

/-- While the playhead moves a layer cycle may advance. -/
theorem LayerRec.cycleSound_advanced (l : LayerRec) (x : TState) (hx : x = .running ∨ x = .defining) (h : l.cycleSound x) :
    l.advanced.cycleSound x := by
  by_cases hf : l.state = .free ∨ l.state = .building
  · have hsame : l.advanced = l := if_neg (by rw [cycles_iff]; exact not_not.mpr hf)
    rwa [hsame]
  · have hnext : l.advanced = { l with k := l.k.map fun k => (k + 1) % l.multiple } := if_pos ((cycles_iff _).mpr hf)
    unfold cycleSound at h
    rw [if_neg hf] at h
    obtain ⟨h1, h8, k, hk, hlt, -⟩ := h
    rw [hnext]
    unfold cycleSound
    rw [if_neg hf, hk]
    refine ⟨h1, h8, (k + 1) % l.multiple, rfl, Nat.mod_lt _ h1, fun hs => ?_⟩
    rcases hx with rfl | rfl <;> exact hs.elim nofun nofun

theorem state_of_moves {t : Transport} (h : t.moves = true) : t.state = .running ∨ t.state = .defining :=
  ((moves_iff t).mp h).imp id fun hd => hd.1

theorem Song.advanceCycles {s : State} (h : Song s) (skip : Option Slot)
    (hs : s.transport.state = .running ∨ s.transport.state = .defining) : Song (advanceCycles skip s) := by
  have hlayer := advanceCycles_layer skip s
  have hfields : ∀ x, ((Machine.advanceCycles skip s).layer x).state = (s.layer x).state ∧
      ((Machine.advanceCycles skip s).layer x).multiple = (s.layer x).multiple ∧
      ((Machine.advanceCycles skip s).layer x).held = (s.layer x).held := fun x => by
    rw [hlayer]
    split
    · exact ⟨rfl, rfl, rfl⟩
    · exact (s.layer x).advanced_fields
  have hcycle : ∀ x, ((Machine.advanceCycles skip s).layer x).cycleSound s.transport.state := fun x => by
    rw [hlayer]
    split
    · exact h.core.cycles x
    · exact (s.layer x).cycleSound_advanced _ hs (h.core.cycles x)
  have htable : (Machine.advanceCycles skip s).table.stack = s.table.stack ∧
      (Machine.advanceCycles skip s).table.redo = s.table.redo := by
    rw [advanceCycles_table]
    exact ⟨rfl, rfl⟩
  obtain ⟨htransport, hcues, hlanes, htakes, hstore, -, -, hjob, -⟩ := advanceCycles_frame skip s
  generalize Machine.advanceCycles skip s = t at *
  exact ⟨h.core.relabel (by rw [htransport]) htable.1 htable.2 htakes hstore (fun x => (hfields x).1) hcycle,
    h.job.relabel (by rw [hjob]) (by rw [htransport]; exact id) fun x _ => hfields x,
    h.cues.same (by rw [htransport]) hcues hlanes⟩

theorem pulseAt_state (beat : Nat) (s : State) : (pulseAt beat s).transport.state = s.transport.state := by
  unfold pulseAt
  split
  · rfl
  · split <;> rfl
  · rfl

theorem Song.boundaryBegun {s : State} (h : Song s) (beat : Nat) : Song (pulseAt beat (startBurst beat s)) := by
  have hp := pulseAt_frame beat (startBurst beat s)
  have hb := startBurst_frame beat s
  exact h.same ((pulseAt_state beat _).trans (congrArg Transport.state hb.1)) (by rw [hp.1, hb.2.1]) (by rw [hp.2.1, hb.2.2.1])
    (by simp) (by simp) (by simp) (by simp) (by simp)

theorem Song.linkTakes {s : State} (h : Song s) (b : Boundary) : Song (linkTakes b s) :=
  h.same (by simp) (by simp) (by simp) (by simp) (by simp) (by simp) (by simp) (by simp)

theorem Song.raiseBoundary {s : State} (h : Song s) (beat : Nat) (freeClosure : Bool) (skip : Option Slot)
    (hs : s.transport.state = .running ∨ s.transport.state = .defining) : Song (raiseBoundary beat freeClosure skip s) := by
  have hadvanced : Song (if beat = 0 then Machine.advanceCycles skip s else s) := by
    split
    · exact h.advanceCycles skip hs
    · exact h
  unfold Machine.raiseBoundary
  dsimp only
  refine KeptByEvents.foldl (P := Song) (fun u r hu => ?_) _ _ ((hadvanced.boundaryBegun beat).openOrder _)
  cases r with
  | link => exact hu.linkTakes _
  | cues => exact hu.cuesTake _

/-! ## The closure of the base take -/

/-- A closure takes the transport from DEFINING into RUNNING, where no base take runs any more. -/
theorem Song.running {s t : State} (h : Song s) (hd : s.transport.state = .defining) (hstate : t.transport.state = .running)
    (hbase : ∀ q, ¬((s.recorder q).base = true ∧ (s.recorder q).tail = false)) (htable : t.table = s.table)
    (hcues : t.cues = s.cues) (hlanes : t.lanes = s.lanes) (htakes : t.takes = s.takes) (hstore : t.store = s.store)
    (hjob : t.job = s.job) : Song t := by
  have hidle : s.job.running = false := by
    by_contra hr
    obtain ⟨hs, -⟩ := h.job.runs (by simpa using hr)
    rw [hd] at hs
    rcases hs with hs | hs | hs <;> cases hs
  refine ⟨h.core.setState htable htakes hstore (by rw [hstate]; nofun) (fun q hb ht => absurd ⟨hb, ht⟩ (hbase q))
    (by unfold Transport.streams; rw [hstate, hd]; rfl) (by rw [hstate]; nofun),
    .of_idle (by rw [hjob]; exact hidle) (by rw [hjob]; exact h.job.idle hidle), ⟨by rw [hstate]; nofun, ?_, fun l hl => ?_⟩⟩
  · rw [hcues]
    exact h.cues.waiting
  · have harmed := h.cues.armed l (by unfold State.lane at hl ⊢; rwa [← hlanes])
    rw [hd] at harmed
    cases harmed

theorem baseJoined_layer (s : State) (r : Recorder) (x y : Slot) (m : Nat) :
    (s.baseJoined r x m).layer y =
      if y = x then closedBase { s.layer x with lost := (s.layer x).lostIn (s.recorder r) } m else s.layer y :=
  State.setLayer_layer s x y _

theorem baseJoined_buffer (s : State) (r : Recorder) (x y : Slot) (m : Nat) :
    (s.baseJoined r x m).buffer y =
      if y = x then some ⟨headEntries (s.recorder r) (s.layer x), true, false⟩ else s.buffer y :=
  State.setBuffer_buffer s x y _

/-- The base recorder at the closure is back in IDLE, or in the tail drain. -/
theorem baseJoined_takes (s : State) (r : Recorder) (x : Slot) (m : Nat) :
    (s.baseJoined r x m).takes = (resetRecorder r s).takes ∨
      ∃ q : RecorderRec, q.core = (.closing, (s.recorder r).slot, (s.recorder r).base, true) ∧
        (s.baseJoined r x m).takes = { s.takes with recs := s.takes.recs.set r.val q } := by
  unfold State.baseJoined
  dsimp only
  split
  · exact .inl rfl
  · exact .inr ⟨_, rfl, rfl⟩

/-- The base layer joins the stack. -/
theorem Song.baseJoined {s : State} (h : Song s) (r : Recorder) (x : Slot) (m : Nat) (hm : 1 ≤ m ∧ m ≤ 8)
    (hr : (s.recorder r).slot = some x) (hb : (s.recorder r).base = true) (ht : (s.recorder r).tail = false) (t : Transport)
    (hrun : t.state = .running) : Song ((s.setTransport t).baseJoined r x m) := by
  obtain ⟨hd, huniq⟩ := h.core.base r hb ht
  have hlayer := h.core.inTake r x hr ht
  have hreset := h.resetRecorder r
  have hrecs : ∀ q, (Machine.resetRecorder r s).recorder q = if q = r then RecorderRec.idle else s.recorder q := fun q =>
    resetRecorder_recorder r q s
  have hopen : Song ((Machine.resetRecorder r s).setTransport t) := by
    refine hreset.running hd hrun (fun q hq => ?_) rfl rfl rfl rfl rfl rfl
    rw [hrecs] at hq
    split at hq
    · exact nomatch hq.1
    · next hqr => exact hqr (huniq q hq.1 hq.2)
  have hinactive : (s.layer x).state ≠ .active := by rcases hlayer with hl | hl <;> rw [hl] <;> nofun
  have hunnamed : ∀ q, ((Machine.resetRecorder r s).recorder q).slot ≠ some x := fun q hq => by
    rw [hrecs] at hq
    split at hq
    · cases hq
    · next hqr => exact hqr (h.core.named q r x hq hr)
  have hl := fun y => baseJoined_layer (s.setTransport t) r x y m
  have hbuf := fun y => baseJoined_buffer (s.setTransport t) r x y m
  have htakes := baseJoined_takes (s.setTransport t) r x m
  have hrest : ((s.setTransport t).baseJoined r x m).transport = t ∧ ((s.setTransport t).baseJoined r x m).cues = s.cues ∧
      ((s.setTransport t).baseJoined r x m).lanes = s.lanes ∧ ((s.setTransport t).baseJoined r x m).job = s.job ∧
      ((s.setTransport t).baseJoined r x m).table.stack = s.table.stack ++ [x] ∧
      ((s.setTransport t).baseJoined r x m).table.redo = s.table.redo ∧
      ((s.setTransport t).baseJoined r x m).store.transfer = s.store.transfer := ⟨rfl, rfl, rfl, rfl, rfl, rfl, rfl⟩
  obtain ⟨htransport, hcues, hlanes, hjob, hstack, hredo, htransfer⟩ := hrest
  generalize (s.setTransport t).baseJoined r x m = u at *
  have hself : (u.layer x).state = .active ∧ (u.layer x).multiple = m ∧ (u.layer x).k = some 0 := by
    rw [hl, if_pos rfl]
    exact ⟨rfl, rfl, rfl⟩
  obtain ⟨hactive, hmultiple, hk⟩ := hself
  have hother : ∀ y, y ≠ x → u.layer y = s.layer y := fun y hy => by
    rw [hl, if_neg hy]
    rfl
  let v : State := u.setTakes (Machine.resetRecorder r s).takes
  have hcore : SongCore v := by
    refine hopen.core.setLayer x (congrArg Transport.state htransport) (fun y hy => congrArg LayerRec.core (hother y hy)) (fun _ => rfl)
      rfl (fun y hy => ?_) ⟨?_, fun y hy => .inl ?_⟩ (fun q hq => absurd hq (hunnamed q)) ?_ ?_ ⟨?_, fun b hb' => ?_⟩ (fun y hy => ?_)
      fun y entries left ht' => ?_
    · have hy' : y ∈ s.table.stack ++ [x] := hstack ▸ hy
      rcases List.mem_append.mp hy' with hy' | hy'
      · exact .inl ⟨fun hyx => hinactive (hyx ▸ h.core.stack y hy'), hy'⟩
      · exact .inr ⟨List.mem_singleton.mp hy', hactive⟩
    · exact hredo ▸ h.core.redo.1
    · have hy' : y ∈ s.table.redo := hredo ▸ hy
      refine ⟨fun hyx => ?_, hy'⟩
      have hp := h.core.redo.2 y hy'
      rw [hyx] at hp
      rw [hp] at hlayer
      exact hlayer.elim nofun nofun
    · show t.state ≠ .idle
      rw [hrun]
      nofun
    · show (u.layer x).cycleSound t.state
      unfold LayerRec.cycleSound
      rw [if_neg (by rw [hactive]; nofun), hmultiple, hk]
      exact ⟨hm.1, hm.2, 0, rfl, hm.1, fun _ => rfl⟩
    · show u.buffer x ≠ none ↔ (u.layer x).state = .active ∧ t.streams = true
      rw [hbuf, if_pos rfl]
      exact ⟨fun _ => ⟨hactive, by unfold Transport.streams; rw [hrun]; rfl⟩, nofun⟩
    · have hb'' : u.buffer x = some b := hb'
      rw [hbuf, if_pos rfl] at hb''
      obtain rfl := Option.some.inj hb''
      simp [headEntries]
    · show u.buffer y = _
      rw [hbuf, if_neg hy]
      rfl
    · have ht'' : s.store.transfer = some ⟨.refill y entries, left⟩ := htransfer ▸ ht'
      exact ⟨h.core.refill_ne x hinactive y entries left ht'', ht''⟩
  have hsong : SongCore u := by
    rcases htakes with htakes | ⟨p, hp, htakes⟩
    · refine hcore.congr rfl rfl rfl ?_ (fun _ => rfl) (fun q => ?_) (fun _ => rfl) hcore.refill
      · rw [htakes]
        rfl
      · unfold State.recorder
        rw [htakes]
        rfl
    · have hrec : ∀ q, u.recorder q = if q = r then p else s.recorder q := fun q => by
        unfold State.recorder
        rw [htakes]
        exact State.setRecorder_recorder s r q p
      have hself : u.recorder r = p := by rw [hrec, if_pos rfl]
      have hp' := hp
      simp only [RecorderRec.core, Prod.mk.injEq] at hp'
      obtain ⟨hp1, hp2, -, hp4⟩ := hp'
      refine hcore.setRecorder r x rfl rfl rfl (fun q hq => ?_) ⟨?_, fun q hq _ => ?_⟩ ?_ ?_ ?_ (fun q _ => hunnamed q) ?_
        fun _ htail => ?_
      · rw [hrec, if_neg hq]
        show _ = ((Machine.resetRecorder r s).recorder q).core
        rw [hrecs, if_neg hq]
      · rw [htakes]
        exact (h.core.listed r fun hi => by rw [(h.core.idle r hi).1] at hr; cases hr).1
      · rw [htakes]
        exact (List.mem_filter.mp hq).1
      · rw [hself, hp2]
        exact hr
      · rw [hself, hp1]
        nofun
      · rw [hself]
        unfold RecorderRec.fits
        rw [if_pos hp4]
        exact ⟨hp1, .inl hactive⟩
      · show u.transport.state ≠ .idle
        rw [htransport, hrun]
        nofun
      · rw [hself, hp4] at htail
        cases htail
  exact ⟨hsong, hopen.job.congr (congrArg Job.core hjob) (by rw [htransport]; exact id) fun y hy => by
      rw [hother y]
      · rfl
      · rintro rfl
        have hy' : ((s.layer y).state = .active ∧ (s.layer y).held = true) ∨ (s.layer y).state = .building := hy
        rcases hlayer with hs | hs <;> rw [hs] at hy' <;> exact hy'.elim (fun ha => nomatch ha.1) nofun,
    hopen.cues.same (congrArg Transport.state htransport) hcues hlanes⟩

theorem baseRecorder_some {s : State} {r : Recorder} (h : baseRecorder s = some r) :
    (s.recorder r).base = true ∧ (s.recorder r).tail = false := by
  simpa using List.find?_some h

theorem baseRecorder_none {s : State} (h : baseRecorder s = none) (q : Recorder) :
    ¬((s.recorder q).base = true ∧ (s.recorder q).tail = false) := by
  simpa using List.find?_eq_none.mp h q (mem_recorderNumbers q)

theorem Song.closure {s : State} (h : Song s) (m length : Nat) (hm : 1 ≤ m ∧ m ≤ 8) (hd : s.transport.state = .defining) :
    Song (closure m length s) := by
  have hrun : ∀ {u : State}, u.transport = s.transport.enterClosed length →
      u.transport.state = .running ∨ u.transport.state = .defining := fun hu => .inl (by rw [hu]; rfl)
  unfold Machine.closure
  dsimp only
  cases hr : baseRecorder (s.setTransport (s.transport.enterClosed length)) with
  | none =>
    have hno : ∀ q, ¬((s.recorder q).base = true ∧ (s.recorder q).tail = false) := baseRecorder_none hr
    have hopen : Song (s.setTransport (s.transport.enterClosed length)) := h.running hd rfl hno rfl rfl rfl rfl rfl rfl
    exact hopen.raiseBoundary _ _ _ (hrun rfl)
  | some r =>
    have hbase : (s.recorder r).base = true ∧ (s.recorder r).tail = false := baseRecorder_some hr
    cases hx : ((s.setTransport (s.transport.enterClosed length)).recorder r).slot with
    | none =>
      have hslot : (s.recorder r).slot = none := hx
      have hidle : (s.recorder r).state = .idle := by
        by_contra hi
        exact (h.core.listed r hi).2 hslot
      rw [(h.core.idle r hidle).2.1] at hbase
      cases hbase.1
    | some x =>
      have hjoined := h.baseJoined r x m hm hx hbase.1 hbase.2 (s.transport.enterClosed length) rfl
      have hclosed : Song (closeBaseTake m r x (s.setTransport (s.transport.enterClosed length))) := by
        rw [closeBaseTake_eq]
        exact hjoined.reported _ _
      dsimp only
      rw [hx]
      refine hclosed.raiseBoundary _ _ _ (hrun ?_)
      rw [closeBaseTake_eq, State.reported_eq]
      rfl

/-! ## The wrap and the beat -/

theorem Song.setTransport {s : State} (h : Song s) (t : Transport) (ht : t.state = s.transport.state) : Song (s.setTransport t) :=
  h.same ht rfl rfl rfl rfl rfl rfl rfl

theorem Song.wrapCycle {s : State} (h : Song s) (hm : s.transport.moves = true) (hc : s.transport.cyclesRecorded ≤ 7) :
    Song (wrapCycle s) := by
  have hs := state_of_moves hm
  unfold Machine.wrapCycle
  dsimp only
  split
  · next hd =>
    split
    · refine Song.closure ?_ _ _ ⟨Nat.le_add_left _ _, Nat.succ_le_succ hc⟩ hd
      exact h.setTransport _ rfl
    · refine Song.raiseBoundary ?_ _ _ _ hs
      exact h.setTransport _ rfl
  · refine Song.raiseBoundary ?_ _ _ _ hs
    exact h.setTransport _ rfl

theorem Song.takeBeat {s : State} (h : Song s) (hm : s.transport.moves = true) : Song (takeBeat s) := by
  unfold Machine.takeBeat
  refine Song.raiseBoundary ?_ _ _ _ (state_of_moves hm)
  exact h.setTransport _ rfl

/-! ## The cues that do not wait -/

/-- Out of IDLE the base take is defined: no layer has a buffer, no recorder a take, and no lane is armed any more. -/
theorem Song.defining {s t : State} (h : Song s) (hi : s.transport.state = .idle) (hstate : t.transport.state = .defining)
    (htable : t.table = s.table) (htakes : t.takes = s.takes) (hstore : t.store = s.store) (hcues : t.cues = s.cues)
    (hjob : t.job = s.job) (hlanes : ∀ l, (t.lane l).armed = false) : Song t := by
  obtain ⟨hfree, hrecs⟩ := h.core.idleSong hi
  have hlayer : ∀ x, t.layer x = s.layer x := fun x => by unfold State.layer; rw [htable]
  have hrec : ∀ q, t.recorder q = s.recorder q := fun q => by unfold State.recorder; rw [htakes]
  have hbuffer : ∀ x, t.buffer x = s.buffer x := fun x => by unfold State.buffer; rw [hstore]
  have hidle : s.job.running = false := by
    by_contra hr
    obtain ⟨hs, -⟩ := h.job.runs (by simpa using hr)
    rw [hi] at hs
    rcases hs with hs | hs | hs <;> cases hs
  have hnone : ∀ x, s.buffer x = none := fun x => by
    by_contra hb
    have ha := ((h.core.buffers x).1.mp hb).1
    rw [hfree x] at ha
    cases ha
  refine ⟨⟨?_, ?_, ?_, ?_, ?_, ?_, fun q hb _ => ?_, by rw [hstate]; nofun, fun x => ?_, fun x => ?_, fun x entries left ht => ?_⟩,
    .of_idle (by rw [hjob]; exact hidle) (by rw [hjob]; exact h.job.idle hidle), ⟨by rw [hstate]; nofun, ?_, fun l hl => ?_⟩⟩
  · simpa only [htable, hlayer] using h.core.stack
  · simpa only [htable, hlayer] using h.core.redo
  · simpa only [hrec] using h.core.idle
  · simpa only [hrec, htakes] using h.core.listed
  · simpa only [hrec, hlayer] using h.core.fits
  · simpa only [hrec] using h.core.named
  · rw [hrec, (h.core.idle q (hrecs q)).2.1] at hb
    cases hb
  · have hc := h.core.cycles x
    rw [hlayer]
    unfold LayerRec.cycleSound at hc ⊢
    rw [if_pos (.inl (hfree x))] at hc ⊢
    exact hc
  · rw [hbuffer, hnone, hlayer, hfree]
    exact ⟨⟨fun hn => absurd rfl hn, fun ha => nomatch ha.1⟩, nofun⟩
  · rw [hstore] at ht
    obtain ⟨-, b, hb, -⟩ := h.core.refill x entries left ht
    rw [hnone] at hb
    cases hb
  · rw [hcues]
    exact h.cues.waiting
  · rw [hlanes] at hl
    cases hl

/-- The base take that begins in the empty song, in either mode. -/
theorem Song.baseBegun {s t : State} (h : Song s) (hi : s.transport.state = .idle) (m : Nat) (hm : 1 ≤ m ∧ m ≤ 8)
    (hstate : t.transport.state = .defining) (hlayer : (t.layer 0).core = (.recording, m, some 0, false))
    (hlayers : ∀ y, y ≠ 0 → (t.layer y).core = (s.layer y).core)
    (hlists : t.table.stack = s.table.stack ∧ t.table.redo = s.table.redo)
    (hrec : (t.recorder 0).core = (.recording, some 0, true, false)) (hrecs : ∀ q, q ≠ 0 → (t.recorder q).core = (s.recorder q).core)
    (horder : t.takes.order = s.takes.order ++ [0]) (hbuffers : t.store.buffers = s.store.buffers)
    (htransfer : t.store.transfer = s.store.transfer) (hjob : t.job = s.job) (hcues : t.cues = s.cues)
    (hlanes : ∀ l, (t.lane l).armed = false) : Song t := by
  obtain ⟨hfree, hidle⟩ := h.core.idleSong hi
  have hopen : Song ((s.setTransport t.transport).setLanes t.lanes) := h.defining hi hstate rfl rfl rfl rfl rfl hlanes
  refine hopen.takeBegun 0 0 m true (hfree 0) hm ?_ (fun _ => ⟨hstate, fun q hq => ?_⟩) rfl hlayer hlayers hlists hrec hrecs
    horder hbuffers htransfer (congrArg Job.core hjob) hcues rfl
  · show t.transport.state ≠ .idle
    rw [hstate]
    nofun
  · have hb : (s.recorder q).base = true := hq.1
    rw [(h.core.idle q (hidle q)).2.1] at hb
    cases hb

/-- In IDLE a START_BASE that may act finds the empty song. -/
theorem Song.empty_of_startBase_ok {s : State} (h : Song s) {p1 p2 : Byte} (hok : (cueResult .startBase p1 p2 s).1 = .ok) :
    ∃ page rest, s.Empty page rest := by
  have hi := startBase_state_of_ok hok
  obtain ⟨hfree, hidle⟩ := h.core.idleSong hi
  have hredo : s.table.redo = [] := by
    refine List.eq_nil_iff_forall_not_mem.mpr fun x hx => ?_
    have hp := h.core.redo.2 x hx
    rw [hfree x] at hp
    cases hp
  rw [cueResult_startBase s p1 p2 hi] at hok
  have hpool : s.store.pool ≠ [] := fun hp => by
    have hcounted : countedPool s = [] := (countedPool_of_none_parked s fun x hx => by rw [hfree x] at hx; cases hx).trans hp
    unfold startResult at hok
    split at hok
    · next code hcode =>
      dsimp only at hok
      rw [hok] at hcode
      unfold takeRefusal at hcode
      split_ifs at hcode <;> cases hcode
    · next hnone =>
      unfold takeRefusal at hnone
      rw [hcounted] at hnone
      split_ifs at hnone
      exact ‹¬([] : List Nat) = []› rfl
  obtain ⟨page, rest, hpool⟩ := List.exists_cons_of_ne_nil hpool
  exact ⟨page, rest, hfree, hidle, hredo, hpool⟩

theorem Song.applyStartBase {s : State} (h : Song s) (p1 p2 : Byte) (hok : (cueResult .startBase p1 p2 s).1 = .ok) :
    Song (applyStartBase p1 s) := by
  have hi := startBase_state_of_ok hok
  obtain ⟨page, rest, hempty⟩ := h.empty_of_startBase_ok hok
  have hrecs : ∀ x : RecorderRec, ∀ q, (s.setRecorder 0 x).recorder q = if q = 0 then x else s.recorder q := fun x q =>
    State.setRecorder_recorder s 0 q x
  have hlane : ∀ l, ((s.withFreeBaseTake (byteFin 4 p1) page rest).lane l).armed = false := fun l => by
    simp [State.withFreeBaseTake, State.lane]
  have hfree : ∀ y, (s.withFreeBaseTake (byteFin 4 p1) page rest).layer y = _ := fun y => State.setLayer_layer s 0 y _
  have hrec : ∀ q, (s.withFreeBaseTake (byteFin 4 p1) page rest).recorder q = _ := hrecs _
  cases hm : s.transport.mode with
  | free =>
    rw [hempty.applyStartBase_free p1 hm]
    refine h.baseBegun hi 1 ⟨le_refl _, by omega⟩ rfl ?_ (fun y hy => ?_) ⟨rfl, rfl⟩ ?_ (fun q hq => ?_) rfl rfl rfl rfl rfl hlane
    · rw [hfree, if_pos rfl]
      rfl
    · rw [hfree, if_neg hy]
    · rw [hrec, if_pos rfl]
      rfl
    · rw [hrec, if_neg hq]
  | grid =>
    obtain ⟨hc1, hc2⟩ := h.cues.idle hi
    have hcues : s.cues = ⟨[], []⟩ := by
      cases hs : s.cues with
      | mk cycle beat =>
        rw [hs] at hc1 hc2
        subst hc1 hc2
        rfl
    rw [hempty.applyStartBase_grid p1 hm hcues]
    have hgrid : ∀ y, (s.withGridBaseTake (byteFin 4 p1) page rest).layer y = _ := fun y =>
      State.setLayer_layer (s.withFreeBaseTake (byteFin 4 p1) page rest) 0 y _
    have hbegun : Song (s.withGridBaseTake (byteFin 4 p1) page rest) := by
      refine h.baseBegun hi 8 ⟨by omega, le_refl _⟩ ?_ ?_ (fun y hy => ?_) ⟨rfl, rfl⟩ ?_ (fun q hq => ?_) rfl rfl rfl rfl rfl hlane
      · show Transport.state (Transport.pulsed _) = _
        unfold Transport.pulsed
        split <;> rfl
      · rw [hgrid, if_pos rfl]
        show LayerRec.core { (s.withFreeBaseTake (byteFin 4 p1) page rest).layer 0 with multiple := 8 } = _
        rw [hfree, if_pos rfl]
        rfl
      · rw [hgrid, if_neg hy, hfree, if_neg hy]
      · exact (congrArg RecorderRec.core ((hrec 0).trans (if_pos rfl))).trans rfl
      · exact congrArg RecorderRec.core ((hrec q).trans (if_neg hq))
    show Song ((s.withGridBaseTake (byteFin 4 p1) page rest).boundaryReportedFor _ 0)
    rw [← linkTakes_eq ⟨0, _, false⟩]
    exact hbegun.linkTakes _

theorem Song.applyCloseBase {s : State} (h : Song s) (hd : s.transport.state = .defining) : Song (applyCloseBase s) := by
  unfold Machine.applyCloseBase
  split
  · exact h.closure 1 _ ⟨le_refl _, by omega⟩ hd
  · exact h.setTransport _ rfl

theorem Song.applyPlay {s : State} (h : Song s) (hh : s.transport.state = .halted) : Song (applyPlay s) := by
  have hbuffer : ∀ (t : Transport) (x : Slot), (s.streaming t fun _ => ⟨[], false, false⟩).buffer x = _ := fun t x =>
    State.streaming_buffer s t _ x
  rw [applyPlay_eq]
  refine Song.primingCheck (Song.placeAll ?_)
  have hrest : (s.streaming (s.transport.primed .priming) fun _ => ⟨[], false, false⟩).transport.state = .priming ∧
      (s.streaming (s.transport.primed .priming) fun _ => ⟨[], false, false⟩).table = s.table ∧
      (s.streaming (s.transport.primed .priming) fun _ => ⟨[], false, false⟩).takes = s.takes ∧
      (s.streaming (s.transport.primed .priming) fun _ => ⟨[], false, false⟩).store.transfer = s.store.transfer ∧
      (s.streaming (s.transport.primed .priming) fun _ => ⟨[], false, false⟩).job = s.job ∧
      (s.streaming (s.transport.primed .priming) fun _ => ⟨[], false, false⟩).cues = s.cues ∧
      (s.streaming (s.transport.primed .priming) fun _ => ⟨[], false, false⟩).lanes = s.lanes := by
    unfold State.streaming
    simp [Transport.primed]
  have hnone : ∀ x, s.buffer x = none := fun x => by
    by_contra hb
    have hs := ((h.core.buffers x).1.mp hb).2
    simp [Transport.streams, hh] at hs
  have hbuffers := hbuffer (s.transport.primed .priming)
  obtain ⟨hstate, htable, htakes, htransfer, hjob, hcues, hlanes⟩ := hrest
  generalize (s.streaming (s.transport.primed .priming) fun _ => ⟨[], false, false⟩) = t at *
  have hlayer : ∀ x, t.layer x = s.layer x := fun x => by unfold State.layer; rw [htable]
  have hrec : ∀ q, t.recorder q = s.recorder q := fun q => by unfold State.recorder; rw [htakes]
  refine ⟨⟨?_, ?_, ?_, ?_, ?_, ?_, fun q hb ht => ?_, by rw [hstate]; nofun, fun x => ?_, fun x => ?_, fun x entries left ht => ?_⟩,
    h.job.congr (by rw [hjob]) (fun _ => .inr (.inl hstate)) fun x _ => by rw [hlayer],
    ⟨by rw [hstate]; nofun, ?_, fun l hl => ?_⟩⟩
  · simpa only [htable, hlayer] using h.core.stack
  · simpa only [htable, hlayer] using h.core.redo
  · simpa only [hrec] using h.core.idle
  · simpa only [hrec, htakes] using h.core.listed
  · simpa only [hrec, hlayer] using h.core.fits
  · simpa only [hrec] using h.core.named
  · rw [hrec] at hb ht
    have hd := (h.core.base q hb ht).1
    rw [hh] at hd
    cases hd
  · have hc := h.core.cycles x
    rw [hlayer]
    unfold LayerRec.cycleSound at hc ⊢
    rw [hh] at hc
    rw [hstate]
    split at hc
    · next hf => rw [if_pos hf]; exact hc
    · next hf =>
      rw [if_neg hf]
      obtain ⟨h1, h8, k, hk, hlt, hz⟩ := hc
      exact ⟨h1, h8, k, hk, hlt, fun _ => hz (.inl rfl)⟩
  · have hstreams : t.transport.streams = true := by unfold Transport.streams; rw [hstate]; rfl
    rw [hbuffers, hlayer, hstreams]
    split
    · next ha => exact ⟨⟨fun _ => ⟨ha, rfl⟩, nofun⟩, fun b hb => by obtain rfl := Option.some.inj hb; exact Nat.zero_le _⟩
    · next ha => exact ⟨⟨fun hn => absurd rfl hn, fun hn => absurd hn.1 ha⟩, nofun⟩
  · rw [htransfer] at ht
    obtain ⟨-, b, hb, -⟩ := h.core.refill x entries left ht
    rw [hnone] at hb
    cases hb
  · rw [hcues]
    exact h.cues.waiting
  · have harmed := h.cues.armed l (by unfold State.lane at hl ⊢; rwa [← hlanes])
    rw [hh] at harmed
    cases harmed

theorem Song.applyCue {s : State} (h : Song s) (kind : CueKind) (p1 p2 p3 : Byte) (hok : (cueResult kind p1 p2 s).1 = .ok)
    (hp : paramsInRange kind p1 p2 p3 = true) : Song (applyCue kind p1 p2 p3 s) := by
  cases kind with
  | startBase => exact h.applyStartBase p1 p2 hok
  | closeBase => exact h.applyCloseBase (closeBase_of_ok hok).1
  | play => exact h.applyPlay (play_state_of_ok hok)
  | startTake => exact h.applyQueued _ p1 p2 p3 hok hp
  | stopTake => exact h.applyQueued _ p1 p2 p3 hok hp
  | mute => exact h.applyQueued _ p1 p2 p3 hok hp
  | unmute => exact h.applyQueued _ p1 p2 p3 hok hp
  | undo => exact h.applyQueued _ p1 p2 p3 hok hp
  | redo => exact h.applyQueued _ p1 p2 p3 hok hp
  | halt => exact h.applyQueued _ p1 p2 p3 hok hp

end Sys2Proof.Machine
end

section
/-! SUPPORT. The song through the sample period, the ends of lane windows, and the completions at the port. -/

namespace Sys2Proof.Machine

/-! ## Lanes -/

/-- Lanes none of which is newly armed. -/
theorem Song.setLanes {s : State} (h : Song s) (lanes : Vector LaneRec 4)
    (harmed : ∀ l, ((s.setLanes lanes).lane l).armed = true → (s.lane l).armed = true ∨ s.transport.state = .idle) :
    Song (s.setLanes lanes) :=
  ⟨h.core.same rfl rfl rfl rfl rfl, h.job.congr rfl id fun _ _ => rfl,
    ⟨h.cues.idle, h.cues.waiting, fun l hl => (harmed l hl).elim (h.cues.armed l) id⟩⟩

theorem Song.setLane {s : State} (h : Song s) (n : Lane) (x : LaneRec)
    (harmed : x.armed = true → (s.lane n).armed = true ∨ s.transport.state = .idle) : Song (s.setLane n x) := by
  refine h.setLanes _ fun l hl => ?_
  have hl' : (if l = n then x else s.lane l).armed = true := by
    rw [← State.setLane_lane]
    exact hl
  split at hl'
  · next hln =>
    rw [hln]
    exact harmed hl'
  · exact .inl hl'

theorem Song.levelEvent {s : State} (h : Song s) (n : Lane) (old new : Band) : Song (levelEvent n old new s) := by
  unfold Machine.levelEvent
  split
  · rw [raiseLevel_eq_reported]
    exact h.reported _ _
  · exact h

theorem Song.endWindow {s : State} (h : Song s) (n : Lane) : Song (endWindow n s) := by
  unfold Machine.endWindow
  dsimp only
  have hjudged := (h.setLane n
    { s.lane n with
      band := (judged (s.lane n).band (s.lane n).below (windowBand (s.lane n))).1
      below := (judged (s.lane n).band (s.lane n).below (windowBand (s.lane n))).2
      peak := 0
      pos := 0 } .inl).levelEvent n (s.lane n).band (judged (s.lane n).band (s.lane n).below (windowBand (s.lane n))).1
  split
  · unfold autoStart
    dsimp only
    rw [raiseReport_eq_reported]
    generalize Machine.levelEvent n _ _ _ = u at hjudged ⊢
    have hreported := hjudged.reported 31 (.cueFired 255 .startBase (cueResult .startBase (byte n.val) 0 u).1
      (cueResult .startBase (byte n.val) 0 u).2)
    split
    · next hok =>
      refine hreported.applyStartBase (byte n.val) 0 ?_
      rw [State.reported_eq, cueResult_setLink]
      exact hok
    · exact hreported
  · exact hjudged

theorem Song.measureLanes {s : State} (h : Song s) (r : Lane → Int) : Song (measureLanes r s) := by
  refine h.setLanes _ fun l hl => .inl ?_
  have hmeasured : ((s.lane l).measured (r l)).armed = (s.lane l).armed := by
    unfold LaneRec.measured
    split <;> rfl
  rw [← hmeasured]
  simpa [State.lane] using hl

/-! ## The sample period -/

theorem Song.exhaustFree {s : State} (h : Song s) : Song (exhaustFree s) := by
  unfold Machine.exhaustFree
  split
  · split
    · exact h
    · next r hr =>
      obtain ⟨hb, ht⟩ := baseRecorder_some hr
      obtain ⟨hd, -⟩ := h.core.base r hb ht
      split
      · exact h
      · next x hx =>
        split
        · exact h
        · next e _ =>
          have hspent := h.exhaustRecorder r x e.reason (by rw [hx]; nofun)
          have hstate : (Machine.exhaustRecorder r x e.reason s).transport.state = .defining := by
            rw [(exhaustRecorder_frame r x e.reason s).1]
            exact hd
          dsimp only
          split
          · exact hspent.closure 1 _ ⟨le_refl _, by omega⟩ hstate
          · exact hspent.abortBase r hstate
  · exact h

theorem serveLayers_layer (s : State) (x : Slot) : ∃ n, (serveLayers s).layer x = { s.layer x with dropouts := n } := by
  unfold serveLayers
  split
  · have hx : ((mapLayers (servedLayer s) s).setStore
        { s.store with buffers := Vector.ofFn (servedBuffer s) }).layer x = servedLayer s x (s.layer x) := by
      simp [mapLayers, State.layer]
    have hsame : ∃ n, s.layer x = { s.layer x with dropouts := n } := ⟨(s.layer x).dropouts, rfl⟩
    rw [hx]
    unfold servedLayer
    split
    · split
      · exact hsame
      · split
        · exact ⟨_, rfl⟩
        · exact hsame
    · exact hsame
  · exact ⟨(s.layer x).dropouts, rfl⟩

theorem serveLayers_buffer (s : State) (x : Slot) :
    (serveLayers s).buffer x = s.buffer x ∨
      (serveLayers s).buffer x = (s.buffer x).map fun b => { b with entries := b.entries.tail } := by
  unfold serveLayers
  split
  · have hx : ((mapLayers (servedLayer s) s).setStore
        { s.store with buffers := Vector.ofFn (servedBuffer s) }).buffer x = servedBuffer s x := by
      simp [State.buffer]
    rw [hx]
    unfold servedBuffer
    split
    · exact .inr rfl
    · exact .inl rfl
  · exact .inl rfl

/-- Served buffers have fewer entries. -/
theorem Song.serveLayers {s : State} (h : Song s) : Song (serveLayers s) := by
  have hlayer := serveLayers_layer s
  have hbuffer := serveLayers_buffer s
  have htable : (Machine.serveLayers s).table.stack = s.table.stack ∧ (Machine.serveLayers s).table.redo = s.table.redo := by
    rw [serveLayers_table]
    exact ⟨rfl, rfl⟩
  have htransfer : (Machine.serveLayers s).store.transfer = s.store.transfer := by rw [serveLayers_store]
  obtain ⟨htransport, hcues, hlanes, htakes, -, -, hjob, -⟩ := serveLayers_frame s
  generalize Machine.serveLayers s = t at *
  have hcore : ∀ x, (t.layer x).core = (s.layer x).core := fun x => by
    obtain ⟨n, hn⟩ := hlayer x
    rw [hn]
    rfl
  have hfields := hcore
  simp only [LayerRec.core, Prod.mk.injEq] at hfields
  have hrec : ∀ q, t.recorder q = s.recorder q := fun q => by unfold State.recorder; rw [htakes]
  have hstreams : t.transport.streams = s.transport.streams := by rw [htransport]
  have hnone : ∀ x, t.buffer x ≠ none ↔ s.buffer x ≠ none := fun x => by
    rcases hbuffer x with hb | hb
    · rw [hb]
    · rw [hb, Ne, Option.map_eq_none_iff]
  have hfewer : ∀ x b, t.buffer x = some b →
      ∃ c, s.buffer x = some c ∧ b.entries.length ≤ c.entries.length ∧ b.inFlight = c.inFlight := fun x b hb => by
    rcases hbuffer x with hx | hx
    · exact ⟨b, hx ▸ hb, le_refl _, rfl⟩
    · rw [hx] at hb
      obtain ⟨c, hc, rfl⟩ := Option.map_eq_some_iff.mp hb
      exact ⟨c, hc, by simp, rfl⟩
  refine ⟨⟨?_, ?_, ?_, ?_, ?_, ?_, ?_, ?_, fun x => ?_, fun x => ⟨?_, fun b hb => ?_⟩, fun x entries left ht => ?_⟩,
    h.job.congr (by rw [hjob]) (by rw [htransport]; exact id) fun x _ => hcore x, h.cues.same (by rw [htransport]) hcues hlanes⟩
  · simpa only [htable, hfields] using h.core.stack
  · simpa only [htable, hfields] using h.core.redo
  · simpa only [hrec] using h.core.idle
  · simpa only [hrec, htakes] using h.core.listed
  · simpa only [hrec, hfields] using h.core.fits
  · simpa only [hrec] using h.core.named
  · simpa only [hrec, htransport] using h.core.base
  · simpa only [hrec, htransport, hfields] using h.core.idleSong
  · have hc := h.core.cycles x
    obtain ⟨h1, h2, h3, -⟩ := hfields x
    rw [htransport]
    unfold LayerRec.cycleSound at hc ⊢
    rwa [h1, h2, h3]
  · rw [hnone, (hfields x).1, hstreams]
    exact (h.core.buffers x).1
  · obtain ⟨c, hc, hle, -⟩ := hfewer x b hb
    exact hle.trans ((h.core.buffers x).2 c hc)
  · obtain ⟨hlen, c, hc, hin, hle⟩ := h.core.refill x entries left (htransfer ▸ ht)
    obtain ⟨b, hb⟩ := Option.ne_none_iff_exists'.mp ((hnone x).mpr (by rw [hc]; nofun))
    obtain ⟨c', hc', hle', hin'⟩ := hfewer x b hb
    obtain rfl := Option.some.inj (hc'.symm.trans hc)
    exact ⟨hlen, b, hb, hin'.trans hin, hle'.trans hle⟩

theorem Song.tickPort {s : State} (h : Song s) : Song (tickPort s) := by
  refine ⟨h.core.congr rfl rfl rfl rfl (fun _ => rfl) (fun _ => rfl) (fun _ => rfl) fun x entries left ht => ?_,
    h.job.congr rfl id fun _ _ => rfl, h.cues.same rfl rfl rfl⟩
  obtain ⟨y, hy, he⟩ := Option.map_eq_some_iff.mp ht
  have hkind : y.kind = .refill x entries := congrArg Transfer.kind he
  exact h.core.refill x entries y.left (by rw [hy, ← hkind])

theorem advancePlayhead_state (s : State) : (advancePlayhead s).transport.state = s.transport.state := by
  unfold advancePlayhead
  split
  · rfl
  · split <;> rfl

/-- What follows the recorders in a sample period. -/
theorem Song.countedOn {s : State} (h : Song s) (r : Lane → Int) : Song (s.countedOn r) := by
  have hmix : Song (formMix r s) := h.same rfl rfl rfl rfl rfl rfl rfl rfl
  have hserved := hmix.serveLayers
  unfold State.countedOn
  generalize Machine.serveLayers (formMix r s) = u at hserved ⊢
  have hcounted : Song (countPulse u) := hserved.setTransport _ rfl
  have hadvanced : Song (advancePlayhead (countPulse u)) :=
    hcounted.same (advancePlayhead_state _) (by simp) (by simp) (by simp) (by simp) (by simp) (by simp) (by simp)
  exact hadvanced.placeAll.tickPort

theorem Song.tick {s : State} (h : Song s) (x : Lane → Int) : Song (tick x s) := by
  rw [tick_eq_countedOn]
  exact ((h.measureLanes _).exhaustFree.recordAll _).1.countedOn _

/-! ## Completions -/

theorem Song.setMem {s : State} (h : Song s) (m : List Host.Cell) : Song (s.setMem m) := h.same rfl rfl rfl rfl rfl rfl rfl rfl

theorem Song.completeDrain {s : State} (h : Song s) (r : Recorder) (n : Nat) : Song (completeDrain r n s) := by
  unfold Machine.completeDrain
  dsimp only
  refine (Song.releasePort ?_).drainDone r
  split
  · exact h.setRecorder r _ rfl
  · exact (h.setMem _).setRecorder r _ rfl

theorem Song.completeRefill {s : State} (h : Song s) (x : Slot) (entries : List Entry) (left : Nat)
    (ht : s.store.transfer = some ⟨.refill x entries, left⟩) : Song (completeRefill x entries s) := by
  obtain ⟨hlen, b, hb, -, hle⟩ := h.core.refill x entries left ht
  have hreleased := h.releasePort
  have hport : Machine.releasePort s = (s.setStore { s.store with transfer := none }).setBuffer x
      ((s.buffer x).map fun b => { b with inFlight := false }) := releasePort_some s _ ht
  have hbuffer : (Machine.releasePort s).buffer x = some { b with inFlight := false } := by
    rw [hport, State.setBuffer_buffer, if_pos rfl, hb]
    rfl
  refine (hreleased.landEntries x entries hlen.le (fun c hc => ?_) fun es left' ht' => ?_).raiseRefill x
  · rw [hbuffer] at hc
    obtain rfl := Option.some.inj hc
    exact hle
  · rw [hport] at ht'
    cases ht'

/-- A job with other counts, sums and pieces. -/
theorem Song.setJob {s : State} (h : Song s) (j : Job) (hj : j.core = s.job.core) : Song (s.setJob j) :=
  h.same rfl rfl rfl rfl rfl rfl rfl hj

theorem Song.setUpChunk {s : State} (h : Song s) : Song (setUpChunk s) := by
  obtain ⟨next, -, -, -, he⟩ := setUpChunk_eq s
  rw [he]
  exact h.setJob _ rfl

theorem Song.completeRead {s : State} (h : Song s) : Song (completeRead s) := by
  unfold Machine.completeRead
  dsimp only
  have hreleased := h.releasePort
  generalize Machine.releasePort s = u at hreleased ⊢
  split
  · exact hreleased
  · unfold addPiece
    split
    · dsimp only
      split
      · exact hreleased.setJob _ rfl
      · exact hreleased.setJob _ rfl
    · exact hreleased

end Sys2Proof.Machine
end

section
/-! SUPPORT. The song through the bounce: its admission, and the completion of its writes. -/

namespace Sys2Proof.Machine

/-! ## The last write -/

theorem withLayerFreed_setStack (s : State) (xs : List Slot) (x : Slot) :
    (s.setTable { s.table with stack := xs }).withLayerFreed x =
      (s.withLayerFreed x).setTable { (s.withLayerFreed x).table with stack := xs.filter (· != x) } := rfl

/-- The freed layers leave the stack, whatever it is. -/
theorem freeLayers_setStack (sls : List Slot) : ∀ (s : State) (xs : List Slot),
    freeLayers sls (s.setTable { s.table with stack := xs }) =
      (freeLayers sls s).setTable { (freeLayers sls s).table with stack := xs.filter fun x => !sls.contains x } := by
  induction sls with
  | nil =>
    intro s xs
    simp [freeLayers]
  | cons sl rest ih =>
    intro s xs
    have hcons : ∀ u : State, freeLayers (sl :: rest) u = freeLayers rest (u.withLayerFreed sl) := fun u => by
      rw [freeLayers_eq, freeLayers_eq]
      rfl
    have hfilter : ((xs.filter (· != sl)).filter fun x => !rest.contains x) = xs.filter fun x => !(sl :: rest).contains x := by
      rw [List.filter_filter]
      refine List.filter_congr fun x _ => ?_
      rw [List.contains_cons, Bool.not_or, Bool.and_comm]
      rfl
    rw [hcons, hcons, withLayerFreed_setStack, ih, hfilter]

/-- The result ACTIVE in its place in the stack, before its refill request is raised. -/
def State.resultJoined (s : State) (result : Slot) (k : Nat) (stack : List Slot) : State :=
  ((s.setTable { s.table with stack := stack }).setLayer result { s.layer result with state := .active, k := some k }).setBuffer result
    (if s.transport.streams then some ⟨[], false, false⟩ else none)

theorem State.resultJoined_layer (s : State) (result : Slot) (k : Nat) (stack : List Slot) (y : Slot) :
    (s.resultJoined result k stack).layer y =
      if y = result then { s.layer result with state := .active, k := some k } else s.layer y :=
  State.setLayer_layer (s.setTable { s.table with stack := stack }) result y _

theorem State.resultJoined_buffer (s : State) (result : Slot) (k : Nat) (stack : List Slot) (y : Slot) :
    (s.resultJoined result k stack).buffer y =
      if y = result then (if s.transport.streams then some ⟨[], false, false⟩ else none) else s.buffer y :=
  State.setBuffer_buffer _ result y _

/-- A layer in BUILDING joins the stack. -/
theorem SongCore.resultJoined {s : State} (h : SongCore s) (result : Slot) (k : Nat) (stack : List Slot)
    (hb : (s.layer result).state = .building) (hm : 1 ≤ (s.layer result).multiple ∧ (s.layer result).multiple ≤ 8)
    (hk : k < (s.layer result).multiple) (hstill : s.transport.state = .halted ∨ s.transport.state = .priming → k = 0)
    (hstack : ∀ x ∈ stack, x = result ∨ x ∈ s.table.stack) : SongCore (s.resultJoined result k stack) := by
  have hself : (s.resultJoined result k stack).layer result = { s.layer result with state := .active, k := some k } := by
    rw [State.resultJoined_layer, if_pos rfl]
  have hinactive : (s.layer result).state ≠ .active := by rw [hb]; nofun
  refine h.setLayer result rfl (fun y hy => by rw [State.resultJoined_layer, if_neg hy]) (fun _ => rfl) rfl (fun y hy => ?_)
    ⟨h.redo.1, fun y hy => .inl ⟨fun hyr => ?_, hy⟩⟩ (fun q hq => ?_) (fun hi => ?_) ?_ ⟨?_, fun b hb' => ?_⟩
    (fun y hy => by rw [State.resultJoined_buffer, if_neg hy])
    fun y entries left ht => ⟨h.refill_ne result hinactive y entries left ht, ht⟩
  · by_cases hyr : y = result
    · exact .inr ⟨hyr, by rw [hself]⟩
    · exact .inl ⟨hyr, (hstack y hy).resolve_left hyr⟩
  · have hp := h.redo.2 y hy
    rw [hyr, hb] at hp
    cases hp
  · rcases h.fits_cases q result hq with ⟨-, -, hl⟩ | ⟨-, hl⟩ <;> rw [hb] at hl <;> exact hl.elim nofun nofun
  · have hf := (h.idleSong hi).1 result
    rw [hb] at hf
    cases hf
  · rw [hself]
    unfold LayerRec.cycleSound
    rw [if_neg nofun]
    exact ⟨hm.1, hm.2, k, rfl, hk, hstill⟩
  · rw [State.resultJoined_buffer, if_pos rfl, hself]
    cases s.transport.streams <;> simp
  · rw [State.resultJoined_buffer, if_pos rfl] at hb'
    split at hb'
    · obtain rfl := Option.some.inj hb'
      exact Nat.zero_le _
    · cases hb'

/-- The completion of a job in the parts that the song reads: the sources freed, the result joined, the job IDLE. -/
theorem completeBounce_parts (result : Slot) (s : State) :
    ∃ m : Message, ∃ stack : List Slot,
      (∀ x ∈ stack, x = result ∨ x ∈ s.table.stack ∧ x ∉ s.job.sources.map Source.slot) ∧
      completeBounce result s =
        primingCheck ((raiseRefill result
          (((freeLayers (s.job.sources.map Source.slot) s).resultJoined result
            (((s.job.anchor.bind fun a => (s.job.sources.map Source.slot)[a]?).map fun sl => (s.layer sl).k.getD 0).getD 0)
            stack).setJob Job.idle)).reported 31 m) := by
  have hmerged : ∀ x ∈ mergedStack s.table.stack (s.job.sources.map Source.slot)
      (newestSource s (s.job.sources.map Source.slot)) result,
      x = result ∨ x ∈ s.table.stack ∧ x ∉ s.job.sources.map Source.slot := fun x hx => by
    obtain ⟨y, hy, he⟩ := List.mem_filterMap.mp hx
    split at he
    · exact .inl (Option.some.inj he).symm
    · split at he
      · cases he
      · next hn =>
        obtain rfl := Option.some.inj he
        exact .inr ⟨hy, by simpa using hn⟩
  unfold completeBounce
  dsimp only
  rw [freeLayers_setStack]
  have hreport : ∀ v : State, ∃ m : Message,
      (reportBounceEnd .done result v.job.total v).setJob Job.idle = (v.setJob Job.idle).reported 31 m := fun v => by
    unfold reportBounceEnd
    rw [raiseReport_eq_reported]
    refine ⟨.bounceEnd .done result v.job.multiple (pageCount (v.layer result).extents) v.job.total v.job.clips, ?_⟩
    rw [State.reported_eq, State.reported_eq]
    rfl
  generalize hv : activateResult result _ _ = v
  obtain ⟨m, hm⟩ := hreport v
  refine ⟨m, (mergedStack s.table.stack (s.job.sources.map Source.slot) (newestSource s (s.job.sources.map Source.slot))
    result).filter fun x => !(s.job.sources.map Source.slot).contains x, fun x hx => hmerged x (List.mem_filter.mp hx).1, ?_⟩
  rw [hm, raiseRefill_setJob, ← hv]
  rfl

theorem Song.completeBounce {s : State} (h : Song s) (result : Slot) (hrun : s.job.running = true)
    (hresult : s.job.result = some result) : Song (completeBounce result s) := by
  obtain ⟨hstate, hsources, i, src, result', ha, hi, hr, hb, hm1, hm2⟩ := h.job.runs hrun
  obtain rfl := Option.some.inj (hr.symm.trans hresult)
  obtain ⟨m, stack, hstack, he⟩ := completeBounce_parts result' s
  have hactive : ∀ x ∈ s.job.sources.map Source.slot, (s.layer x).state = .active := fun x hx => by
    obtain ⟨y, hy, rfl⟩ := List.mem_map.mp hx
    exact (hsources y hy).1
  have hnot : result' ∉ s.job.sources.map Source.slot := fun hx => by
    have hx' := hactive result' hx
    rw [hb] at hx'
    cases hx'
  have hfreed := h.core.freeLayers (s.job.sources.map Source.slot) fun x hx => by
    rw [hactive x hx]
    exact ⟨nofun, nofun⟩
  have hlayer := freeLayers_layer_of_not_mem (s.job.sources.map Source.slot) result' hnot s
  obtain ⟨htransport, hcues, hlanes, -⟩ := freeLayers_frame (s.job.sources.map Source.slot) s
  obtain ⟨idle, f, -⟩ := (songFreed_refl s).freeLayers (s.job.sources.map Source.slot)
  have hk : ((s.job.anchor.bind fun a => (s.job.sources.map Source.slot)[a]?).map fun sl => (s.layer sl).k.getD 0).getD 0 =
      (s.layer src.slot).k.getD 0 := by
    rw [ha]
    simp [hi]
  have hcycle := h.core.cycles src.slot
  unfold LayerRec.cycleSound at hcycle
  rw [if_neg (by rw [(hsources src (List.mem_of_getElem? hi)).1]; nofun)] at hcycle
  obtain ⟨h1, h8, k, hsk, hlt, hz⟩ := hcycle
  rw [hk, hsk] at he
  have hmultiple : (s.layer result').multiple = (s.layer src.slot).multiple := hm2.trans hm1.symm
  rw [he]
  have hmem : ∀ x, x ∈ (Machine.freeLayers (s.job.sources.map Source.slot) s).table.stack ↔
      x ∈ s.table.stack ∧ x ∉ s.job.sources.map Source.slot := fun x => by
    rw [f.stack, List.mem_filter]
    simp
  generalize Machine.freeLayers (s.job.sources.map Source.slot) s = u at *
  have hjoined : SongCore (u.resultJoined result' k stack) := by
    refine hfreed.resultJoined result' k stack (by rw [hlayer]; exact hb) ?_ ?_ ?_ fun x hx => ?_
    · rw [hlayer, hmultiple]
      exact ⟨h1, h8⟩
    · rw [hlayer, hmultiple]
      exact hlt
    · rw [htransport]
      exact hz
    · exact (hstack x hx).imp id (hmem x).mpr
  have hsong : Song ((u.resultJoined result' k stack).setJob Job.idle) :=
    ⟨hjoined.same rfl rfl rfl rfl rfl, .of_idle rfl rfl, h.cues.same (congrArg Transport.state htransport) hcues hlanes⟩
  exact ((hsong.raiseRefill result').reported 31 m).primingCheck

theorem Song.writeChunk {s : State} (h : Song s) (ch : Chunk) (result : Slot) (hrun : s.job.running = true)
    (hresult : s.job.result = some result) : Song (writeChunk ch result s) := by
  have hwritten : ∀ u : State, u = s ∨ (∃ m, u = s.setMem m) →
      Song (u.setJob { u.job with progress := u.job.progress + ch.length, chunk := none }) ∧ u.job = s.job := fun u hu => by
    rcases hu with rfl | ⟨m, rfl⟩
    · exact ⟨h.setJob _ rfl, rfl⟩
    · exact ⟨(h.setMem m).setJob _ rfl, rfl⟩
  unfold Machine.writeChunk
  extract_lets values u v
  obtain ⟨hv, hj⟩ := hwritten u (by
    unfold u
    split
    · exact .inl rfl
    · exact .inr ⟨_, rfl⟩)
  split
  · refine hv.completeBounce result ?_ ?_
    · show u.job.running = true
      rw [hj]
      exact hrun
    · show u.job.result = some result
      rw [hj]
      exact hresult
  · exact hv.setUpChunk

theorem Song.completeWrite {s : State} (h : Song s) : Song (completeWrite s) := by
  unfold Machine.completeWrite
  dsimp only
  have hreleased := h.releasePort
  generalize Machine.releasePort s = u at hreleased ⊢
  split
  · next ch result _ hresult =>
    refine hreleased.writeChunk ch result ?_ hresult
    by_contra hrun
    rw [hreleased.job.idle (by simpa using hrun)] at hresult
    cases hresult
  · exact hreleased

theorem Song.complete {s : State} (h : Song s) (x : Transfer) (hx : s.store.transfer = some x) : Song (complete x s) := by
  obtain ⟨kind, left⟩ := x
  cases kind with
  | drain r n => exact h.completeDrain r n
  | refill sl entries => exact h.completeRefill sl entries left hx
  | bounceRead => exact h.completeRead
  | bounceWrite => exact h.completeWrite

/-! ## The admission -/

theorem foldl_max_eq (f : Slot → Nat) (slots : List Slot) : ∀ a : Nat,
    slots.foldl (fun m x => max m (f x)) a = a ∨ ∃ x ∈ slots, f x = slots.foldl (fun m x => max m (f x)) a := by
  induction slots with
  | nil => exact fun _ => .inl rfl
  | cons y rest ih =>
    intro a
    rcases ih (max a (f y)) with he | ⟨x, hx, he⟩
    · rw [List.foldl_cons, he]
      rcases le_total a (f y) with hle | hle
      · exact .inr ⟨y, List.mem_cons_self, (max_eq_right hle).symm⟩
      · exact .inl (max_eq_left hle)
    · exact .inr ⟨x, List.mem_cons_of_mem y hx, he⟩

/-- Some source has the largest multiple. -/
theorem exists_largestMultiple (s : State) (slots : List Slot) (hne : slots ≠ []) (h : ∀ x ∈ slots, 1 ≤ (s.layer x).multiple) :
    ∃ x ∈ slots, (s.layer x).multiple = largestMultiple s slots := by
  rcases foldl_max_eq (fun x => (s.layer x).multiple) slots 1 with he | hx
  · obtain ⟨y, rest, rfl⟩ := List.exists_cons_of_ne_nil hne
    have hbound : ∀ (xs : List Slot) (a : Nat), a ≤ xs.foldl (fun m x => max m (s.layer x).multiple) a := by
      intro xs
      induction xs with
      | nil => exact fun _ => le_refl _
      | cons z zs ih => exact fun a => (le_max_left a _).trans (ih _)
    have hy : max 1 (s.layer y).multiple ≤ 1 := by
      have hb := hbound rest (max 1 (s.layer y).multiple)
      rw [List.foldl_cons] at he
      omega
    have h1 := h y List.mem_cons_self
    refine ⟨y, List.mem_cons_self, ?_⟩
    show (s.layer y).multiple = (y :: rest).foldl (fun m x => max m (s.layer x).multiple) 1
    rw [he]
    omega
  · exact hx

theorem largestMultiple_congr {s t : State} (slots : List Slot) (h : ∀ x ∈ slots, (t.layer x).multiple = (s.layer x).multiple) :
    largestMultiple t slots = largestMultiple s slots := by
  have hfold : ∀ (xs : List Slot) (a : Nat), (∀ x ∈ xs, (t.layer x).multiple = (s.layer x).multiple) →
      xs.foldl (fun m x => max m (t.layer x).multiple) a = xs.foldl (fun m x => max m (s.layer x).multiple) a := by
    intro xs
    induction xs with
    | nil => exact fun _ _ => rfl
    | cons y rest ih =>
      intro a hxs
      rw [List.foldl_cons, List.foldl_cons, hxs y List.mem_cons_self]
      exact ih _ fun x hx => hxs x (List.mem_cons_of_mem y hx)
  exact hfold slots 1 h

/-- A FREE layer in work for a bounce. -/
theorem SongCore.building {s : State} (h : SongCore s) (x : Slot) (l : LayerRec) (hx : (s.layer x).state = .free)
    (hl : l.state = .building) (hk : l.k = none) (hactive : s.transport.state ≠ .idle) : SongCore (s.setLayer x l) := by
  have hself : (s.setLayer x l).layer x = l := by rw [State.setLayer_layer, if_pos rfl]
  have hinactive : (s.layer x).state ≠ .active := by rw [hx]; nofun
  refine h.setLayer x rfl (fun y hy => by rw [State.setLayer_layer, if_neg hy]) (fun _ => rfl) rfl
    (fun y hy => .inl ⟨fun hyx => hinactive (hyx ▸ h.stack y hy), hy⟩) ⟨h.redo.1, fun y hy => .inl ⟨fun hyx => ?_, hy⟩⟩
    (fun q hq => ?_) hactive ?_ ⟨?_, (h.buffers x).2⟩ (fun _ _ => rfl)
    fun y entries left ht => ⟨h.refill_ne x hinactive y entries left ht, ht⟩
  · have hp := h.redo.2 y hy
    rw [hyx, hx] at hp
    cases hp
  · rcases h.fits_cases q x hq with ⟨-, -, hf⟩ | ⟨-, hf⟩ <;> rw [hx] at hf <;> exact hf.elim nofun nofun
  · rw [hself]
    unfold LayerRec.cycleSound
    rw [if_pos (.inr hl)]
    exact hk
  · rw [hself, hl]
    show s.buffer x ≠ none ↔ _
    rw [(h.buffers x).1]
    exact ⟨fun ha => absurd ha.1 hinactive, fun ha => nomatch ha.1⟩

/-- What the tests of a BOUNCE have found. -/
theorem bounceTest_ok {s : State} {slots : List Slot} (h : (bounceTest slots s).1 = .ok) :
    (s.transport.state = .running ∨ s.transport.state = .halted) ∧ s.job.running = false ∧
      ∀ x ∈ slots, (s.layer x).state = .active := by
  unfold bounceTest at h
  split at h
  · cases h
  · next hstate =>
    split at h
    · cases h
    · next hrun =>
      split at h
      · cases h
      · next hfind =>
        refine ⟨by tauto, by simpa using hrun, fun x hx => ?_⟩
        simpa using List.find?_eq_none.mp hfind x hx

theorem Song.admitBounce {s : State} (h : Song s) (slots : List Slot) (hne : slots ≠ []) (hok : (bounceTest slots s).1 = .ok) :
    Song (admitBounce slots s) := by
  obtain ⟨hstate, hrun, hactive⟩ := bounceTest_ok hok
  have hreleased := h.releaseRedo
  have hkept : ∀ x ∈ slots, (Machine.releaseRedo s).layer x = s.layer x := fun x hx =>
    freeLayers_layer_of_not_mem s.table.redo x (fun hr => by
      have hp := h.core.redo.2 x hr
      rw [hactive x hx] at hp
      cases hp) s
  have htransport : (Machine.releaseRedo s).transport = s.transport := (freeLayers_frame s.table.redo s).1
  unfold Machine.admitBounce
  dsimp only
  generalize Machine.releaseRedo s = u at *
  split
  · exact hreleased
  · next result hfind =>
    have hfree : (u.layer result).state = .free := by simpa using findSlot_some hfind
    have hactive' : ∀ x ∈ slots, (u.layer x).state = .active := fun x hx => by rw [hkept x hx]; exact hactive x hx
    have hnot : ∀ x ∈ slots, x ≠ result := fun x hx hxr => by
      have ha := hactive' x hx
      rw [hxr, hfree] at ha
      cases ha
    have hpool : Song (u.setStore { u.store with pool := u.store.pool.drop (bouncePages u (largestMultiple u slots)) }) :=
      hreleased.same rfl rfl rfl rfl rfl rfl rfl rfl
    generalize hv : u.setStore { u.store with pool := u.store.pool.drop (bouncePages u (largestMultiple u slots)) } = v at hpool ⊢
    have hvlayer : ∀ x, v.layer x = u.layer x := fun x => by rw [← hv]; rfl
    have hvstate : v.transport = s.transport := by rw [← hv]; exact htransport
    generalize hl : buildingLayer v slots (largestMultiple u slots)
      (runsOf (u.store.pool.take (bouncePages u (largestMultiple u slots)))) = l
    have hlfields : l.state = .building ∧ l.multiple = largestMultiple u slots ∧ l.k = none := by
      rw [← hl]
      exact ⟨rfl, rfl, rfl⟩
    obtain ⟨hl1, hl2, hl3⟩ := hlfields
    have hcore := (hpool.core.building result l (by rw [hvlayer]; exact hfree) hl1 hl3 (by
      rw [hvstate]
      rcases hstate with hs | hs <;> rw [hs] <;> nofun)).setHeld slots true
    have hwlayer : ∀ x, (setHeld slots true (v.setLayer result l)).layer x = _ := setHeld_layer slots true (v.setLayer result l)
    obtain ⟨hwt, hwc, hwl, -⟩ := setHeld_frame slots true (v.setLayer result l)
    generalize setHeld slots true (v.setLayer result l) = w at hcore hwlayer hwt hwc hwl ⊢
    have hsource : ∀ x ∈ slots, w.layer x = { u.layer x with held := true } := fun x hx => by
      rw [hwlayer, if_pos (by simpa using hx), State.setLayer_layer, if_neg (hnot x hx), hvlayer]
    have hresult : w.layer result = l := by
      rw [hwlayer, if_neg (by simpa using fun hr => hnot result hr rfl), State.setLayer_layer, if_pos rfl]
    have hlargest : largestMultiple w slots = largestMultiple u slots :=
      largestMultiple_congr slots fun x hx => by rw [hsource x hx]
    have hpositive : ∀ x ∈ slots, 1 ≤ (w.layer x).multiple := fun x hx => by
      have hc := hcore.cycles x
      unfold LayerRec.cycleSound at hc
      rw [if_neg (by rw [hsource x hx, hactive' x hx]; nofun)] at hc
      exact hc.1
    obtain ⟨x, hx, hxm⟩ := exists_largestMultiple w slots hne hpositive
    have hplace : anchorPlace w slots < slots.length :=
      List.findIdx_lt_length_of_exists ⟨x, hx, by simpa using hxm⟩
    have hanchor : (w.layer slots[anchorPlace w slots]).multiple = largestMultiple w slots :=
      beq_iff_eq.mp (List.findIdx_getElem (p := fun x => (w.layer x).multiple == largestMultiple w slots) (w := hplace))
    refine Song.setUpChunk ⟨hcore.same rfl rfl rfl rfl rfl, ⟨nofun, fun _ => ⟨?_, fun src hsrc => ?_, anchorPlace w slots,
      latchSource w slots[anchorPlace w slots], result, rfl, ?_, rfl, ?_, hanchor, ?_⟩⟩,
      hpool.cues.same (congrArg Transport.state hwt) hwc hwl⟩
    · show w.transport.state = _ ∨ w.transport.state = _ ∨ w.transport.state = _
      rw [hwt]
      show v.transport.state = _ ∨ v.transport.state = _ ∨ v.transport.state = _
      rw [hvstate]
      exact hstate.imp id .inr
    · obtain ⟨y, hy, rfl⟩ := List.mem_map.mp hsrc
      show (w.layer y).state = .active ∧ (w.layer y).held = true
      rw [hsource y hy]
      exact ⟨hactive' y hy, rfl⟩
    · show (slots.map (latchSource w))[anchorPlace w slots]? = _
      rw [List.getElem?_map, List.getElem?_eq_getElem hplace]
      rfl
    · show (w.layer result).state = .building
      rw [hresult, hl1]
    · show (w.layer result).multiple = largestMultiple w slots
      rw [hresult, hl2, hlargest]

end Sys2Proof.Machine
end

section
/-! SUPPORT. The song through requests, and through reset, start-up, rest and wake. -/

namespace Sys2Proof.Machine

/-! ## Requests -/

/-- The armed flag after a LANE_SETUP is the old one, or was written in IDLE. -/
theorem laneAfter_armed (q : LaneSetup) (idle : Bool) (l : LaneRec) (h : (laneAfter q idle l).armed = true) :
    l.armed = true ∨ idle = true := by
  have henabled : ∀ (on : Bool) (x : LaneRec), (laneEnable on x).armed = x.armed := fun on x => by
    unfold laneEnable
    split
    · rfl
    · split <;> rfl
  have hset : (ifNamed q.mask 0 (laneEnable (q.enable == 1) (laneSettings q l)) (laneSettings q l)).armed = l.armed := by
    unfold ifNamed
    split
    · exact henabled _ _
    · rfl
  unfold laneAfter at h
  dsimp only at h
  generalize ifNamed q.mask 0 _ _ = x at h hset
  unfold ifNamed at h
  split at h
  · exact .inr (Bool.and_eq_true_iff.mp h).2
  · exact .inl (hset ▸ h)

theorem Song.doLaneSetup {s : State} (h : Song s) (q : LaneSetup) : Song (doLaneSetup q s) := by
  unfold Machine.doLaneSetup
  split
  · refine Song.levelEvent (Song.reply ?_ _) _ _ _
    exact h.setLane _ _ fun ha => (laneAfter_armed q _ _ ha).imp id (by simp)
  · exact h.reply _

theorem Song.doGridSetup {s : State} (h : Song s) (q : GridSetup) : Song (doGridSetup q s) := by
  unfold Machine.doGridSetup
  split
  · split
    · exact Song.reply (h.setTransport (s.transport.setGrid q) rfl) _
    · exact h.reply _
  · exact h.reply _

theorem outputAfter_transport (q : OutputSetup) (s : State) :
    (outputAfter q s).transport = ifNamed q.mask 3 (s.transport.setPulseMode (pulseModeOf q.pulseMode.toNat)) s.transport := rfl

theorem Song.doOutputSetup {s : State} (h : Song s) (q : OutputSetup) : Song (doOutputSetup q s) := by
  unfold Machine.doOutputSetup
  split
  · refine Song.reply (s := outputAfter q s) (h.same ?_ rfl rfl rfl rfl rfl rfl rfl) _
    rw [outputAfter_transport]
    unfold ifNamed Transport.setPulseMode
    split
    · split <;> rfl
    · rfl
  · exact h.reply _

theorem Song.cueNow {s : State} (h : Song s) (q : Cue) (kind : CueKind) (hp : paramsInRange kind q.p1 q.p2 q.p3 = true) :
    Song (cueNow q kind s) := by
  unfold Machine.cueNow
  dsimp only
  split
  · next hok => exact Song.applyCue (h.reply _) kind _ _ _ hok hp
  · exact h.reply _

theorem Song.cueAdmit {s : State} (h : Song s) (q : Cue) (kind : CueKind) (w : WaitQuant)
    (hquant : quantAllowed kind (.wait w) = true) (htarget : w = .beat → q.targeted = false)
    (hp : paramsInRange kind q.p1 q.p2 q.p3 = true) : Song (cueAdmit q kind w s) := by
  obtain ⟨hcycle, hbeat⟩ := h.cues.waiting
  unfold Machine.cueAdmit
  split
  · exact h.reply _
  · next hi =>
    cases w with
    | cycle =>
      dsimp only
      split
      · exact h.reply _
      · refine Song.reply (h.setCues ⟨s.cues.cycle ++ [cueEntry q kind], s.cues.beat⟩ (fun hs => absurd hs hi) (fun e he => ?_) hbeat) _
        rcases List.mem_append.mp he with he | he
        · exact hcycle e he
        · rw [List.mem_singleton.mp he]
          exact ⟨hquant, hp⟩
    | beat =>
      dsimp only
      split
      · exact h.reply _
      · refine Song.reply (h.setCues ⟨s.cues.cycle, s.cues.beat ++ [cueEntry q kind]⟩ (fun hs => absurd hs hi) hcycle fun e he => ?_) _
        rcases List.mem_append.mp he with he | he
        · exact hbeat e he
        · rw [List.mem_singleton.mp he]
          exact ⟨hquant, hp, if_neg (by rw [htarget rfl]; nofun)⟩

/-- What the form check of a cue has found. -/
theorem cueForm_some {q : Cue} {kind : CueKind} {quant : Quant} (h : cueForm q = some (kind, quant)) :
    quantAllowed kind quant = true ∧ (q.targeted = true → quant = .wait .cycle) ∧ paramsInRange kind q.p1 q.p2 q.p3 = true := by
  unfold cueForm at h
  split at h
  · split at h
    · next hform =>
      obtain ⟨rfl, rfl⟩ := Prod.mk.inj (Option.some.inj h)
      simp only [Bool.and_eq_true, Bool.or_eq_true, Bool.not_eq_true', beq_iff_eq] at hform
      obtain ⟨⟨hquant, htarget⟩, hp⟩ := hform
      exact ⟨hquant, fun ht => htarget.resolve_left (by rw [ht]; nofun), hp⟩
    · cases h
  · cases h

theorem Song.doCue {s : State} (h : Song s) (q : Cue) : Song (doCue q s) := by
  unfold Machine.doCue
  split
  · exact h.reply _
  · next kind hform =>
    obtain ⟨-, -, hp⟩ := cueForm_some hform
    exact h.cueNow q kind hp
  · next kind w hform =>
    obtain ⟨hquant, htarget, hp⟩ := cueForm_some hform
    refine h.cueAdmit q kind w hquant (fun hw => ?_) hp
    by_contra ht
    have hcycle := htarget (by simpa using ht)
    rw [hw] at hcycle
    cases hcycle

theorem Song.doLayerSetup {s : State} (h : Song s) (q : LayerSetup) : Song (doLayerSetup q s) := by
  unfold Machine.doLayerSetup
  split
  · dsimp only
    split
    · exact h.reply _
    · split
      · exact h.reply _
      · exact Song.reply (h.setLayer _ (layerAfter q (s.layer (byteFin 24 q.slot))) rfl) _
  · exact h.reply _

theorem Song.doBounce {s : State} (h : Song s) (n : Byte) (slots : List Byte) (hread : (Request.bounce n slots).read) :
    Song (doBounce n slots s) := by
  unfold Machine.doBounce
  split
  · next hvalid =>
    dsimp only
    split
    · next hok =>
      refine Song.reply (h.admitBounce _ (fun hnil => ?_) hok) _
      have hlength : slots.length = min n.toNat 8 := hread
      have htwo : 2 ≤ n.toNat := by
        simp only [bounceValid, Bool.and_eq_true, decide_eq_true_eq] at hvalid
        exact hvalid.1.1.1
      rw [List.map_eq_nil_iff.mp hnil, List.length_nil] at hlength
      omega
    · exact h.reply _
  · exact h.reply _

theorem mem_flushKeep {mode tag : Byte} {xs : List CueEntry} {e : CueEntry} (h : e ∈ flushKeep mode tag xs) : e ∈ xs := by
  unfold flushKeep at h
  split at h
  · cases h
  · exact (List.mem_filter.mp h).1

theorem Song.doFlush {s : State} (h : Song s) (mode tag : Byte) : Song (doFlush mode tag s) := by
  unfold Machine.doFlush
  split
  · exact h.reply _
  · obtain ⟨hcycle, hbeat⟩ := h.cues.waiting
    refine Song.reply (h.setCues ⟨flushKeep mode tag s.cues.cycle, flushKeep mode tag s.cues.beat⟩ (fun hi => ?_)
      (fun e he => hcycle e (mem_flushKeep he)) fun e he => hbeat e (mem_flushKeep he)) _
    obtain ⟨h1, h2⟩ := h.cues.idle hi
    refine ⟨List.eq_nil_iff_forall_not_mem.mpr fun e he => ?_, List.eq_nil_iff_forall_not_mem.mpr fun e he => ?_⟩
    · have := mem_flushKeep he
      rw [h1] at this
      cases this
    · have := mem_flushKeep he
      rw [h2] at this
      cases this

theorem Song.clearSong (s : State) : Song (clearSong s) := by
  refine ⟨SongCore.of_empty (fun x => ?_) (fun q => ?_) rfl rfl (fun x => ?_) nofun, .of_idle rfl rfl,
    ⟨fun _ => ⟨rfl, rfl⟩, ⟨nofun, nofun⟩, fun _ _ => rfl⟩⟩
  · simp [Machine.clearSong, State.layer, LayerRec.freed]
  · simp [Machine.clearSong, State.recorder]
  · simp [Machine.clearSong, State.buffer]

theorem doQuery_reply (form n : Byte) (s : State) : ∃ m, doQuery form n s = reply m s := by
  unfold doQuery
  split
  case h_2 => split <;> exact ⟨_, rfl⟩
  case h_3 => split <;> exact ⟨_, rfl⟩
  all_goals exact ⟨_, rfl⟩

theorem Song.handle {s : State} (h : Song s) (q : Request) (hread : q.read) : Song (handle q s) := by
  cases q with
  | hello => exact h.reply _
  | laneSetup q => exact h.doLaneSetup q
  | gridSetup q => exact h.doGridSetup q
  | outputSetup q => exact h.doOutputSetup q
  | cue q => exact h.doCue q
  | layerSetup q => exact h.doLayerSetup q
  | bounce n slots => exact h.doBounce n slots hread
  | flush mode tag => exact h.doFlush mode tag
  | query form n =>
    obtain ⟨m, hm⟩ := doQuery_reply form n s
    show Song (doQuery form n s)
    rw [hm]
    exact h.reply m
  | clear => exact Song.clearSong _
  | restart => exact (h.reply (.accepted 0x0B)).same rfl rfl rfl rfl rfl rfl rfl rfl
  | rest =>
    show Song (doRest s)
    unfold doRest
    split
    · exact (h.reply (.accepted 0x0C)).same rfl rfl rfl rfl rfl rfl rfl rfl
    · exact h.reply _
  | badLength kind => exact h.reply _
  | unknownKind kind => exact h.reply _

/-! ## Reset, start-up, rest and wake -/

theorem Song.reset : State.reset.transport.Sound ∧ Song State.reset := song_of_sound _ songSound_reset playheadSound_reset

theorem Song.powerOn (cause : WakeCause) (s : State) : Song (powerOn cause s) :=
  Song.reset.2.same rfl rfl rfl rfl rfl rfl rfl rfl

/-- The port stands still, with no transfer. -/
theorem Song.stopWindows {s : State} (h : Song s) : Song (stopWindows s) :=
  ⟨h.core.released rfl rfl rfl (fun _ => rfl) (fun _ => rfl) rfl, h.job.congr rfl id fun _ _ => rfl, h.cues.same rfl rfl rfl⟩

theorem Song.setRest {s : State} (h : Song s) (r : RestControl) : Song (s.setRest r) := h.same rfl rfl rfl rfl rfl rfl rfl rfl

theorem Song.setMix {s : State} (h : Song s) (m : Mix) : Song (s.setMix m) := h.same rfl rfl rfl rfl rfl rfl rfl rfl

theorem Song.silenceOutputs {s : State} (h : Song s) : Song (silenceOutputs s) := h.setMix _

theorem Song.becomeAwake {s : State} (h : Song s) : Song (becomeAwake s) := by
  unfold Machine.becomeAwake
  dsimp only
  rw [raiseReport_eq_reported]
  exact ((h.stopWindows.silenceOutputs.setRest _).setLink _).reported _ _

theorem Song.enterRest {s : State} (h : Song s) : Song (enterRest s) := by
  unfold Machine.enterRest
  dsimp only
  have hstopped := h.stopWindows.silenceOutputs
  split
  · exact (((hstopped.setMix _).setLink _).setRest _).setRest _
  · exact ((hstopped.setMix _).setLink _).setRest _

theorem Song.drainDecision {s : State} (h : Song s) : Song (drainDecision s) := by
  unfold Machine.drainDecision
  split
  · rw [raiseReport_eq_reported]
    exact (h.setRest _).reported _ _
  · split
    · exact h.setRest _
    · exact h.enterRest

theorem Song.finishFrame {s : State} (h : Song s) : Song (finishFrame s) := by
  unfold Machine.finishFrame
  split
  · dsimp only
    split
    · exact Song.powerOn _ _
    · split
      · exact Song.drainDecision (h.setLink _)
      · exact h.setLink _
  · exact h

theorem Song.nrstLow {s : State} (h : Song s) : Song ((stopAll s).setRest { (stopAll s).rest with nrst := false }) := by
  have hstopped := h.releasePort.silenceOutputs
  exact hstopped.same rfl rfl rfl rfl rfl rfl rfl rfl

theorem Song.probe {s : State} (h : Song s) (device : StoreDevice) :
    Song ((probe device s).setRest { (probe device s).rest with probing := true }) := h.same rfl rfl rfl rfl rfl rfl rfl rfl

theorem Song.takeByte {s : State} (h : Song s) (b : Byte) (fault : Bool) : Song (takeByte b fault s) :=
  h.same (by simp) (by simp) (by simp) (by simp) (by simp) (by simp) (by simp) (by simp)

theorem Song.expireGap {s : State} (h : Song s) : Song (expireGap s) :=
  h.same (by simp) (by simp) (by simp) (by simp) (by simp) (by simp) (by simp) (by simp)

theorem Song.startFrame {s : State} (h : Song s) : Song (startFrame s) :=
  h.same (by simp) (by simp) (by simp) (by simp) (by simp) (by simp) (by simp) (by simp)

end Sys2Proof.Machine
end

section
/-! The playhead in its song, through every step. -/

namespace Sys2Proof.Machine

/-! ## The transport record at a sample period and at a request -/

/-- One sample period moves the playhead on inside its cycle. -/
theorem Transport.Sound.advanced {t u : Transport} (h : t.Sound) (hin : t.Inside)
    (hu : u = if t.moves = true then t.advanced else if t.freeDefining = true then { t with p := t.p + 1 } else t) : u.Sound := by
  obtain ⟨hmove, hfree⟩ := hin
  by_cases hm : t.moves = true
  · rw [hu, if_pos hm]
    have hs := (moves_iff t).mp hm
    have hlt := hmove hm
    have hne : t.state ≠ .idle ∧ ¬(t.state = .halted ∨ t.state = .priming) ∧ ¬(t.state = .defining ∧ t.mode = .free) := by
      rcases hs with hs | ⟨hs, hg⟩
      · rw [hs]
        exact ⟨nofun, nofun, nofun⟩
      · rw [hs, hg]
        exact ⟨nofun, nofun, nofun⟩
    obtain ⟨hidle, hstopped, hfd⟩ := hne
    refine ⟨h.grid, h.counters, fun hi => absurd hi hidle, fun hd hg => absurd ⟨hd, hg⟩ hfd, fun _ _ => ?_,
      fun hst => absurd hst hstopped, fun hb => ⟨hm, Nat.succ_pos _, ?_⟩⟩
    · obtain ⟨n, hn, h1, h2, -⟩ := h.cycle hidle hfd
      rw [hn] at hlt
      exact ⟨n, hn, h1, h2, hlt⟩
    · exact of_decide_eq_true (Bool.and_eq_true_iff.mp hb).1
  · rw [hu, if_neg hm]
    by_cases hf : t.freeDefining = true
    · rw [if_pos hf]
      obtain ⟨hd, hg⟩ : t.state = .defining ∧ t.mode = .free := by simpa [freeDefining] using hf
      refine ⟨h.grid, h.counters, fun hi => ?_, fun _ _ => ⟨(h.defining hd hg).1, hfree hf⟩, fun _ hn => absurd ⟨hd, hg⟩ hn,
        fun hs => ?_, fun hb => absurd (h.beat hb).1 hm⟩
      · rw [hd] at hi
        cases hi
      · rw [hd] at hs
        exact hs.elim nofun nofun
    · rw [if_neg hf]
      exact h

/-- The pulse is no matter of the playhead. -/
theorem Transport.Sound.pulsedAnew {t : Transport} (h : t.Sound) (n : Nat) (pin : Bool) (m : PulseMode) :
    Transport.Sound { t with pulseRemaining := n, pin := pin, pulseMode := m } :=
  ⟨h.grid, h.counters, h.idle, h.defining, h.cycle, h.stopped, h.beat⟩

theorem Transport.Sound.noPulse {t : Transport} (h : t.Sound) : t.noPulse.Sound := h.pulsedAnew 0 false t.pulseMode

theorem Transport.Sound.setPulseMode {t : Transport} (h : t.Sound) (m : PulseMode) : (t.setPulseMode m).Sound := by
  unfold Transport.setPulseMode
  split
  · exact h.pulsedAnew 0 false .off
  · exact h.pulsedAnew t.pulseRemaining t.pin m

/-- GRID_SETUP in IDLE brings values in their ranges. -/
theorem Transport.Sound.setGrid {t : Transport} (h : t.Sound) (q : GridSetup) (hi : t.state = .idle) (hv : gridValid q = true) :
    (t.setGrid q).Sound := by
  simp only [gridValid, Bool.and_eq_true, decide_eq_true_eq] at hv
  obtain ⟨⟨⟨-, h1⟩, h32⟩, -⟩ := hv
  refine ⟨⟨h1, h32, ?_, ?_⟩, h.counters, h.idle, fun hd _ => ?_, fun hn _ => absurd hi hn, h.stopped, fun hb => ?_⟩
  · show 400 ≤ clampTempo q.tempo.toNat
    unfold clampTempo
    omega
  · show clampTempo q.tempo.toNat ≤ 3000
    unfold clampTempo
    omega
  · have hd' : t.state = .defining := hd
    rw [hi] at hd'
    cases hd'
  · have hm := (h.beat hb).1
    simp [Transport.moves, hi] at hm

/-! ## The invariant -/

/-- A sound playhead and the song it moves in. -/
def State.Sounding (s : State) : Prop := s.transport.Sound ∧ Song s

theorem State.Sounding.of_reaches {s t : State} (h : s.Sounding) (hr : s.transport.Reaches t.transport) (ht : Song t) : t.Sounding :=
  ⟨hr.sound h.1, ht⟩

theorem State.Sounding.of_same {s t : State} (h : s.Sounding) (he : t.transport = s.transport) (ht : Song t) : t.Sounding :=
  h.of_reaches (.of_eq he) ht

theorem State.Sounding.handle {s : State} (h : s.Sounding) (q : Request) (hread : q.read) : (handle q s).Sounding := by
  have hsong := h.2.handle q hread
  cases q with
  | cue q =>
    refine h.of_reaches ?_ hsong
    show s.transport.Reaches (doCue q s).transport
    unfold doCue
    split
    · exact .of_eq (by simp)
    · unfold cueNow
      dsimp only
      split
      · next hok => exact .of_same (.applyCue _ _ _ _ _ hok) rfl
      · exact .of_eq (by simp)
    · exact .of_eq (by simp)
  | gridSetup q =>
    refine ⟨?_, hsong⟩
    show (doGridSetup q s).transport.Sound
    unfold doGridSetup
    split
    · next hv =>
      split
      · next hi => exact h.1.setGrid q hi hv
      · exact h.1
    · exact h.1
  | outputSetup q =>
    refine ⟨?_, hsong⟩
    show (doOutputSetup q s).transport.Sound
    unfold doOutputSetup
    split
    · show (outputAfter q s).transport.Sound
      rw [outputAfter_transport]
      unfold ifNamed
      split
      · exact h.1.setPulseMode _
      · exact h.1
    · exact h.1
  | clear => exact ⟨(Transport.Reaches.idled s.transport).sound h.1, hsong⟩
  | hello => exact h.of_same (by simp [Machine.handle]) hsong
  | laneSetup => exact h.of_same (by simp [Machine.handle]) hsong
  | layerSetup => exact h.of_same (by simp [Machine.handle]) hsong
  | bounce => exact h.of_same (by simp [Machine.handle]) hsong
  | flush => exact h.of_same (by simp [Machine.handle]) hsong
  | query => exact h.of_same (by simp [Machine.handle]) hsong
  | restart => exact h.of_same (by simp [Machine.handle]) hsong
  | rest => exact h.of_same (by simp [Machine.handle]) hsong
  | badLength => exact h.of_same (by simp [Machine.handle]) hsong
  | unknownKind => exact h.of_same (by simp [Machine.handle]) hsong

theorem State.Sounding.powerOn (cause : WakeCause) (s : State) : (powerOn cause s).Sounding := ⟨Song.reset.1, Song.powerOn cause s⟩

theorem State.Sounding.finishFrame {s : State} (h : s.Sounding) : (finishFrame s).Sounding := by
  refine ⟨?_, h.2.finishFrame⟩
  unfold Machine.finishFrame
  split
  · dsimp only
    split
    · exact Song.reset.1
    · split
      · rw [(drainDecision_frame _).1]
        exact h.1
      · exact h.1
  · exact h.1

/-- Every event keeps the playhead sound in its song. -/
theorem sounding_kept : KeptByEvents State.Sounding where
  pending s q h := h.of_same rfl (h.2.same rfl rfl rfl rfl rfl rfl rfl rfl)
  takeFull s r hd h := h.of_reaches (.endTake _ _ _)
    (h.2.endTake .full r (h.2.plain_of_stoppable r (Bool.and_eq_true_iff.mp hd).1).1)
  pulseEnd s _ h := ⟨h.1.pulsedAnew _ false _, h.2.setTransport _ rfl⟩
  clickEnd s h := h.of_same rfl (h.2.setMix _)
  selfClose s hd h := by
    have hstate : s.transport.state = .defining ∧ s.transport.mode = .free := by
      simpa [Transport.freeDefining] using (Bool.and_eq_true_iff.mp hd).1
    exact h.of_reaches (.selfClose s hd) (h.2.closure 1 _ ⟨le_refl _, by omega⟩ hstate.1)
  windowEnd s l _ h := h.of_reaches (.endWindow l s) (h.2.endWindow l)
  cycleStart s hd h := h.of_reaches (.wrapCycle s hd) (h.2.wrapCycle (moves_of_cycleStartDue s hd) h.1.counters.2.1)
  beat s hd h := h.of_reaches (.takeBeat s (moves_of_beatDue s hd)) (h.2.takeBeat (moves_of_beatDue s hd))
  complete s x hx h := h.of_reaches (.complete x s) (h.2.complete x hx)
  decidePort s h := h.of_reaches (.decidePort s) h.2.decidePort
  startFrame s h := h.of_same (startFrame_frame s).1 h.2.startFrame
  pop s h := h.of_same rfl (h.2.setLink _)
  handle q s hread _ h := h.handle q hread
  window s h := h.of_same rfl (h.2.same rfl rfl rfl rfl rfl rfl rfl rfl)
  byte b fault s h := h.of_same (by simp) (h.2.takeByte b fault)
  gap s h := h.of_same (by simp) h.2.expireGap
  sent s h := h.finishFrame
  hold level s h := h.of_same rfl (h.2.setLink _)
  nrstLow s h := by
    refine ⟨?_, h.2.nrstLow⟩
    have ht : ((stopAll s).setRest { (stopAll s).rest with nrst := false }).transport = s.transport.noPulse := by
      simp [stopAll]
    rw [ht]
    exact h.1.noPulse
  powerOn cause s _ := .powerOn cause s
  probe device s _ h := h.of_same rfl (h.2.probe device)
  awake s h := h.of_same (by simp) h.2.becomeAwake
  wake level s h := h.of_same rfl (h.2.setRest _)
  startWake cause s _ _ h := h.of_same rfl (h.2.setRest _)
  falseWake s _ h := h.of_same rfl (h.2.setRest _)

/-- A sample period that finds the playhead inside its cycle. -/
theorem State.Sounding.tick {s : State} (h : s.Sounding) (hin : s.transport.Inside) (x : Lane → Int) : (tick x s).Sounding := by
  refine ⟨?_, h.2.tick x⟩
  rw [tick_eq_countedOn]
  have hexhausted := h.2.measureLanes (laneValue s x) |>.exhaustFree
  have hway : s.transport.Reaches (exhaustFree (measureLanes (laneValue s x) s)).transport :=
    Transport.Reaches.of_same (.exhaustFree _) rfl
  obtain ⟨-, hrecorded⟩ := hexhausted.recordAll (laneValue s x)
  have hreach := hway.trans hrecorded
  have hsound := hreach.sound h.1
  have hinside := hreach.inside h.1 hin
  generalize recordAll (laneValue s x) (exhaustFree (measureLanes (laneValue s x) s)) = u at hsound hinside ⊢
  unfold State.countedOn
  have hserved : (serveLayers (formMix (laneValue s x) u)).transport = u.transport := by simp
  generalize serveLayers (formMix (laneValue s x) u) = v at hserved ⊢
  have hadvanced : (advancePlayhead (countPulse v)).transport.Sound := by
    refine Transport.Sound.advanced (t := (countPulse v).transport) ?_ ?_ ?_
    · show Transport.Sound { v.transport with pulseRemaining := v.transport.pulseRemaining - 1 }
      rw [hserved]
      exact hsound.pulsedAnew _ _ _
    · show Transport.Inside { v.transport with pulseRemaining := v.transport.pulseRemaining - 1 }
      rw [hserved]
      exact hinside
    · unfold advancePlayhead
      split
      · rfl
      · split <;> rfl
  have hplaced := (Transport.Reaches.placeAll (advancePlayhead (countPulse v))).sound hadvanced
  have hport : ∀ w : State, (tickPort w).transport = w.transport := fun _ => rfl
  rw [hport]
  exact hplaced

/-- Settles O8: the playhead is sound in a song whose layers, takes, job and cues agree (`State.Sounding`), which every event keeps; and
the events that are due have the playhead inside its cycle when a sample period comes (`settle_inside`). -/
theorem stepKeepsThePlayheadSound : Obligations.StepKeepsThePlayheadSound := by
  intro s t hsong hplayhead hstep
  have hstart : s.Sounding := song_of_sound s hsong hplayhead
  have hend := sounding_kept.step (fun x u hu hrun =>
    (sounding_kept.windowStart _ (sounding_kept.settle u hu)).tick (settle_inside sounding_kept (fun _ h => h.1) u hu hrun) x)
    s t hstart hstep
  exact hend.2.playheadSound hend.1

end Sys2Proof.Machine
end

section
/-! LAYER_SETUP, and MUTE and UNMUTE: one record or one flag written. -/

namespace Sys2Proof.Machine

/-! ## LAYER_SETUP -/

/-- The value check of LAYER_SETUP fails exactly for a slot, a named fade or a named group out of its range. -/
theorem layerValid_eq_false_iff (slot mask : Byte) (gain : BitVec 16) (pan : Byte) (fade : BitVec 16) (group : Byte) :
    layerValid ⟨slot, mask, gain, pan, fade, group⟩ = false ↔
      23 < slot.toNat ∨ (mask.getLsbD 2 = true ∧ fade.toNat ∉ [0, 32, 64, 128, 256, 512, 1024]) ∨
        (mask.getLsbD 3 = true ∧ 3 < group.toNat) := by
  rw [← Bool.not_eq_true]
  simp only [layerValid, isFade, named, Bool.and_eq_true, Bool.or_eq_true, Bool.not_eq_true', decide_eq_true_eq,
    List.contains_iff_mem, not_and_or, not_or, not_le, Bool.not_eq_false, or_assoc]

/-- Settles O19: the checks in their order, then the named settings. -/
theorem layerSetupIsAsR44Gives : Obligations.LayerSetupIsAsR44Gives := by
  intro s slot mask gain pan fade group h bad
  have hexec : exec (.layerSetup slot mask gain pan fade group) s = .next (doLayerSetup ⟨slot, mask, gain, pan, fade, group⟩ s) :=
    congrArg Host.Outcome.next (takeRequest_ready _ s h)
  have hbad := layerValid_eq_false_iff slot mask gain pan fade group
  refine ⟨fun hb => ?_, fun sl hb hsl => ?_⟩
  · rw [hexec, doLayerSetup, hbad.mpr hb]
    rfl
  · have hvalid : layerValid ⟨slot, mask, gain, pan, fade, group⟩ = true := by
      simpa using mt hbad.mp hb
    rw [hexec, doLayerSetup, if_pos hvalid]
    simp only [byteFin_eq slot sl hsl]
    show Host.Outcome.next (if (s.layer sl).state = .free ∨ (s.layer sl).state = .building then _ else _) =
      .next (if (s.layer sl).state = .free ∨ (s.layer sl).state = .building then _ else _)
    split
    · rfl
    · show Host.Outcome.next (if (s.layer sl).held = true then _ else _) = .next (if (s.layer sl).held = true then _ else _)
      split
      · rfl
      · rfl

/-! ## MUTE and UNMUTE -/

/-- MUTE, or UNMUTE. -/
def muteKind (on : Bool) : CueKind := if on then .mute else .unmute

theorem linkFree_applyMute (on : Bool) (p1 p2 : Byte) : LinkFree (applyMute on p1 p2) where
  comm s l := by
    unfold applyMute
    split <;> rfl
  link s := by
    unfold applyMute
    split <;> rfl

theorem applyCue_muteKind (on : Bool) (p1 p2 p3 : Byte) (s : State) : applyCue (muteKind on) p1 p2 p3 s = applyMute on p1 p2 s := by
  cases on <;> rfl

/-- Outside IDLE the outcome of MUTE and UNMUTE is that of the layer or the group. -/
theorem cueResult_muteKind (on : Bool) (p1 p2 : Byte) (s : State) (h : s.transport.state ≠ .idle) :
    cueResult (muteKind on) p1 p2 s = muteResult p1 p2 s := by
  cases on <;> simp [muteKind, cueResult, stateRefusal, h]

theorem paramsInRange_muteKind (on : Bool) (p1 p2 p3 : Byte) (h : (p1 = 0 ∧ p2.toNat ≤ 23) ∨ (p1 = 1 ∧ p2.toNat ≤ 3)) :
    paramsInRange (muteKind on) p1 p2 p3 = true := by
  cases on <;> simpa [muteKind, paramsInRange] using h

/-- A MUTE or UNMUTE whose outcome is OK writes its flag behind the reply. -/
theorem takeRequest_muteKind_ok (on : Bool) (tag p1 p2 : Byte) (s : State) (affected : Nat) (h : ready s)
    (hi : s.transport.state ≠ .idle) (hp : (p1 = 0 ∧ p2.toNat ≤ 23) ∨ (p1 = 1 ∧ p2.toNat ≤ 3))
    (hr : muteResult p1 p2 s = (.ok, affected)) :
    takeRequest (cueRequest (muteKind on) tag p1 p2 0) s = (applyMute on p1 p2 s).queued [s.cueReply .ok tag affected] :=
  takeRequest_cue_linkFree (muteKind on) tag p1 p2 0 s affected (linkFree_applyMute on p1 p2) (applyCue_muteKind on p1 p2 0 s)
    (fun _ => applyCue_muteKind on p1 p2 0 _) (by simp) h (paramsInRange_muteKind on p1 p2 0 hp)
    ((cueResult_muteKind on p1 p2 s hi).trans hr)

theorem muteResult_layer (p2 : Byte) (sl : Slot) (s : State) (hsl : p2.toNat = sl.val) :
    muteResult 0 p2 s = if (s.layer sl).state.cycles then (.ok, sl.val) else (.noSuchLayer, 255) := by
  simp [muteResult, byteFin_eq p2 sl hsl]

/-- Settles O27: the outcome from the layer's state (`muteResult_layer`), the effect from `takeRequest_muteKind_ok`. -/
theorem muteRowsWriteOneFlag : Obligations.MuteRowsWriteOneFlag := by
  intro s tag slot group sl g h hi hsl hg set setGroup none
  have hslot : ((0 : Byte) = 0 ∧ slot.toNat ≤ 23) ∨ ((0 : Byte) = 1 ∧ slot.toNat ≤ 3) := .inl ⟨rfl, by omega⟩
  have hgroup : ((1 : Byte) = 0 ∧ group.toNat ≤ 23) ∨ ((1 : Byte) = 1 ∧ group.toNat ≤ 3) := .inr ⟨rfl, by omega⟩
  have hresult := muteResult_layer slot sl s hsl
  have hwritten : ∀ on, (s.layer sl).state.cycles = true →
      takeRequest (cueRequest (muteKind on) tag 0 slot 0) s = set on := fun on hc => by
    rw [if_pos hc] at hresult
    rw [takeRequest_muteKind_ok on tag 0 slot s sl.val h hi hslot hresult, applyMute, if_neg (by decide), byteFin_eq slot sl hsl]
    rfl
  have hrefused : ∀ on, (s.layer sl).state.cycles ≠ true →
      takeRequest (cueRequest (muteKind on) tag 0 slot 0) s = none := fun on hc => by
    rw [if_neg hc] at hresult
    exact takeRequest_cue_refused (muteKind on) tag 0 slot 0 s .noSuchLayer 255 h (paramsInRange_muteKind on 0 slot 0 hslot)
      ((cueResult_muteKind on 0 slot s hi).trans hresult) (by decide)
  have hgrouped : ∀ on, takeRequest (cueRequest (muteKind on) tag 1 group 0) s = setGroup on := fun on => by
    rw [takeRequest_muteKind_ok on tag 1 group s 255 h hi hgroup rfl, applyMute, if_pos rfl]
    simp only [byteFin_eq group g hg]
    rfl
  refine ⟨fun hc => ?_, fun hc => ?_, congrArg _ (hgrouped true), congrArg _ (hgrouped false)⟩
  · have hcycles : (s.layer sl).state.cycles = true := by
      rcases hc with hc | hc | hc | hc <;> rw [hc] <;> rfl
    exact ⟨congrArg _ (hwritten true hcycles), congrArg _ (hwritten false hcycles)⟩
  · have hnone : (s.layer sl).state.cycles ≠ true := by
      rw [Ne, cycles_iff, not_not]
      exact hc
    exact ⟨congrArg _ (hrefused true hnone), congrArg _ (hrefused false hnone)⟩

end Sys2Proof.Machine
end

section
/-! STOP_TAKE and TAKE_FULL. -/

namespace Sys2Proof.Machine

theorem stoppable_iff (q : RecorderRec) : stoppable q = true ↔ q.state = .recording ∧ q.base = false := by
  simp [stoppable]

/-- STOP_TAKE with a recorder's number stops that recorder if it may be stopped. -/
theorem stopTarget_number (s : State) (p : Byte) (r : Recorder) (hr : p.toNat = r.val) :
    stopTarget s p = if stoppable (s.recorder r) then some r else none := by
  have hp : p ≠ 255 := by
    rintro rfl
    have : r.val < 4 := r.isLt
    rw [← hr] at this
    revert this
    decide
  simp only [stopTarget, if_neg hp, byteFin_eq p r hr]

/-- STOP_TAKE with 255 stops the latest take of the take order list that may be stopped. -/
theorem stopTarget_newest (s : State) (older newer : List Recorder) (r : Recorder) (ho : s.takes.order = older ++ r :: newer)
    (hr : stoppable (s.recorder r) = true) (hn : ∀ x ∈ newer, ¬stoppable (s.recorder x) = true) : stopTarget s 255 = some r := by
  have hnone : newer.reverse.find? (fun x => stoppable (s.recorder x)) = none :=
    List.find?_eq_none.mpr fun x hx => hn x (List.mem_reverse.mp hx)
  simp [stopTarget, ho, List.find?_append, hnone, hr]

theorem stopTarget_none (s : State) (h : ∀ r ∈ s.takes.order, ¬stoppable (s.recorder r) = true) : stopTarget s 255 = none := by
  simpa [stopTarget] using h

theorem cueResult_stopTake_none (s : State) (p1 p2 : Byte) (hi : s.transport.state ≠ .idle) (h : stopTarget s p1 = none) :
    cueResult .stopTake p1 p2 s = (.nothing, 255) := by
  simp only [cueResult, stateRefusal, if_neg hi, h]

theorem cueResult_stopTake_some (s : State) (p1 p2 : Byte) (r : Recorder) (hi : s.transport.state ≠ .idle)
    (h : stopTarget s p1 = some r) : cueResult .stopTake p1 p2 s = (.ok, r.val) := by
  simp only [cueResult, stateRefusal, if_neg hi, h]

theorem paramsInRange_stopTake (p1 p2 p3 : Byte) (h : p1.toNat ≤ 3 ∨ p1.toNat = 255) : paramsInRange .stopTake p1 p2 p3 = true := by
  have h255 : p1.toNat = 255 → p1 = 255 := fun h => BitVec.eq_of_toNat_eq h
  simpa [paramsInRange] using h.imp id h255

/-- Settles O26: the take that STOP_TAKE finds by `stopTarget_number` and `stopTarget_newest`, its end by `endTake_eq`. -/
theorem takesEndWhenStoppedOrFull : Obligations.TakesEndWhenStoppedOrFull := by
  intro s tag recorder running
  have hrunning : ∀ r, stoppable (s.recorder r) = true ↔ running r := fun r => stoppable_iff _
  have h255 : recorder.toNat = 255 → recorder = 255 := fun h => BitVec.eq_of_toNat_eq h
  refine ⟨fun h hi => ⟨fun hnone => ?_, fun r hr htail hslot hname => ?_⟩, fun hrun r sl hr htail hslot hlen hfull => ?_⟩
  · have hresult : stopTarget s recorder = none := by
      rcases hnone with ⟨r, hname, hr⟩ | ⟨hname, hr⟩
      · rw [stopTarget_number s recorder r hname, if_neg (mt (hrunning r).mp hr)]
      · rw [h255 hname]
        exact stopTarget_none s fun r hmem => mt (hrunning r).mp (hr r hmem)
    have hparams : recorder.toNat ≤ 3 ∨ recorder.toNat = 255 := by
      rcases hnone with ⟨r, hname, -⟩ | ⟨hname, -⟩
      · exact .inl (by omega)
      · exact .inr hname
    exact congrArg Host.Outcome.next (takeRequest_cue_refused .stopTake tag recorder 0 0 s .nothing 255 h
      (paramsInRange_stopTake recorder 0 0 hparams) (cueResult_stopTake_none s recorder 0 hi hresult) (by decide))
  · have hresult : stopTarget s recorder = some r := by
      rcases hname with hname | ⟨hname, older, newer, ho, hn⟩
      · rw [stopTarget_number s recorder r hname, if_pos ((hrunning r).mpr hr)]
      · rw [h255 hname]
        exact stopTarget_newest s older newer r ho ((hrunning r).mpr hr) fun x hx => mt (hrunning x).mp (hn x hx)
    have hparams : recorder.toNat ≤ 3 ∨ recorder.toNat = 255 := hname.imp (fun hname => by omega) fun hname => hname.1
    have hcue := takeRequest_cue_ok .stopTake tag recorder 0 0 s r.val h (paramsInRange_stopTake recorder 0 0 hparams)
      (cueResult_stopTake_some s recorder 0 r hi hresult)
    have happly : ∀ u : State, u.takes = s.takes → applyCue .stopTake recorder 0 0 u = endTake .stopped u r := fun u hu => by
      have htarget : stopTarget u recorder = some r := by
        rw [← hresult]
        unfold stopTarget State.recorder
        rw [hu]
      simp only [applyCue, applyQueued, htarget]
    refine congrArg Host.Outcome.next (hcue.trans ?_)
    rw [happly (s.queued _) rfl, happly s rfl, cueReply_of_cues (s := s) (by simp), endTake_eq .stopped (s.queued _) r htail hr.2]
  · have hdue : takeFullDue s r = true := by
      simp only [takeFullDue, (hrunning r).mpr hr, hslot, timeline, Transport.cycleLength, Bool.true_and, Bool.and_eq_true,
        decide_eq_true_eq]
      exact ⟨hlen, decide_eq_true hfull⟩
    exact congrArg Host.Outcome.next ((takeEvent_due _ _ s hrun hdue).trans (endTake_eq .full s r htail hr.2))

end Sys2Proof.Machine
end

section
/-! The release of the redo list, and START_TAKE. -/

namespace Sys2Proof.Machine

/-! ## The lowest number that meets a test -/

theorem find?_of_lowest {α : Type} [LT α] {p : α → Bool} {xs : List α} (hs : xs.Pairwise (· < ·)) {x : α} (hx : x ∈ xs)
    (hp : p x = true) (hlow : ∀ y, y < x → p y = false) : xs.find? p = some x := by
  obtain ⟨before, after, rfl⟩ := List.append_of_mem hx
  obtain ⟨-, -, hbefore⟩ := List.pairwise_append.mp hs
  refine List.find?_eq_some_iff_append.mpr ⟨hp, before, after, rfl, fun y hy => ?_⟩
  rw [hlow y (hbefore y hy x List.mem_cons_self)]
  rfl

theorem findSlot_of_lowest {s : State} {test : LayerRec → Bool} {x : Slot} (hx : test (s.layer x) = true)
    (hlow : ∀ y, y < x → test (s.layer y) = false) : findSlot s test = some x :=
  find?_of_lowest (slotNumbers_eq ▸ List.pairwise_lt_finRange 24) (mem_slotNumbers x) hx hlow

theorem idleRecorder_of_lowest {s : State} {r : Recorder} (hr : (s.recorder r).state = .idle)
    (hlow : ∀ q, q < r → (s.recorder q).state ≠ .idle) : idleRecorder s = some r :=
  find?_of_lowest (p := fun q => decide ((s.recorder q).state = .idle)) (recorderNumbers_eq ▸ List.pairwise_lt_finRange 4)
    (mem_recorderNumbers r) (decide_eq_true hr) fun q hq => decide_eq_false (hlow q hq)

/-! ## The release of the redo list -/

theorem linkFree_releaseRedo : LinkFree releaseRedo where
  comm s l := (LinkFree.foldl linkFree_freeLayer s.table.redo).comm s l
  link s := by simp

theorem songFreed_releaseRedo (s : State) : ∃ idle, SongFreed s (releaseRedo s) (fun x => s.table.redo.contains x) idle := by
  obtain ⟨idle, h, -⟩ := (songFreed_refl s).freeLayers s.table.redo
  exact ⟨idle, h.of_gone fun x => Bool.false_or _⟩

theorem releaseRedo_redo (s : State) : (releaseRedo s).table.redo = [] := by
  obtain ⟨idle, h⟩ := songFreed_releaseRedo s
  rw [h.redo, List.filter_eq_nil_iff]
  intro x hx
  simp [hx]

theorem releaseRedo_layer (s : State) (x : Slot) :
    (releaseRedo s).layer x = if x ∈ s.table.redo then LayerRec.freed else s.layer x := by
  obtain ⟨idle, h⟩ := songFreed_releaseRedo s
  rw [h.layer]
  simp

theorem mem_releaseRedo_pool (s : State) (page : Nat) :
    page ∈ (releaseRedo s).store.pool ↔ page ∈ s.store.pool ∨ ∃ x ∈ s.table.redo, page ∈ pagesOf (s.layer x).extents := by
  obtain ⟨idle, h⟩ := songFreed_releaseRedo s
  rw [h.pool]
  simp

theorem releaseRedo_pool_pairwise (s : State) (h : s.store.pool.Pairwise (· < ·)) :
    (releaseRedo s).store.pool.Pairwise (· < ·) := by
  obtain ⟨idle, hf⟩ := songFreed_releaseRedo s
  exact hf.sorted h

/-- What the release leaves FREE was FREE or PARKED. -/
theorem releaseRedo_free_iff {s : State} (hredo : ∀ x, x ∈ s.table.redo ↔ (s.layer x).state = .parked) (x : Slot) :
    ((releaseRedo s).layer x).state = .free ↔ (s.layer x).state = .free ∨ (s.layer x).state = .parked := by
  rw [releaseRedo_layer]
  split
  · next hx => exact ⟨fun _ => .inr ((hredo x).mp hx), fun _ => rfl⟩
  · next hx => exact ⟨.inl, fun h => h.resolve_right fun hp => hx ((hredo x).mpr hp)⟩

/-- The pool as it is counted holds the pages of the pool and of the PARKED layers. -/
theorem mem_countedPool (s : State) (page : Nat) :
    page ∈ countedPool s ↔ page ∈ s.store.pool ∨ ∃ x, (s.layer x).state = .parked ∧ page ∈ pagesOf (s.layer x).extents := by
  have hfold : ∀ xs : List Slot,
      page ∈ xs.foldr (fun sl pool => if (s.layer sl).state = .parked then insertPages (pagesOf (s.layer sl).extents) pool else pool)
        s.store.pool ↔
      page ∈ s.store.pool ∨ ∃ x ∈ xs, (s.layer x).state = .parked ∧ page ∈ pagesOf (s.layer x).extents := by
    intro xs
    induction xs with
    | nil => simp
    | cons y rest ih =>
      rw [List.foldr_cons]
      simp only [List.exists_mem_cons_iff]
      split
      · next hy =>
        rw [mem_insertPages, ih]
        tauto
      · next hy =>
        rw [ih]
        tauto
  rw [countedPool, hfold slotNumbers]
  simp [mem_slotNumbers]

theorem countedPool_pairwise (s : State) (h : s.store.pool.Pairwise (· < ·)) : (countedPool s).Pairwise (· < ·) := by
  unfold countedPool
  generalize slotNumbers = xs
  induction xs with
  | nil => exact h
  | cons y rest ih =>
    rw [List.foldr_cons]
    split
    · exact insertPages_pairwise _ _ ih
    · exact ih

/-- The pages of the PARKED layers are counted as if the redo list were released. -/
theorem mem_countedPool_iff_releaseRedo {s : State} (hredo : ∀ x, x ∈ s.table.redo ↔ (s.layer x).state = .parked) (page : Nat) :
    page ∈ countedPool s ↔ page ∈ (releaseRedo s).store.pool := by
  rw [mem_countedPool, mem_releaseRedo_pool]
  simp only [hredo]

/-- The pool counted is the pool behind the release. -/
theorem countedPool_eq_releaseRedo {s : State} (hredo : ∀ x, x ∈ s.table.redo ↔ (s.layer x).state = .parked)
    (hsorted : s.store.pool.Pairwise (· < ·)) : countedPool s = (releaseRedo s).store.pool := by
  have hc := countedPool_pairwise s hsorted
  have hr := releaseRedo_pool_pairwise s hsorted
  have hperm : (countedPool s).Perm (releaseRedo s).store.pool :=
    (List.perm_ext_iff_of_nodup (hc.imp ne_of_lt) (hr.imp ne_of_lt)).mpr (mem_countedPool_iff_releaseRedo hredo)
  exact hperm.eq_of_pairwise (fun _ _ _ _ h1 h2 => absurd h1 (lt_asymm h2)) hc hr

/-! ## The admission of a take -/

/-- The outcome of a start whose every test is passed. -/
theorem takeRefusal_eq_none {s : State} {l : Lane} (he : (s.lane l).enable = true) (hp : s.store.pages ≠ 0)
    (hr : ∃ q, (s.recorder q).state = .idle) (hsl : ∃ x, (s.layer x).state = .free ∨ (s.layer x).state = .parked)
    (hc : countedPool s ≠ []) : takeRefusal l s = none := by
  have hrec : idleRecorder s ≠ none := fun hn => by
    obtain ⟨q, hq⟩ := hr
    have := List.find?_eq_none.mp hn q (mem_recorderNumbers q)
    simp [hq] at this
  have hslot : findSlot s (fun l => l.state == .free || l.state == .parked) ≠ none := fun hn => by
    obtain ⟨x, hx⟩ := hsl
    have := List.find?_eq_none.mp hn x (mem_slotNumbers x)
    rcases hx with hx | hx <;> simp [hx] at this
  simp [takeRefusal, he, hp, hrec, hslot, hc]

/-- The slot named by the reply is the one that the release leaves lowest. -/
theorem slotToCome_eq {s : State} (hredo : ∀ x, x ∈ s.table.redo ↔ (s.layer x).state = .parked) {sl : Slot}
    (hsl : ((releaseRedo s).layer sl).state = .free) (hlow : ∀ x, x < sl → ((releaseRedo s).layer x).state ≠ .free) :
    slotToCome s = sl.val := by
  have htest : ∀ x, ((s.layer x).state == .free || (s.layer x).state == .parked) = true ↔
      ((releaseRedo s).layer x).state = .free := fun x => by
    rw [releaseRedo_free_iff hredo]
    simp
  unfold slotToCome
  rw [findSlot_of_lowest (x := sl) ((htest sl).mpr hsl) fun x hx => by
    rw [← Bool.not_eq_true]
    exact mt (htest x).mp (hlow x hx)]
  rfl

/-- The steps of an admission with recorder, slot and page chosen. -/
theorem admitTake_eq {s : State} {r : Recorder} {sl : Slot} (l : Lane) (m : Nat) (g : Group) {page : Nat} {rest : List Nat}
    (hpool : (releaseRedo s).store.pool = page :: rest) (hr : idleRecorder (releaseRedo s) = some r)
    (hsl : findSlot (releaseRedo s) (fun l => l.state == .free) = some sl) :
    admitTake l m g false s.transport.p s = (releaseRedo s).withTakeBegun r sl l m g page rest := by
  have hp : s.transport.p = (releaseRedo s).transport.p := by simp
  unfold admitTake
  dsimp only
  rw [hp]
  generalize releaseRedo s = u at *
  rw [hr, hsl]
  dsimp only
  unfold admitWith acquirePage
  dsimp only [State.setLayer_store, State.setTakes_store]
  rw [hpool]
  dsimp only
  rw [State.setLayer_layer, if_pos rfl]
  dsimp only [takeLayer, LayerRec.freed, appendPage, List.getLast?_nil]
  unfold State.setLayer
  dsimp only [State.setTable, State.setTakes, State.setStore]
  rw [Vector.set_set]
  rfl

theorem withTakeBegun_queued (s : State) (ms : List Message) (r : Recorder) (sl : Slot) (l : Lane) (m : Nat) (g : Group)
    (page : Nat) (rest : List Nat) :
    (s.queued ms).withTakeBegun r sl l m g page rest = (s.withTakeBegun r sl l m g page rest).queued ms := rfl

/-- A START_TAKE that passes its tests, over whatever redo list. -/
theorem exec_startTake {s : State} {tag lane multiple group : Byte} {l : Lane} {g : Group} {r : Recorder} {sl : Slot} {page : Nat}
    {rest : List Nat} (h : ready s) (hlane : lane.toNat = l.val) (hgroup : group.toNat = g.val)
    (hm1 : 1 ≤ multiple.toNat) (hm8 : multiple.toNat ≤ 8) (hmoves : s.transport.moves = true) (he : (s.lane l).enable = true)
    (hpages : s.store.pages ≠ 0) (hidle : ∃ q, (s.recorder q).state = .idle)
    (hredo : ∀ x, x ∈ s.table.redo ↔ (s.layer x).state = .parked) (hpool : (releaseRedo s).store.pool = page :: rest)
    (hr : ((releaseRedo s).recorder r).state = .idle) (hrlow : ∀ x, x < r → ((releaseRedo s).recorder x).state ≠ .idle)
    (hsl : ((releaseRedo s).layer sl).state = .free) (hsllow : ∀ x, x < sl → ((releaseRedo s).layer x).state ≠ .free) :
    exec (.startTake tag lane multiple group) s =
      .next (((releaseRedo s).withTakeBegun r sl l multiple.toNat g page rest).queued [s.cueReply .ok tag sl.val]) := by
  have hl : byteFin 4 lane = l := byteFin_eq lane l hlane
  have hg : byteFin 4 group = g := byteFin_eq group g hgroup
  have hparams : paramsInRange .startTake lane multiple group = true := by
    simp only [paramsInRange, Bool.and_eq_true, decide_eq_true_eq]
    omega
  have hcounted : countedPool s ≠ [] := List.ne_nil_of_mem
    ((mem_countedPool_iff_releaseRedo hredo page).mpr (by rw [hpool]; exact List.mem_cons_self))
  have hresult : cueResult .startTake lane multiple s = (.ok, sl.val) := by
    simp [cueResult, stateRefusal, hmoves, startResult, hl,
      takeRefusal_eq_none he hpages hidle ⟨sl, (releaseRedo_free_iff hredo sl).mp hsl⟩ hcounted,
      slotToCome_eq hredo hsl hsllow]
  have happly : ∀ u : State, releaseRedo u = (releaseRedo s).setLink u.link →
      applyCue .startTake lane multiple group u = (releaseRedo u).withTakeBegun r sl l multiple.toNat g page rest := fun u hu => by
    have hrec : idleRecorder (releaseRedo u) = some r := by
      rw [hu]
      exact idleRecorder_of_lowest hr hrlow
    have hslot : findSlot (releaseRedo u) (fun l => l.state == .free) = some sl := by
      rw [hu]
      exact findSlot_of_lowest (beq_iff_eq.mpr hsl) fun x hx => beq_eq_false_iff_ne.mpr (hsllow x hx)
    rw [← admitTake_eq l multiple.toNat g (by rw [hu]; exact hpool) hrec hslot, ← hl, ← hg]
    rfl
  have hcue := takeRequest_cue_ok .startTake tag lane multiple group s sl.val h hparams hresult
  refine congrArg Host.Outcome.next (hcue.trans ?_)
  rw [happly (s.queued _) (linkFree_releaseRedo.comm s _),
    happly s (by rw [← linkFree_releaseRedo.link s]; rfl), linkFree_releaseRedo.queued, withTakeBegun_queued]
  congr 2
  exact cueReply_of_cues (by show (releaseRedo s).cues = s.cues; simp) _ _ _

/-- Settles O23: `exec_startTake`, with the redo list empty and with any. -/
theorem startTakeBeginsATake : Obligations.StartTakeBeginsATake := by
  refine ⟨fun s tag lane multiple group l g r sl page rest h hlane hgroup hm1 hm8 hmoves he hpages hpool hredo hparked hr hrlow hsl
    hsllow => ?_, ?_⟩
  · have hnone : releaseRedo s = s := by
      unfold releaseRedo freeLayers
      rw [hredo]
      rfl
    have hexec := exec_startTake (s := s) (tag := tag) (r := r) (sl := sl) (page := page) (rest := rest) h hlane hgroup hm1 hm8 hmoves
      he hpages ⟨r, hr⟩ (fun x => by simp [hredo, hparked x]) (by rw [hnone, hpool]) (by rw [hnone]; exact hr)
      (by rw [hnone]; exact hrlow) (by rw [hnone]; exact hsl) (by rw [hnone]; exact hsllow)
    rw [hexec, hnone]
    rfl
  · intro s tag lane multiple group l g r sl page rest h hlane hgroup hm1 hm8 hmoves he hpages hidle hredo u hpool hr hrlow hsl hsllow
    have hu : u = releaseRedo s := (releaseRedo_eq s).symm
    rw [hu] at hpool hr hrlow hsl hsllow ⊢
    exact ⟨exec_startTake h hlane hgroup hm1 hm8 hmoves he hpages hidle hredo hpool hr hrlow hsl hsllow, releaseRedo_redo s,
      releaseRedo_layer s, fun hsorted => ⟨releaseRedo_pool_pairwise s hsorted, mem_releaseRedo_pool s⟩⟩

end Sys2Proof.Machine
end

section
/-! A sample period of one take (O44): what its recorder stores, the page it acquires, and its end where it acquires none. -/

namespace Sys2Proof.Machine

/-! ## One RECORDING recorder among the recorders -/

/-- The recorder numbers around one of them. -/
theorem recorderNumbers_split (r : Recorder) :
    ∃ before after : List Recorder, recorderNumbers = before ++ r :: after ∧ ∀ q ∈ before ++ after, q ≠ r := by
  obtain ⟨before, after, h⟩ := List.append_of_mem (mem_recorderNumbers r)
  have hnodup : (r :: (before ++ after)).Nodup :=
    (List.perm_middle.nodup_iff.mp (h ▸ (by decide : recorderNumbers.Nodup)))
  exact ⟨before, after, h, fun q hq hqr => (List.nodup_cons.mp hnodup).1 (hqr ▸ hq)⟩

/-- With one recorder RECORDING it alone acts, whether or not it needs a page. -/
theorem recordAll_eq_recordSample (value : Lane → Int) (s : State) (r : Recorder)
    (h : ∀ q, q ≠ r → (s.recorder q).state ≠ .recording)
    (hafter : ∀ q, q ≠ r → ((recordSample value s r).recorder q).state ≠ .recording) :
    recordAll value s = recordSample value s r := by
  by_cases hr : needsPage s r = true
  · exact recordAll_of_one value s r hr h hafter
  · have hnone : ∀ q, needsPage s q = false := fun q => by
      by_cases hq : q = r
      · rw [hq, Bool.eq_false_iff]
        exact hr
      · exact needsPage_of_not_recording s q (h q hq)
    obtain ⟨before, after, hsplit, hne⟩ := recorderNumbers_split r
    have hclaims : recorderNumbers.filter (needsPage s) = [] := List.filter_eq_nil_iff.mpr fun q _ => by simp [hnone q]
    have hothers : (recorderNumbers.filter fun q => !needsPage s q) = before ++ r :: after := by
      rw [← hsplit]
      exact List.filter_eq_self.mpr fun q _ => by simp [hnone q]
    unfold recordAll
    rw [hclaims, hothers]
    show (before ++ r :: after).foldl (recordSample value) s = _
    rw [List.foldl_append, foldl_recordSample_of_none value s before fun q hq => h q (hne q (List.mem_append_left _ hq)),
      List.foldl_cons]
    exact foldl_recordSample_of_none value _ after fun q hq => hafter q (hne q (List.mem_append_right _ hq))

/-- A FREE base take that does not run out neither closes nor aborts. -/
theorem exhaustFree_of_baseFails_none (s : State)
    (h : ∀ r sl, baseRecorder s = some r → (s.recorder r).slot = some sl → baseFails s r sl = none) : exhaustFree s = s := by
  unfold exhaustFree
  split
  · split
    · rfl
    · next r hr =>
      split
      · rfl
      · next sl hsl => rw [h r sl hr hsl]
  · rfl

theorem baseFails_of_not_opens (s : State) (r : Recorder) (sl : Slot) (h : opensPage (s.layer sl).len = false) :
    baseFails s r sl = none := by
  simp [baseFails, h]

theorem baseFails_of_not_recording (s : State) (r : Recorder) (sl : Slot) (h : (s.recorder r).state ≠ .recording) :
    baseFails s r sl = none := by
  simp [baseFails, h]

theorem baseFails_of_ok (s t : State) (r : Recorder) (sl : Slot) (h : acquirePage sl s = .ok t) : baseFails s r sl = none := by
  unfold baseFails
  rw [h]
  split <;> rfl

/-- With only recorder `r` RECORDING nothing runs out before the recorders' part, unless `r` is the base recorder and finds no page. -/
theorem exhaustFree_of_one (s : State) (r : Recorder) (sl : Slot) (hsl : (s.recorder r).slot = some sl)
    (h : ∀ q, q ≠ r → (s.recorder q).state ≠ .recording) (hr : (s.recorder r).base = true → baseFails s r sl = none) :
    exhaustFree s = s := by
  refine exhaustFree_of_baseFails_none s fun q x hq hx => ?_
  by_cases hqr : q = r
  · subst hqr
    obtain rfl := Option.some.inj (hsl.symm.trans hx)
    exact hr (baseRecorder_some hq).1
  · exact baseFails_of_not_recording s q x (h q hqr)

/-! ## The page that a sample opens -/

theorem opensPage_iff (o : Nat) : opensPage o = true ↔ 0 < o ∧ o % 4096 = 0 := by simp [opensPage]

/-- `s` with the pages `extents` on the layer in slot `sl` and `pool` left. -/
def State.withExtents (s : State) (sl : Slot) (extents : List Extent) (pool : List Nat) : State :=
  (s.setLayer sl { s.layer sl with extents := extents }).setStore { s.store with pool := pool }

theorem acquirePage_of_next (s : State) (sl : Slot) (page : Nat) (pool : List Nat) (older : List Extent) (e : Extent)
    (hp : s.store.pool = page :: pool) (he : (s.layer sl).extents = older ++ [e]) (hnext : e.first + e.count = page) :
    acquirePage sl s = .ok (s.withExtents sl (older ++ [⟨e.first, e.count + 1⟩]) pool) := by
  have happend : appendPage (s.layer sl).extents page = some (older ++ [⟨e.first, e.count + 1⟩]) := by
    unfold appendPage
    rw [he, List.getLast?_concat]
    dsimp only
    rw [if_pos hnext, List.dropLast_concat]
  unfold acquirePage
  rw [hp]
  dsimp only
  rw [happend]
  rfl

theorem acquirePage_of_apart (s : State) (sl : Slot) (page : Nat) (pool : List Nat) (older : List Extent) (e : Extent)
    (hp : s.store.pool = page :: pool) (he : (s.layer sl).extents = older ++ [e]) (hapart : e.first + e.count ≠ page)
    (hroom : (s.layer sl).extents.length < 16) :
    acquirePage sl s = .ok (s.withExtents sl ((s.layer sl).extents ++ [⟨page, 1⟩]) pool) := by
  have happend : appendPage (s.layer sl).extents page = some ((s.layer sl).extents ++ [⟨page, 1⟩]) := by
    unfold appendPage
    rw [if_pos hroom, he, List.getLast?_concat]
    dsimp only
    rw [if_neg hapart]
  unfold acquirePage
  rw [hp]
  dsimp only
  rw [happend]
  rfl

/-! ## What the recorder stores -/

theorem sat16_eq (v : Int) : sat16 v = max (-32768) (min 32767 v) := by norm_num [sat16, saturate]

theorem stored16_laneValue (s : State) (x : Lane → Int) (l : Lane) : stored16 (laneValue s x l) = s.storedValue x l := by
  unfold stored16 State.storedValue roundShift
  rw [sat16_eq, laneValue_eq]
  norm_num

/-- The steps 2 to 4 of R92: the recorder stores and its layer grows. -/
theorem takeSample_eq (r : Recorder) (sl : Slot) (v : Int) (s : State) :
    takeSample r sl (s.layer sl).len v s =
      (s.setRecorder r ((s.recorder r).storing (s.layer sl).len v)).setLayer sl ((s.layer sl).storing (s.recorder r)) := by
  unfold takeSample RecorderRec.storing LayerRec.storing
  by_cases hroom : storedCount (s.recorder r).fifo < 512
  · simp only [if_pos hroom, closeGap_eq, storeSample]
    simp [State.setLayer, State.setRecorder, State.setTable, State.setTakes, State.layer, State.recorder]
    rfl
  · by_cases hgap : (s.recorder r).gap = 65535
    · simp only [if_neg hroom, if_pos hgap, loseSample, fillGap]
      simp [State.setLayer, State.setRecorder, State.setTable, State.setTakes, State.layer, State.recorder]
      rfl
    · simp only [if_neg hroom, if_neg hgap, loseSample]
      simp [State.setLayer, State.setRecorder, State.setTable, State.setTakes, State.layer, State.recorder]

/-- `s` with recorder `r`, layer `sl` and the pool as given. -/
def State.withTakeAt (s : State) (r : Recorder) (sl : Slot) (rec : RecorderRec) (layer : LayerRec) (pool : List Nat) : State :=
  { s with
    takes := { s.takes with recs := s.takes.recs.set r.val rec }
    table := { s.table with layers := s.table.layers.set sl.val layer }
    store := { s.store with pool := pool } }

theorem withTakeAt_recorder_of_ne (s : State) (r q : Recorder) (sl : Slot) (rec : RecorderRec) (layer : LayerRec)
    (pool : List Nat) (h : q ≠ r) : (s.withTakeAt r sl rec layer pool).recorder q = s.recorder q :=
  (State.setRecorder_recorder s r q rec).trans (if_neg h)

theorem recordSample_of_not_opens (value : Lane → Int) (s : State) (r : Recorder) (l : Lane) (sl : Slot)
    (hr : (s.recorder r).state = .recording) (hl : (s.recorder r).lane = some l) (hsl : (s.recorder r).slot = some sl)
    (ho : opensPage (s.layer sl).len = false) :
    recordSample value s r =
      s.withTakeAt r sl ((s.recorder r).storing (s.layer sl).len (stored16 (value l))) ((s.layer sl).storing (s.recorder r))
        s.store.pool := by
  unfold recordSample
  rw [hr, hl, hsl]
  dsimp only
  rw [ho, if_neg Bool.false_ne_true, takeSample_eq]
  rfl

theorem recordSample_of_acquired (value : Lane → Int) (s : State) (r : Recorder) (l : Lane) (sl : Slot)
    (hr : (s.recorder r).state = .recording) (hl : (s.recorder r).lane = some l) (hsl : (s.recorder r).slot = some sl)
    (ho : opensPage (s.layer sl).len = true) (extents : List Extent) (pool : List Nat)
    (ha : acquirePage sl s = .ok (s.withExtents sl extents pool)) :
    recordSample value s r =
      s.withTakeAt r sl ((s.recorder r).storing (s.layer sl).len (stored16 (value l)))
        { (s.layer sl).storing (s.recorder r) with extents := extents } pool := by
  have hlayer : (s.withExtents sl extents pool).layer sl = { s.layer sl with extents := extents } := State.setLayer_layer_self _ _ _
  have htake := takeSample_eq r sl (stored16 (value l)) (s.withExtents sl extents pool)
  rw [hlayer] at htake
  unfold recordSample
  rw [hr, hl, hsl]
  dsimp only
  rw [if_pos ho, ha]
  dsimp only
  refine htake.trans (State.eq_of_fields rfl ?_ rfl rfl rfl rfl rfl rfl rfl rfl rfl rfl rfl)
  simp [State.withTakeAt, State.withExtents, State.setLayer, LayerRec.storing, LayerRec.lostIn, State.recorder]
  rfl

theorem recordSample_of_failed (value : Lane → Int) (s : State) (r : Recorder) (l : Lane) (sl : Slot) (reason : EndReason)
    (hr : (s.recorder r).state = .recording) (hl : (s.recorder r).lane = some l) (hsl : (s.recorder r).slot = some sl)
    (ho : opensPage (s.layer sl).len = true) (hfails : s.pageFails (s.layer sl) reason)
    (hbase : (s.recorder r).base = false) (htail : (s.recorder r).tail = false) :
    recordSample value s r = s.withTakeEnded reason r := by
  obtain ⟨e, he, rfl⟩ := acquirePage_of_pageFails s sl reason hfails
  unfold recordSample
  rw [hr, hl, hsl]
  dsimp only
  rw [if_pos ho, he]
  dsimp only
  rw [hbase, if_neg Bool.false_ne_true, endTake_eq e.reason s r htail hbase]

/-! ## The end of a take that finds no page -/

theorem filled_eq_nil_iff (q : RecorderRec) : q.filled = [] ↔ q.fifo = [] ∧ q.gap = 0 := by
  unfold RecorderRec.filled
  split <;> simp_all [pushZeros_ne_nil]

theorem withTakeEnded_of_spent (s : State) (reason : EndReason) (r : Recorder) (sl : Slot) (hsl : (s.recorder r).slot = some sl)
    (hlen : 0 < (s.layer sl).len) (hleft : (s.recorder r).filled ≠ [] ∨ (s.recorder r).inFlight = true) :
    s.withTakeEnded reason r =
      s.withTakeAt r sl ((s.recorder r).spent reason)
        { s.layer sl with state := .closing, lost := (s.layer sl).lostIn (s.recorder r) } s.store.pool := by
  have hnot : ¬((s.recorder r).fifo = [] ∧ (s.recorder r).gap = 0 ∧ (s.recorder r).inFlight = false) := by
    rintro ⟨hf, hg, hi⟩
    rcases hleft with hleft | hleft
    · exact hleft ((filled_eq_nil_iff _).mpr ⟨hf, hg⟩)
    · exact absurd (hi.symm.trans hleft) (by decide)
  unfold State.withTakeEnded
  rw [hsl]
  dsimp only
  rw [if_neg (Nat.ne_of_gt hlen), if_neg hnot]
  rfl

theorem withTakeEnded_of_drained (s : State) (reason : EndReason) (r : Recorder) (sl : Slot) (hsl : (s.recorder r).slot = some sl)
    (hlen : 0 < (s.layer sl).len) (hfilled : (s.recorder r).filled = []) (hidle : (s.recorder r).inFlight = false) :
    s.withTakeEnded reason r = s.withTakeHandedOver r sl reason := by
  obtain ⟨hfifo, hgap⟩ := (filled_eq_nil_iff _).mp hfilled
  unfold State.withTakeEnded
  rw [hsl]
  dsimp only
  rw [if_neg (Nat.ne_of_gt hlen), if_pos ⟨hfifo, hgap, hidle⟩]

theorem besideRefills_setLanes (lanes : Vector LaneRec 4) : BesideRefills fun s => s.setLanes lanes :=
  ⟨fun _ => rfl, fun _ _ => rfl, fun _ _ => rfl, fun _ _ => rfl, fun _ _ _ => rfl⟩

theorem withTakeHandedOver_setLanes (s : State) (lanes : Vector LaneRec 4) (r : Recorder) (sl : Slot) (reason : EndReason) :
    (s.setLanes lanes).withTakeHandedOver r sl reason = (s.withTakeHandedOver r sl reason).setLanes lanes := by
  have hreported : ∀ (u : State) (m : Message), (u.setLanes lanes).reported 31 m = (u.reported 31 m).setLanes lanes := fun u m => by
    rw [State.reported_eq, State.reported_eq]
    rfl
  have hraised : ∀ u : State, (u.setLanes lanes).withRefillRaised sl = (u.withRefillRaised sl).setLanes lanes := fun u => by
    simp only [← raiseRefill_eq]
    exact (besideRefills_setLanes lanes).raiseRefill u sl (fun _ => ⟨rfl, rfl⟩) fun _ => ⟨rfl, rfl⟩
  unfold State.withTakeHandedOver
  rw [← hreported, ← hraised]
  rfl

theorem withTakeHandedOver_recorder (s : State) (r q : Recorder) (sl : Slot) (reason : EndReason) :
    (s.withTakeHandedOver r sl reason).recorder q = if q = r then RecorderRec.idle else s.recorder q := by
  unfold State.recorder
  rw [withTakeHandedOver_takes]
  exact set_recorder _ _ _ _

/-! ## The sample period -/

/-- With only recorder `r` RECORDING a sample period is its own part, and then what every sample period counts on. -/
theorem exec_samplePeriod_of_one (s u : State) (x0 x1 x2 x3 : BitVec 24) (r : Recorder) (sl : Slot) (lanes : Vector LaneRec 4)
    (hq : quiet s) (hrun : isRunning s = true) (hw : s.store.windowPos < 128) (hsl : (s.recorder r).slot = some sl)
    (hlanes : measureLanes (laneValue s (inputs x0 x1 x2 x3)) s = s.setLanes lanes)
    (hothers : ∀ q, q ≠ r → (s.recorder q).state ≠ .recording)
    (hfails : (s.recorder r).base = true → baseFails (s.setLanes lanes) r sl = none)
    (hsample : recordSample (laneValue s (inputs x0 x1 x2 x3)) (s.setLanes lanes) r = u.setLanes lanes)
    (hafter : ∀ q, q ≠ r → u.recorder q = s.recorder q) (hback : u.lanes = s.lanes) :
    exec (.samplePeriod x0 x1 x2 x3) s = .next (u.sampled (inputs x0 x1 x2 x3)) := by
  rw [exec_samplePeriod_quiet x0 x1 x2 x3 s hq hrun hw, tick_eq_sampled _ s hw, hlanes,
    exhaustFree_of_one (s.setLanes lanes) r sl hsl hothers hfails, recordAll_eq_recordSample _ (s.setLanes lanes) r hothers, hsample,
    ← hback]
  · rfl
  · intro q hqr
    rw [hsample, State.setLanes_recorder, hafter q hqr]
    exact hothers q hqr

/-- Settles O44: with one recorder RECORDING the sample period is that recorder's (`exec_samplePeriod_of_one`), and its part is one of
`recordSample_of_not_opens`, `recordSample_of_acquired` and `recordSample_of_failed`. -/
theorem samplePeriodRecordsATake : Obligations.SamplePeriodRecordsATake := by
  intro s x0 x1 x2 x3 r l sl hq hrun hw hr hl hsl hothers q k x v opens result
  have hx : x = inputs x0 x1 x2 x3 := rfl
  have hv : stored16 (laneValue s (inputs x0 x1 x2 x3) l) = v := stored16_laneValue s _ l
  obtain ⟨lanes, hlanes⟩ : ∃ lanes, measureLanes (laneValue s (inputs x0 x1 x2 x3)) s = s.setLanes lanes := ⟨_, rfl⟩
  have hstored : ∀ rec layer pool, (q.base = true → baseFails (s.setLanes lanes) r sl = none) →
      recordSample (laneValue s (inputs x0 x1 x2 x3)) (s.setLanes lanes) r =
        (s.setLanes lanes).withTakeAt r sl rec layer pool → result rec layer pool := fun rec layer pool hfails hsample =>
    exec_samplePeriod_of_one s (s.withTakeAt r sl rec layer pool) x0 x1 x2 x3 r sl lanes hq hrun hw hsl hlanes hothers hfails
      hsample (fun p hp => withTakeAt_recorder_of_ne s r p sl rec layer pool hp) rfl
  refine ⟨fun hopens => ?_, fun page pool hopens hpool => ?_, fun reason hopens hfails hbase htail => ?_⟩
  · have ho : opensPage k.len = false := Bool.eq_false_iff.mpr (mt (opensPage_iff _).mp hopens)
    refine hstored _ _ _ (fun _ => baseFails_of_not_opens _ r sl ho) ?_
    rw [recordSample_of_not_opens _ (s.setLanes lanes) r l sl hr hl hsl ho, hv]
    rfl
  · have ho : opensPage k.len = true := (opensPage_iff _).mpr hopens
    have hacquired : ∀ extents, acquirePage sl (s.setLanes lanes) = .ok ((s.setLanes lanes).withExtents sl extents pool) →
        result (q.storing k.len v) { k.storing q with extents := extents } pool := fun extents ha => by
      refine hstored _ _ _ (fun _ => baseFails_of_ok _ _ r sl ha) ?_
      rw [recordSample_of_acquired _ (s.setLanes lanes) r l sl hr hl hsl ho extents pool ha, hv]
      rfl
    exact ⟨fun older e he hnext => hacquired _ (acquirePage_of_next _ sl page pool older e hpool he hnext),
      fun older e he hapart hroom => hacquired _ (acquirePage_of_apart _ sl page pool older e hpool he hapart hroom)⟩
  · have ho : opensPage k.len = true := (opensPage_iff _).mpr hopens
    have hnot : q.base = true → baseFails (s.setLanes lanes) r sl = none := fun h => absurd (hbase.symm.trans h) (by decide)
    have hended := recordSample_of_failed (laneValue s (inputs x0 x1 x2 x3)) (s.setLanes lanes) r l sl reason hr hl hsl ho hfails
      hbase htail
    refine ⟨fun hleft => hstored _ _ _ hnot ?_, fun hfilled hidle => ?_⟩
    · exact hended.trans (withTakeEnded_of_spent (s.setLanes lanes) reason r sl hsl hopens.1 hleft)
    · refine exec_samplePeriod_of_one s (s.withTakeHandedOver r sl reason) x0 x1 x2 x3 r sl lanes hq hrun hw hsl hlanes hothers hnot
        ?_ (fun p hp => (withTakeHandedOver_recorder s r p sl reason).trans (if_neg hp)) ?_
      · exact hended.trans ((withTakeEnded_of_drained (s.setLanes lanes) reason r sl hsl hopens.1 hfilled hidle).trans
          (withTakeHandedOver_setLanes s lanes r sl reason))
      · rw [State.withTakeHandedOver, State.reported_eq, State.setLink_lanes, ← raiseRefill_eq]
        simp

end Sys2Proof.Machine
end

section
/-! The last burst of a recorder in CLOSING (O56). -/

namespace Sys2Proof.Machine

/-- Dropping every offset that a FIFO stands for leaves it empty, for it holds no empty zero-fill run. -/
theorem fifoDrop_all (fifo : List FifoEntry) (h : ∀ m, FifoEntry.zeros m ∈ fifo → 0 < m) :
    fifoDrop (fifoOffsets fifo) fifo = [] := by
  induction fifo with
  | nil => rfl
  | cons e rest ih =>
    have ih := ih fun m hm => h m (List.mem_cons_of_mem e hm)
    cases e with
    | sample v => exact ih
    | zeros m =>
      obtain ⟨k, hk⟩ : ∃ k, fifoOffsets rest + m = k + 1 := ⟨fifoOffsets rest + m - 1, by
        have := h m List.mem_cons_self
        omega⟩
      rw [fifoOffsets, hk, fifoDrop, if_pos (by omega), show k + 1 - m = fifoOffsets rest by omega]
      exact ih

/-- Recorder `r` of `s` after a burst of all that its FIFO stands for. -/
theorem State.withDrained_all_recorder (s : State) (r : Recorder) (a : Nat)
    (hzeros : ∀ m, FifoEntry.zeros m ∈ (s.recorder r).fifo → 0 < m) :
    (s.withDrained r (fifoOffsets (s.recorder r).fifo) a).recorder r =
      { s.recorder r with
        fifo := [], cursor := (s.recorder r).cursor + fifoOffsets (s.recorder r).fifo, inFlight := false } := by
  rw [State.withDrained_recorder, fifoDrop_all _ hzeros]

/-- The end of a tail drain, and nothing more. -/
theorem drainDone_tail (r : Recorder) (s : State) (hd : drained (s.recorder r) = true) (ht : (s.recorder r).tail = true) :
    drainDone r s = resetRecorder r s := by
  unfold drainDone
  rw [hd, ht]
  rfl

/-- An exhausted base take waits for the closure. -/
theorem drainDone_base (r : Recorder) (s : State) (ht : (s.recorder r).tail = false) (hb : (s.recorder r).base = true) :
    drainDone r s = s := by
  unfold drainDone
  rw [ht, hb]
  simp

theorem drainDone_take (r : Recorder) (s : State) (sl : Slot) (hd : drained (s.recorder r) = true)
    (ht : (s.recorder r).tail = false) (hb : (s.recorder r).base = false) (hsl : (s.recorder r).slot = some sl) :
    drainDone r s = s.withTakeHandedOver r sl ((s.recorder r).endReason.getD .stopped) := by
  rw [← finishTake_eq r sl s ht]
  unfold drainDone
  rw [hd, ht, hb, hsl]
  rfl

/-- The hand-over and the return to IDLE write the whole recorder. -/
theorem withTakeHandedOver_setRecorder (s : State) (r : Recorder) (sl : Slot) (reason : EndReason) (q : RecorderRec) :
    (s.setRecorder r q).withTakeHandedOver r sl reason = s.withTakeHandedOver r sl reason := by
  refine congrArg (fun u : State => (u.withRefillRaised sl).reported 31 _) ?_
  refine State.eq_of_fields rfl rfl rfl rfl ?_ rfl rfl rfl rfl rfl rfl rfl rfl
  simp [State.setRecorder]

theorem resetRecorder_setRecorder (s : State) (r : Recorder) (q : RecorderRec) :
    resetRecorder r (s.setRecorder r q) = resetRecorder r s := by
  simp [resetRecorder, State.setRecorder, State.setTakes]

/-- Settles O56: `completeDrain_eq` with a FIFO that `fifoDrop_all` empties, then the case of `drainDone`. -/
theorem finishedDrainsHandOver : Obligations.FinishedDrainsHandOver := by
  rintro s r sl n a left hr hleft ht hsl hstate hgap rfl hzeros ha hmem hv q
  obtain ⟨hin, hout⟩ := memory_drained s.mem a _ q.fifo hmem le_rfl hv
  refine ⟨writeSamples s.mem a (fifoTake (fifoOffsets q.fifo) q.fifo), hin, hout, ?_⟩
  intro written
  have hrec := s.withDrained_all_recorder r a hzeros
  have hafter : s.withDrained r (fifoOffsets q.fifo) a =
      written.setRecorder r { q with fifo := [], cursor := q.cursor + fifoOffsets q.fifo, inFlight := false } := by
    rw [← hrec, State.withDrained_recorder]
    rfl
  have hdrained : drained ((s.withDrained r (fifoOffsets q.fifo) a).recorder r) = true := by
    rw [hrec]
    simp [drained, hstate, hgap]
  have hexec : exec .drainBurstComplete s = .next (drainDone r (s.withDrained r (fifoOffsets q.fifo) a)) := by
    rw [exec_drainBurstComplete s r _ left hr ht hleft, completeDrain_eq s r sl _ left a ht hsl ha]
  refine ⟨fun reason htail hbase hreason => ?_, fun htail => ?_, fun htail hbase => ?_⟩
  · rw [hexec, drainDone_take r _ sl hdrained (by rw [hrec]; exact htail) (by rw [hrec]; exact hbase) (by rw [hrec]; exact hsl),
      hrec, hafter, withTakeHandedOver_setRecorder]
    exact congrArg (fun e : Option EndReason => Host.Outcome.next (written.withTakeHandedOver r sl (e.getD .stopped))) hreason
  · rw [hexec, drainDone_tail r _ hdrained (by rw [hrec]; exact htail), hafter, resetRecorder_setRecorder]
    rfl
  · rw [hexec, drainDone_base r _ (by rw [hrec]; exact htail) (by rw [hrec]; exact hbase), hafter]
    rfl

end Sys2Proof.Machine
end

section
/-! An admitted BOUNCE (O35). -/

namespace Sys2Proof.Machine

/-! ## Runs and named slots -/

/-- The runs of a page list hold its pages in their order. -/
theorem pagesOf_runsOf (xs : List Nat) : pagesOf (runsOf xs) = xs := by
  induction xs with
  | nil => rfl
  | cons page rest ih =>
    unfold runsOf
    split
    · next hr =>
      rw [hr] at ih
      rw [← ih]
      rfl
    · next e es hr =>
      rw [hr] at ih
      split
      · next hnext =>
        rw [← ih]
        show List.range' page (e.count + 1) ++ pagesOf es = page :: (List.range' e.first e.count ++ pagesOf es)
        rw [List.range'_succ, hnext]
        rfl
      · rw [← ih]
        rfl

/-- The slots that bytes name. -/
theorem map_byteFin_eq (bytes : List Byte) : ∀ slots : List Slot, bytes.map BitVec.toNat = slots.map Fin.val →
    bytes.map (byteFin 24) = slots := by
  induction bytes with
  | nil =>
    intro slots h
    exact (List.map_eq_nil_iff.mp h.symm).symm
  | cons b rest ih =>
    intro slots h
    cases slots with
    | nil => cases h
    | cons x xs =>
      obtain ⟨hb, hrest⟩ := List.cons.inj h
      rw [List.map_cons, byteFin_eq b x hb, ih xs hrest]

theorem bounceValid_of_named {n : Byte} {bytes : List Byte} {slots : List Slot} (h2 : 2 ≤ n.toNat) (h8 : n.toNat ≤ 8)
    (hnamed : bytes.map BitVec.toNat = slots.map Fin.val) (hnodup : slots.Nodup) : bounceValid n bytes = true := by
  have hrange : ∀ b ∈ bytes, b.toNat ≤ 23 := fun b hb => by
    obtain ⟨x, -, hx⟩ := List.mem_map.mp (hnamed ▸ List.mem_map_of_mem (f := BitVec.toNat) hb)
    have := x.isLt
    omega
  have hbytes : bytes.Nodup := List.Nodup.of_map BitVec.toNat (hnamed ▸ hnodup.map Fin.val_injective)
  simpa [bounceValid, h2, h8, hbytes] using hrange

/-! ## Multiple, anchor and newest source -/

theorem largestMultiple_eq_foldl (s : State) (slots : List Slot) :
    largestMultiple s slots = (slots.map fun x => (s.layer x).multiple).foldl max 1 := by
  unfold largestMultiple
  rw [List.foldl_map]

/-- The largest multiple is a bound that some source meets. -/
theorem largestMultiple_eq {s : State} {slots : List Slot} {M : Nat} {anchor : Slot} (h1 : 1 ≤ M)
    (hbound : ∀ x ∈ slots, (s.layer x).multiple ≤ M) (hmem : anchor ∈ slots) (hM : (s.layer anchor).multiple = M) :
    largestMultiple s slots = M := by
  obtain ⟨-, hall, hcases⟩ := foldl_max_spec (slots.map fun x => (s.layer x).multiple) 1
  have hge := hall M (hM ▸ List.mem_map_of_mem (f := fun x => (s.layer x).multiple) hmem)
  rw [largestMultiple_eq_foldl]
  refine Nat.le_antisymm ?_ hge
  rcases hcases with he | he
  · rw [he]
    exact h1
  · obtain ⟨x, hx, he⟩ := List.mem_map.mp he
    rw [← he]
    exact hbound x hx

/-- The anchor is the first source of the largest multiple. -/
theorem anchorPlace_eq {s : State} {slots : List Slot} {M a : Nat} {anchor : Slot} (hlargest : largestMultiple s slots = M)
    (ha : slots[a]? = some anchor) (hM : (s.layer anchor).multiple = M)
    (hfirst : ∀ i x, i < a → slots[i]? = some x → (s.layer x).multiple ≠ M) : anchorPlace s slots = a := by
  obtain ⟨hlt, hget⟩ := List.getElem?_eq_some_iff.mp ha
  unfold anchorPlace
  rw [hlargest, List.findIdx_eq hlt, hget]
  exact ⟨by simp [hM], fun j hj => beq_eq_false_iff_ne.mpr (hfirst j _ hj (List.getElem?_eq_getElem (by omega)))⟩

/-- The release leaves the newest source the newest, for it is not PARKED. -/
theorem newestSource_releaseRedo {s : State} {slots below above : List Slot} {newest : Slot}
    (hstack : s.table.stack = below ++ newest :: above) (hnewest : newest ∈ slots) (habove : ∀ x ∈ above, x ∉ slots)
    (hkept : newest ∉ s.table.redo) : newestSource (releaseRedo s) slots = some newest := by
  obtain ⟨idle, hfreed⟩ := songFreed_releaseRedo s
  refine newestSource_eq _ (below.filter fun x => !s.table.redo.contains x) (above.filter fun x => !s.table.redo.contains x)
    slots newest ?_ hnewest fun x hx => habove x (List.mem_filter.mp hx).1
  rw [hfreed.stack, hstack, List.filter_append, List.filter_cons_of_pos (by simpa using hkept)]

theorem bouncePages_eq (s : State) (m : Nat) : bouncePages s m = (m * s.transport.cycleLength + 4095) / 4096 := by
  unfold bouncePages ceilDiv
  rfl

/-! ## The tests -/

/-- A BOUNCE whose every test is passed. -/
theorem bounceTest_eq_ok {s : State} {slots : List Slot} {M : Nat} (hlargest : largestMultiple s slots = M)
    (hstate : s.transport.state = .running ∨ s.transport.state = .halted) (hjob : s.job.running = false)
    (hsources : ∀ x ∈ slots, (s.layer x).state = .active ∧ M % (s.layer x).multiple = 0)
    (hslot : ∃ x, (s.layer x).state = .free ∨ (s.layer x).state = .parked)
    (hpages : bouncePages s M ≤ (countedPool s).length)
    (hextents : (runsOf ((countedPool s).take (bouncePages s M))).length ≤ 16) : bounceTest slots s = (.ok, 255) := by
  have hactive : slots.find? (fun sl => (s.layer sl).state != .active) = none :=
    List.find?_eq_none.mpr fun x hx => by simp [(hsources x hx).1]
  have hdivides : slots.find? (fun sl => decide (M % (s.layer sl).multiple ≠ 0)) = none :=
    List.find?_eq_none.mpr fun x hx => by simp [(hsources x hx).2]
  have hfound : findSlot s (fun l => l.state == .free || l.state == .parked) ≠ none := fun hn => by
    obtain ⟨x, hx⟩ := hslot
    have := List.find?_eq_none.mp hn x (mem_slotNumbers x)
    rcases hx with hx | hx <;> simp [hx] at this
  have hnot : ¬(s.transport.state ≠ .running ∧ s.transport.state ≠ .halted) := by tauto
  unfold bounceTest
  rw [hlargest, if_neg hnot, hjob, if_neg Bool.false_ne_true, hactive]
  dsimp only
  rw [hdivides]
  dsimp only
  rw [if_neg hfound, if_neg (by omega), if_neg (by omega)]

/-! ## The admission -/

/-- `u` with the first `pages` pages of its pool in a layer `building` in slot `result`, and the sources held. -/
def State.reserved (u : State) (slots : List Slot) (result : Slot) (building : LayerRec) (pages : Nat) : State :=
  { u with
    store := { u.store with pool := u.store.pool.drop pages }
    table :=
      { u.table with
        layers := Vector.ofFn fun x =>
          if x = result then building else if x ∈ slots then { u.layer x with held := true } else u.layer x } }

theorem State.reserved_layer (u : State) (slots : List Slot) (result x : Slot) (building : LayerRec) (pages : Nat) :
    (u.reserved slots result building pages).layer x =
      if x = result then building else if x ∈ slots then { u.layer x with held := true } else u.layer x := by
  simp [State.layer, State.reserved]

theorem State.reserved_transport (u : State) (slots : List Slot) (result : Slot) (building : LayerRec) (pages : Nat) :
    (u.reserved slots result building pages).transport = u.transport := by
  simp only [State.reserved]

/-- The reservation in the steps of R149; the result is no source. -/
theorem setHeld_reserved (u : State) (slots : List Slot) (result : Slot) (building : LayerRec) (pages : Nat)
    (hresult : result ∉ slots) :
    setHeld slots true ((u.setStore { u.store with pool := u.store.pool.drop pages }).setLayer result building) =
      u.reserved slots result building pages := by
  refine State.eq_of_fields rfl ?_ rfl rfl rfl rfl rfl rfl rfl rfl rfl rfl rfl
  refine congrArg (fun layers => ({ u.table with layers := layers } : LayerTable)) (Vector.ext fun i hi => ?_)
  rw [Vector.getElem_ofFn, Vector.getElem_ofFn, State.setLayer_layer]
  by_cases hr : (⟨i, hi⟩ : Slot) = result
  · rw [if_pos hr, if_pos hr]
    exact if_neg (by rw [hr]; simpa using hresult)
  · rw [if_neg hr, if_neg hr]
    exact if_congr List.contains_iff_mem rfl rfl

/-- The steps of an admission with the result slot and the pages chosen, up to the first chunk. -/
theorem admitBounce_eq {s : State} {slots : List Slot} {result : Slot}
    (hresult : findSlot (releaseRedo s) (fun l => l.state == .free) = some result) (hout : result ∉ slots) :
    let u := releaseRedo s
    let pages := bouncePages u (largestMultiple u slots)
    let t := u.reserved slots result
      (buildingLayer u slots (largestMultiple u slots) (runsOf (u.store.pool.take pages))) pages
    admitBounce slots s = setUpChunk (t.setJob (newJob t slots result)) := by
  intro u pages t
  unfold admitBounce
  dsimp only
  rw [hresult]
  dsimp only
  rw [setHeld_reserved _ slots result _ _ hout]
  rfl

/-- The job of an admitted bounce, latched from `s`, with chunk `ch` in hand. -/
def State.latchedJob (s : State) (slots : List Slot) (result anchor : Slot) (a M L : Nat) (ch : Chunk) : Job :=
  { Job.idle with
    running := true, result := some result, anchor := some a, anchorK := (s.layer anchor).k.getD 0
    multiple := M, total := M * L, chunk := some ch, clips := clipsAfter 0 ch
    sources := slots.map fun x => ⟨x, (s.layer x).multiple, (s.layer x).k.getD 0, (s.layer x).gain, (s.layer x).fade⟩ }

/-- The job is latched from the layers of the sources, which the reservation has not changed but for the held flag. -/
theorem newJob_eq {s t : State} {slots : List Slot} {result anchor : Slot} {a M L : Nat} (ch : Chunk)
    (hlayer : ∀ x ∈ slots, ∃ b, t.layer x = { s.layer x with held := b }) (hlargest : largestMultiple s slots = M)
    (ha : slots[a]? = some anchor) (hM : (s.layer anchor).multiple = M)
    (hfirst : ∀ i x, i < a → slots[i]? = some x → (s.layer x).multiple ≠ M) (hlength : t.transport.cycleLength = L) :
    { newJob t slots result with chunk := some ch, clips := clipsAfter 0 ch } = s.latchedJob slots result anchor a M L ch := by
  have hmultiple : ∀ x ∈ slots, (t.layer x).multiple = (s.layer x).multiple := fun x hx => by
    obtain ⟨b, hb⟩ := hlayer x hx
    rw [hb]
  have hplace : anchorPlace t slots = a :=
    anchorPlace_eq ((largestMultiple_congr slots hmultiple).trans hlargest) ha
      ((hmultiple anchor (List.mem_of_getElem? ha)).trans hM)
      fun i x hi hx => by
        rw [hmultiple x (List.mem_of_getElem? hx)]
        exact hfirst i x hi hx
  have hk : (t.layer anchor).k = (s.layer anchor).k := by
    obtain ⟨b, hb⟩ := hlayer anchor (List.mem_of_getElem? ha)
    rw [hb]
  have hsources : slots.map (latchSource t) =
      slots.map fun x => ⟨x, (s.layer x).multiple, (s.layer x).k.getD 0, (s.layer x).gain, (s.layer x).fade⟩ :=
    List.map_congr_left fun x hx => by
      obtain ⟨b, hb⟩ := hlayer x hx
      rw [latchSource, hb]
  unfold newJob State.latchedJob
  rw [hplace, ha, hsources, (largestMultiple_congr slots hmultiple).trans hlargest, hlength]
  dsimp only [Option.map_some, Option.getD_some]
  rw [hk]

/-- The record of the result of a bounce of multiple `M` over a cycle of `L` samples, with the group of its newest source. -/
def State.buildingFor (s : State) (newest : Slot) (M L : Nat) (extents : List Extent) : LayerRec :=
  { LayerRec.freed with
    state := .building, origin := some .bounce, multiple := M, len := M * L, extents := extents
    group := (s.layer newest).group }

theorem buildingLayer_eq {s u : State} {slots : List Slot} {newest : Slot} {M L : Nat} (extents : List Extent)
    (hnewest : newestSource u slots = some newest) (hsame : u.layer newest = s.layer newest)
    (hlength : u.transport.cycleLength = L) : buildingLayer u slots M extents = s.buildingFor newest M L extents := by
  unfold buildingLayer State.buildingFor
  rw [hnewest, hlength]
  dsimp only [Option.map_some, Option.getD_some]
  rw [hsame]

/-- An admission: the reservation, the job latched from the sources, and its first chunk taken in hand. -/
theorem admitBounce_latched {s : State} {slots : List Slot} {result anchor newest : Slot} {a M L pages : Nat}
    (hresult : findSlot (releaseRedo s) (fun l => l.state == .free) = some result) (hout : result ∉ slots)
    (hsame : ∀ x ∈ slots, (releaseRedo s).layer x = s.layer x) (hlargest : largestMultiple s slots = M)
    (ha : slots[a]? = some anchor) (hM : (s.layer anchor).multiple = M)
    (hfirst : ∀ i x, i < a → slots[i]? = some x → (s.layer x).multiple ≠ M) (hcycle : (releaseRedo s).transport.cycleLength = L)
    (hnewest : newestSource (releaseRedo s) slots = some newest) (hmem : newest ∈ slots)
    (hpages : bouncePages (releaseRedo s) M = pages) :
    ∃ ch : Chunk, ch.start = 0 ∧ ch.length = min 128 (M * L) ∧
      (((releaseRedo s).reserved slots result (s.buildingFor newest M L (runsOf ((releaseRedo s).store.pool.take pages)))
        pages).setJob (s.latchedJob slots result anchor a M L ch)).takenInHand 0 (List.replicate (min 128 (M * L)) 0) ch ∧
      admitBounce slots s =
        ((releaseRedo s).reserved slots result (s.buildingFor newest M L (runsOf ((releaseRedo s).store.pool.take pages)))
          pages).setJob (s.latchedJob slots result anchor a M L ch) := by
  have hlargest' : largestMultiple (releaseRedo s) slots = M :=
    (largestMultiple_congr slots fun x hx => congrArg LayerRec.multiple (hsame x hx)).trans hlargest
  have hadmit := admitBounce_eq hresult hout
  dsimp only at hadmit
  rw [hlargest', hpages, buildingLayer_eq _ hnewest (hsame newest hmem) hcycle] at hadmit
  generalize s.buildingFor newest M L _ = building at hadmit ⊢
  generalize ht : (releaseRedo s).reserved slots result building pages = t at hadmit ⊢
  have hlayer : ∀ x ∈ slots, ∃ b, t.layer x = { s.layer x with held := b } := fun x hx => by
    have hne : x ≠ result := fun e => hout (e ▸ hx)
    rw [← ht, State.reserved_layer, if_neg hne, if_pos hx, hsame x hx]
    exact ⟨true, rfl⟩
  have hcycleT : t.transport.cycleLength = L := by rw [← ht, State.reserved_transport, hcycle]
  obtain ⟨ch, hstart, hlen, htaken, hset⟩ := setUpChunk_eq (t.setJob (newJob t slots result))
  have hnew := newJob_eq (result := result) ch hlayer hlargest ha hM hfirst hcycleT
  have hlength : ch.length = min 128 (M * L) := by
    rw [hlen, State.setJob_job, show (newJob t slots result).total = M * L from congrArg Job.total hnew]
    rfl
  refine ⟨ch, hstart, hlength, ?_, ?_⟩
  · rw [← hlength]
    exact htaken _ (congrArg Job.sources hnew).symm (congrArg Job.anchorK hnew).symm
  · rw [hadmit, hset, ← hnew]
    rfl

/-- The reservation over layers that the sources have in `s`. -/
theorem State.reserved_setJob_eq {s u : State} {slots : List Slot} (result : Slot) (building : LayerRec) (pages : Nat) (j : Job)
    (hsame : ∀ x ∈ slots, u.layer x = s.layer x) :
    (u.reserved slots result building pages).setJob j =
      { u with
        store := { u.store with pool := u.store.pool.drop pages }
        table :=
          { u.table with
            layers := Vector.ofFn fun x =>
              if x = result then building else if x ∈ slots then { s.layer x with held := true } else u.layer x }
        job := j } := by
  have hlayers : (fun x => if x = result then building else if x ∈ slots then { u.layer x with held := true } else u.layer x) =
      fun x => if x = result then building else if x ∈ slots then { s.layer x with held := true } else u.layer x := by
    funext x
    by_cases hx : x ∈ slots
    · rw [hsame x hx]
    · rw [if_neg hx, if_neg hx]
  unfold State.reserved
  rw [hlayers]
  rfl

/-- A BOUNCE whose tests are passed is admitted and answered. -/
theorem exec_bounce_of_ok {s : State} {n : Byte} {bytes : Vector Byte 8} {slots : List Slot} {anchor : Slot} {M : Nat} (h : ready s)
    (hvalid : bounceValid n (bytes.toList.take n.toNat) = true) (hslots : (bytes.toList.take n.toNat).map (byteFin 24) = slots)
    (htest : bounceTest slots s = (.ok, 255)) (hlargest : largestMultiple s slots = M)
    (hanchor : slots[anchorPlace s slots]? = some anchor) :
    exec (.bounce n bytes) s =
      .next ((admitBounce slots s).queued [.bounce .ok (slotToCome s) M anchor.val (bouncePages s M) 255]) := by
  refine congrArg Host.Outcome.next ((takeRequest_ready _ s h).trans ?_)
  show doBounce n (bytes.toList.take n.toNat) s = _
  unfold doBounce
  rw [if_pos hvalid, hslots]
  dsimp only
  rw [htest, if_pos rfl, hlargest, hanchor]
  rfl

/-- Settles O35: the tests by `bounceTest_eq_ok`, the reservation, the job and the first chunk by `admitBounce_latched`. -/
theorem bounceReservesAndLatches : Obligations.BounceReservesAndLatches := by
  intro s n bytes slots below above M L a result anchor newest h h2 h8 hnamed hnodup hbound h1 ha hM hfirst hL hstate hjob hsources
    hredo hsorted u hfree hlow hstack hnewest habove pages taken hpages hextents
  refine ⟨pagesOf_runsOf taken, ?_⟩
  have hu : u = releaseRedo s := (releaseRedo_eq s).symm
  clear_value u
  subst hu
  have hnotRedo : ∀ x ∈ slots, x ∉ s.table.redo := fun x hx hr =>
    absurd ((hsources x hx).1.symm.trans ((hredo x).mp hr)) (by decide)
  have hsame : ∀ x ∈ slots, (releaseRedo s).layer x = s.layer x := fun x hx => by rw [releaseRedo_layer, if_neg (hnotRedo x hx)]
  have hlargest : largestMultiple s slots = M := largestMultiple_eq h1 hbound (List.mem_of_getElem? ha) hM
  have hcycle : s.transport.cycleLength = L := by rw [Transport.cycleLength, hL]; rfl
  have hcycle' : (releaseRedo s).transport.cycleLength = L := by rw [← hcycle]; simp
  have hpagesEq : bouncePages s M = pages := by rw [bouncePages_eq, hcycle]
  have hresult : findSlot (releaseRedo s) (fun l => l.state == .free) = some result :=
    findSlot_of_lowest (beq_iff_eq.mpr hfree) fun x hx => beq_eq_false_iff_ne.mpr (hlow x hx)
  have hout : result ∉ slots := fun hmem =>
    absurd (hfree.symm.trans ((congrArg LayerRec.state (hsame result hmem)).trans (hsources result hmem).1)) (by decide)
  have hcounted := countedPool_eq_releaseRedo hredo hsorted
  have htest : bounceTest slots s = (.ok, 255) :=
    bounceTest_eq_ok hlargest hstate hjob hsources ⟨result, (releaseRedo_free_iff hredo result).mp hfree⟩
      (by rw [hcounted, hpagesEq]; exact hpages) (by rw [hcounted, hpagesEq]; exact hextents)
  obtain ⟨ch, hstart, hlength, htaken, hadmit⟩ := admitBounce_latched hresult hout hsame hlargest ha hM hfirst hcycle'
    (newestSource_releaseRedo hstack hnewest habove (hnotRedo newest hnewest)) hnewest (by rw [bouncePages_eq, hcycle'])
  have hplace : slots[anchorPlace s slots]? = some anchor := by rw [anchorPlace_eq hlargest ha hM hfirst, ha]
  have hexec := exec_bounce_of_ok h (bounceValid_of_named h2 h8 hnamed hnodup) (map_byteFin_eq _ slots hnamed) htest hlargest hplace
  rw [hadmit, slotToCome_eq hredo hfree hlow, hpagesEq, State.reserved_setJob_eq _ _ _ _ hsame] at hexec
  rw [State.reserved_setJob_eq _ _ _ _ hsame] at htaken
  exact ⟨ch, hstart, hlength, htaken, hexec⟩

end Sys2Proof.Machine
end

section
/-! SUPPORT. The song in agreement: the clauses of `songSound` taken apart by what they read, and what leaves them as they are. -/

namespace Sys2Proof.Machine

/-! ## The clauses -/

/-- A layer in a take (R26, R27). -/
def LState.taken (x : LState) : Prop := x = .recording ∨ x = .closing

/-- What a layer record says of itself (R25, R114). -/
def LayerRec.Sound (l : LayerRec) : Prop :=
  (l.state = .free → l = LayerRec.freed) ∧
    (l.state ≠ .free → l.extents.length ≤ 16 ∧
      (pageCount l.extents = (l.len + 4095) / 4096 ∨ (l.len = 0 ∧ pageCount l.extents = 1)) ∧
      (l.state.taken → 0 < pageCount l.extents))

/-- What the record of a recorder with a take says of itself (R85). -/
def RecorderRec.Kept (q : RecorderRec) : Prop := q.lane ≠ none ∧ storedCount q.fifo ≤ 512 ∧ q.gap ≤ 65535

/-- What a recorder says of its layer (R86, R96, R107; log 26). -/
def RecorderRec.Serves (q : RecorderRec) (l : LayerRec) : Prop :=
  q.cursor + fifoOffsets q.fifo + q.gap = l.len ∧
    if q.tail = true then q.state = .closing ∧ q.base = true ∧ (l.state = .active ∨ l.state = .parked)
    else if q.state = .closing ∧ q.base = false then l.state = .closing
    else l.state = .recording

/-- A recorder of a base take before the closure (R90). -/
def RecorderRec.OfBase (q : RecorderRec) : Prop := q.base = true ∧ q.tail = false

/-- Stack and redo list hold the ACTIVE and the PARKED layers (R36, R37). -/
structure Listed (s : State) : Prop where
  stack : s.table.stack.Nodup ∧ ∀ x, x ∈ s.table.stack ↔ (s.layer x).state = .active
  redo : s.table.redo.Nodup ∧ ∀ x, x ∈ s.table.redo ↔ (s.layer x).state = .parked

/-- Every page is in the pool or in one layer (R112). -/
structure Paged (s : State) : Prop where
  sorted : s.store.pool.Pairwise (· < ·)
  once : ∀ x, (pagesOf (s.layer x).extents).Nodup
  apart : ∀ x y page, page ∈ pagesOf (s.layer x).extents → page ∈ pagesOf (s.layer y).extents → x = y
  outside : ∀ x page, page ∈ pagesOf (s.layer x).extents → page ∉ s.store.pool
  all : ∀ page, page < s.store.pages ↔ page ∈ s.store.pool ∨ ∃ x, page ∈ pagesOf (s.layer x).extents

/-- Recorders and the layers of their takes (R85, R86, R95). -/
structure Taken (s : State) : Prop where
  idle : ∀ r, (s.recorder r).state = .idle → s.recorder r = RecorderRec.idle
  take : ∀ r, (s.recorder r).state ≠ .idle → (s.recorder r).Kept ∧
    ∃ x, (s.recorder r).slot = some x ∧ (s.recorder r).Serves (s.layer x)
  named : ∀ r q x, (s.recorder r).slot = some x → (s.recorder q).slot = some x → r = q
  inTake : ∀ x, (s.layer x).state.taken → ∃ r, (s.recorder r).slot = some x ∧ (s.recorder r).tail = false
  order : s.takes.order.Nodup ∧ ∀ r, r ∈ s.takes.order ↔ (s.recorder r).state ≠ .idle
  burst : ∀ r n left, s.store.transfer = some ⟨.drain r n, left⟩ →
    (s.recorder r).inFlight = true ∧ n ≤ fifoOffsets (s.recorder r).fifo
  oneBase : ∀ r q, (s.recorder r).OfBase → (s.recorder q).OfBase → q = r

/-- The job and the layers that it holds and builds (R30, R146, R149, R151). -/
structure Jobbed (s : State) : Prop where
  idle : s.job.running = false → s.job = Job.idle
  runs : s.job.running = true → s.job.sources ≠ [] ∧ (∀ src ∈ s.job.sources, (s.layer src.slot).state = .active) ∧
    ∃ x, s.job.result = some x ∧ (s.layer x).state = .building
  held : ∀ x, (s.layer x).held = true ↔ s.job.running = true ∧ x ∈ s.job.sources.map Source.slot
  building : ∀ x, (s.layer x).state = .building → s.job.running = true ∧ s.job.result = some x

/-- What layers, lists, pool, recorders and job say of one another, whatever the transport. -/
structure Parts (s : State) : Prop where
  listed : Listed s
  sound : ∀ x, (s.layer x).Sound
  paged : Paged s
  taken : Taken s
  jobbed : Jobbed s

/-- No layer and no take. -/
def State.Blank (s : State) : Prop := (∀ x, (s.layer x).state = .free) ∧ ∀ r, (s.recorder r).state = .idle

/-- What the transport's state says of the song (R5, R12, R149). -/
structure Moded (s : State) : Prop where
  base : ∀ r, (s.recorder r).OfBase → s.transport.state = .defining
  job : s.job.running = true →
    s.transport.state = .running ∨ s.transport.state = .priming ∨ s.transport.state = .halted
  idle : s.transport.state = .idle → s.Blank

/-- The song in agreement: all of `songSound` but where a start-up starts. -/
structure Agreed (s : State) : Prop where
  parts : Parts s
  moded : Moded s

/-! ## From and to `songSound` -/

theorem paged_iff (s : State) :
    Paged s ↔ s.store.pool.Pairwise (· < ·) ∧
      (s.store.pool ++ slotNumbers.flatMap fun x => pagesOf (s.layer x).extents).Perm (List.range s.store.pages) := by
  have hnodup : (s.store.pool ++ slotNumbers.flatMap fun x => pagesOf (s.layer x).extents).Nodup ↔
      s.store.pool.Nodup ∧ ((∀ x, (pagesOf (s.layer x).extents).Nodup) ∧
        ∀ x y page, page ∈ pagesOf (s.layer x).extents → page ∈ pagesOf (s.layer y).extents → x = y) ∧
        ∀ x page, page ∈ pagesOf (s.layer x).extents → page ∉ s.store.pool := by
    rw [List.nodup_append', List.nodup_flatMap]
    refine and_congr_right fun _ => and_congr (and_congr ?_ ⟨fun h x y page hx hy => ?_, fun h => ?_⟩)
      ⟨fun h x page hx hp => ?_, fun h page hp hpages => ?_⟩
    · exact ⟨fun h x => h x (mem_slotNumbers x), fun h x _ => h x⟩
    · by_contra hne
      have : Std.Symm (Function.onFun List.Disjoint fun x => pagesOf (s.layer x).extents) := ⟨fun _ _ hd => List.Disjoint.symm hd⟩
      exact h.forall (mem_slotNumbers x) (mem_slotNumbers y) hne hx hy
    · rw [slotNumbers_eq]
      exact (List.nodup_finRange 24).imp fun hne page hx hy => hne (h _ _ page hx hy)
    · exact h hp (List.mem_flatMap.mpr ⟨x, mem_slotNumbers x, hx⟩)
    · obtain ⟨x, -, hx⟩ := List.mem_flatMap.mp hpages
      exact h x page hx hp
  have hmem : ∀ page, page ∈ s.store.pool ++ slotNumbers.flatMap (fun x => pagesOf (s.layer x).extents) ↔
      page ∈ s.store.pool ∨ ∃ x, page ∈ pagesOf (s.layer x).extents := fun page => by
    simp [List.mem_flatMap, mem_slotNumbers]
  constructor
  · intro h
    have hall := hnodup.mpr ⟨h.sorted.imp ne_of_lt, ⟨h.once, h.apart⟩, h.outside⟩
    exact ⟨h.sorted, (List.perm_ext_iff_of_nodup hall List.nodup_range).mpr fun page => by rw [hmem, List.mem_range, h.all]⟩
  · rintro ⟨hsorted, hperm⟩
    obtain ⟨-, ⟨honce, hapart⟩, houtside⟩ := hnodup.mp (hperm.nodup_iff.mpr List.nodup_range)
    exact ⟨hsorted, honce, hapart, houtside, fun page => by rw [← hmem, hperm.mem_iff, List.mem_range]⟩

theorem songSound.agreed {s : State} (h : songSound s) : Agreed s where
  parts :=
    { listed := ⟨h.stack, h.redo⟩
      sound := fun x => ⟨h.free x, h.counts x⟩
      paged := (paged_iff s).mpr h.pages
      taken :=
        { idle := h.idle
          take := fun r hr => by
            obtain ⟨hlane, x, hx, hlen, hstored, hgap, hfits⟩ := h.take r hr
            exact ⟨⟨hlane, hstored, hgap⟩, x, hx, hlen, hfits⟩
          named := h.named
          inTake := h.inTake
          order := h.order
          burst := h.burst
          oneBase := fun r q hr hq => (h.base r hr.1 hr.2).2 q hq.1 hq.2 }
      jobbed := ⟨h.jobIdle, fun hr => (h.jobRuns hr).2, h.held, h.building⟩ }
  moded :=
    ⟨fun r hr => (h.base r hr.1 hr.2).1, fun hr => (h.jobRuns hr).1, fun hi => ⟨(h.idleSong hi).1, (h.idleSong hi).2.1⟩⟩

/-- In the blank song no job runs. -/
theorem Parts.job_of_blank {s : State} (h : Parts s) (hb : s.Blank) : s.job.running = false := by
  by_contra hr
  obtain ⟨-, -, x, -, hx⟩ := h.jobbed.runs (by simpa using hr)
  rw [hb.1 x] at hx
  cases hx

theorem Agreed.songSound {s : State} (h : Agreed s)
    (hstart : s.rest.run = .starting → s.rest.cause = .power ∨ s.rest.cause = .restart → s.transport.state = .idle) :
    songSound s where
  stack := h.parts.listed.stack
  redo := h.parts.listed.redo
  free x := (h.parts.sound x).1
  pages := (paged_iff s).mp h.parts.paged
  counts x := (h.parts.sound x).2
  idle := h.parts.taken.idle
  take r hr := by
    obtain ⟨⟨hlane, hstored, hgap⟩, x, hx, hlen, hfits⟩ := h.parts.taken.take r hr
    exact ⟨hlane, x, hx, hlen, hstored, hgap, hfits⟩
  named := h.parts.taken.named
  inTake := h.parts.taken.inTake
  order := h.parts.taken.order
  burst := h.parts.taken.burst
  base r hb ht := ⟨h.moded.base r ⟨hb, ht⟩, fun q hqb hqt => h.parts.taken.oneBase r q ⟨hb, ht⟩ ⟨hqb, hqt⟩⟩
  jobIdle := h.parts.jobbed.idle
  jobRuns hr := ⟨h.moded.job hr, h.parts.jobbed.runs hr⟩
  held := h.parts.jobbed.held
  building := h.parts.jobbed.building
  idleSong hi := ⟨(h.moded.idle hi).1, (h.moded.idle hi).2, h.parts.job_of_blank (h.moded.idle hi)⟩
  starting := hstart

/-! ## What the clauses do not read -/

theorem Listed.congr {s t : State} (h : Listed s) (hstack : t.table.stack = s.table.stack) (hredo : t.table.redo = s.table.redo)
    (hactive : ∀ x, (t.layer x).state = .active ↔ (s.layer x).state = .active)
    (hparked : ∀ x, (t.layer x).state = .parked ↔ (s.layer x).state = .parked) : Listed t := by
  constructor
  · simpa only [hstack, hactive] using h.stack
  · simpa only [hredo, hparked] using h.redo

theorem Paged.congr {s t : State} (h : Paged s) (hpool : t.store.pool = s.store.pool) (hpages : t.store.pages = s.store.pages)
    (hlayer : ∀ x, pagesOf (t.layer x).extents = pagesOf (s.layer x).extents) : Paged t := by
  constructor
  · simpa only [hpool] using h.sorted
  · simpa only [hlayer] using h.once
  · simpa only [hlayer] using h.apart
  · simpa only [hlayer, hpool] using h.outside
  · simpa only [hlayer, hpool, hpages] using h.all

/-- A job that may differ in what the song does not read, while it runs. -/
def Job.Like (i j : Job) : Prop :=
  i.running = j.running ∧ i.result = j.result ∧ i.sources = j.sources ∧ (j = Job.idle → i = Job.idle)

theorem Job.Like.refl (j : Job) : j.Like j := ⟨rfl, rfl, rfl, id⟩

theorem Job.Like.of_eq {i j : Job} (h : i = j) : i.Like j := h ▸ .refl i

theorem Jobbed.congr {s t : State} (h : Jobbed s) (hjob : t.job.Like s.job) (hheld : ∀ x, (t.layer x).held = (s.layer x).held)
    (hactive : ∀ x, (s.layer x).held = true → (s.layer x).state = .active → (t.layer x).state = .active)
    (hbuilding : ∀ x, (t.layer x).state = .building ↔ (s.layer x).state = .building) : Jobbed t := by
  obtain ⟨hrunning, hresult, hsources, hidle⟩ := hjob
  constructor
  · rw [hrunning]
    exact fun hr => hidle (h.idle hr)
  · rw [hrunning, hresult, hsources]
    intro hr
    obtain ⟨hne, hsrc, x, hx, hb⟩ := h.runs hr
    exact ⟨hne, fun src hmem => hactive _ ((h.held _).mpr ⟨hr, List.mem_map_of_mem hmem⟩) (hsrc src hmem), x, hx, (hbuilding x).mpr hb⟩
  · intro x
    rw [hheld, hrunning, hsources]
    exact h.held x
  · intro x hx
    rw [hrunning, hresult]
    exact h.building x ((hbuilding x).mp hx)

/-- A recorder that may differ in what the song does not read, while it has a take. -/
def RecorderRec.Like (p q : RecorderRec) : Prop :=
  p.state = q.state ∧ p.lane = q.lane ∧ p.slot = q.slot ∧ p.base = q.base ∧ p.tail = q.tail ∧ p.fifo = q.fifo ∧ p.gap = q.gap ∧
    p.cursor = q.cursor ∧ (q = RecorderRec.idle → p = RecorderRec.idle)

theorem RecorderRec.Like.refl (q : RecorderRec) : q.Like q := ⟨rfl, rfl, rfl, rfl, rfl, rfl, rfl, rfl, id⟩

theorem RecorderRec.Like.of_eq {p q : RecorderRec} (h : p = q) : p.Like q := h ▸ .refl p

/-- A flag of the port in a record of a recorder that has a take, or was not set. -/
theorem RecorderRec.like_inFlight (q : RecorderRec) (b : Bool) (h : q = RecorderRec.idle → b = false) :
    RecorderRec.Like { q with inFlight := b } q := by
  refine ⟨rfl, rfl, rfl, rfl, rfl, rfl, rfl, rfl, fun hq => ?_⟩
  rw [h hq, hq]
  rfl

theorem RecorderRec.Like.kept {p q : RecorderRec} (h : p.Like q) : p.Kept ↔ q.Kept := by
  obtain ⟨-, hlane, -, -, -, hfifo, hgap, -, -⟩ := h
  rw [Kept, Kept, hlane, hfifo, hgap]

theorem RecorderRec.Like.serves {p q : RecorderRec} (h : p.Like q) (l : LayerRec) : p.Serves l ↔ q.Serves l := by
  obtain ⟨hstate, -, -, hbase, htail, hfifo, hgap, hcursor, -⟩ := h
  rw [Serves, Serves, hstate, hbase, htail, hfifo, hgap, hcursor]

theorem RecorderRec.Like.ofBase {p q : RecorderRec} (h : p.Like q) : p.OfBase ↔ q.OfBase := by
  obtain ⟨-, -, -, hbase, htail, -⟩ := h
  rw [OfBase, OfBase, hbase, htail]

/-- The recorders alike, each over a layer that it still serves. -/
theorem Taken.congr {s t : State} (h : Taken s) (hrec : ∀ r, (t.recorder r).Like (s.recorder r))
    (horder : t.takes.order = s.takes.order)
    (hlayer : ∀ r x, (s.recorder r).slot = some x → (s.recorder r).Serves (s.layer x) → (s.recorder r).Serves (t.layer x))
    (htaken : ∀ x, (t.layer x).state.taken → (s.layer x).state.taken)
    (hburst : ∀ r n left, t.store.transfer = some ⟨.drain r n, left⟩ →
      (t.recorder r).inFlight = true ∧ n ≤ fifoOffsets (s.recorder r).fifo) : Taken t := by
  have hstate : ∀ r, (t.recorder r).state = (s.recorder r).state := fun r => (hrec r).1
  have hslot : ∀ r, (t.recorder r).slot = (s.recorder r).slot := fun r => (hrec r).2.2.1
  constructor
  · intro r hr
    obtain ⟨-, -, -, -, -, -, -, -, hidle⟩ := hrec r
    exact hidle (h.idle r (hstate r ▸ hr))
  · intro r hr
    obtain ⟨hkept, x, hx, hserves⟩ := h.take r (hstate r ▸ hr)
    exact ⟨(hrec r).kept.mpr hkept, x, (hslot r).trans hx, ((hrec r).serves _).mpr (hlayer r x hx hserves)⟩
  · simpa only [hslot] using h.named
  · intro x hx
    obtain ⟨r, hr, ht⟩ := h.inTake x (htaken x hx)
    obtain ⟨-, -, -, -, htail, -⟩ := hrec r
    exact ⟨r, (hslot r).trans hr, htail.trans ht⟩
  · simpa only [horder, hstate] using h.order
  · intro r n left ht
    obtain ⟨-, -, -, -, -, hfifo, -⟩ := hrec r
    rw [hfifo]
    exact hburst r n left ht
  · intro r q hr hq
    exact h.oneBase r q ((hrec r).ofBase.mp hr) ((hrec q).ofBase.mp hq)

/-- A layer that may differ in what the song does not read, while it is not FREE. -/
def LayerRec.Like (l m : LayerRec) : Prop :=
  l.state = m.state ∧ l.len = m.len ∧ l.extents = m.extents ∧ l.held = m.held ∧ (m = LayerRec.freed → l = LayerRec.freed)

theorem LayerRec.Like.refl (l : LayerRec) : l.Like l := ⟨rfl, rfl, rfl, rfl, id⟩

theorem LayerRec.Like.of_eq {l m : LayerRec} (h : l = m) : l.Like m := h ▸ .refl l

theorem LayerRec.Like.sound {l m : LayerRec} (h : l.Like m) (hm : m.Sound) : l.Sound := by
  obtain ⟨hstate, hlen, hextents, -, hfreed⟩ := h
  refine ⟨fun hf => hfreed (hm.1 (hstate ▸ hf)), ?_⟩
  rw [hstate, hlen, hextents]
  exact hm.2

theorem LayerRec.Like.serves {l m : LayerRec} (h : l.Like m) {q : RecorderRec} (hq : q.Serves m) : q.Serves l := by
  obtain ⟨hstate, hlen, -⟩ := h
  rw [RecorderRec.Serves, hstate, hlen]
  exact hq

/-- A transport whose state is the same, or that has left PRIMING for RUNNING. -/
def Transport.Alike (t u : Transport) : Prop := t.state = u.state ∨ (u.state = .priming ∧ t.state = .running)

theorem Moded.congr {s t : State} (h : Moded s) (hmode : t.transport.Alike s.transport)
    (hbase : ∀ r, (t.recorder r).OfBase → (s.recorder r).OfBase) (hjob : t.job.running = true → s.job.running = true)
    (hblank : s.transport.state = .idle → s.Blank → t.Blank) : Moded t := by
  rcases hmode with hmode | ⟨hp, hr⟩
  · refine ⟨fun r hr => ?_, fun hr => ?_, fun hi => ?_⟩
    · rw [hmode]
      exact h.base r (hbase r hr)
    · rw [hmode]
      exact h.job (hjob hr)
    · rw [hmode] at hi
      exact hblank hi (h.idle hi)
  · refine ⟨fun r hb => ?_, fun _ => .inl hr, fun hi => ?_⟩
    · have hd := h.base r (hbase r hb)
      rw [hp] at hd
      cases hd
    · rw [hr] at hi
      cases hi

/-- A change of what the song does not read. -/
theorem Parts.congr {s t : State} (h : Parts s) (hstack : t.table.stack = s.table.stack) (hredo : t.table.redo = s.table.redo)
    (horder : t.takes.order = s.takes.order) (hpool : t.store.pool = s.store.pool) (hpages : t.store.pages = s.store.pages)
    (hlayer : ∀ x, (t.layer x).Like (s.layer x)) (hrec : ∀ r, (t.recorder r).Like (s.recorder r))
    (hburst : ∀ r n left, t.store.transfer = some ⟨.drain r n, left⟩ →
      (t.recorder r).inFlight = true ∧ n ≤ fifoOffsets (s.recorder r).fifo)
    (hjob : t.job.Like s.job) : Parts t := by
  have hstate : ∀ x, (t.layer x).state = (s.layer x).state := fun x => (hlayer x).1
  refine ⟨h.listed.congr hstack hredo (fun x => by rw [hstate]) fun x => by rw [hstate], fun x => (hlayer x).sound (h.sound x),
    h.paged.congr hpool hpages fun x => ?_, h.taken.congr hrec horder (fun r x _ hs => (hlayer x).serves hs) (fun x => ?_) hburst,
    h.jobbed.congr hjob (fun x => ?_) (fun x _ ha => (hstate x).trans ha) fun x => by rw [hstate]⟩
  · obtain ⟨-, -, hextents, -⟩ := hlayer x
    rw [hextents]
  · rw [hstate]
    exact id
  · obtain ⟨-, -, -, hheld, -⟩ := hlayer x
    exact hheld

theorem Agreed.congr {s t : State} (h : Agreed s) (hmode : t.transport.Alike s.transport) (hstack : t.table.stack = s.table.stack)
    (hredo : t.table.redo = s.table.redo) (horder : t.takes.order = s.takes.order) (hpool : t.store.pool = s.store.pool)
    (hpages : t.store.pages = s.store.pages) (hlayer : ∀ x, (t.layer x).Like (s.layer x))
    (hrec : ∀ r, (t.recorder r).Like (s.recorder r))
    (hburst : ∀ r n left, t.store.transfer = some ⟨.drain r n, left⟩ →
      (t.recorder r).inFlight = true ∧ n ≤ fifoOffsets (s.recorder r).fifo)
    (hjob : t.job.Like s.job) : Agreed t := by
  refine ⟨h.parts.congr hstack hredo horder hpool hpages hlayer hrec hburst hjob,
    h.moded.congr hmode (fun r => (hrec r).ofBase.mp) (by rw [hjob.1]; exact id) fun _ hb => ⟨fun x => ?_, fun r => ?_⟩⟩
  · rw [(hlayer x).1]
    exact hb.1 x
  · rw [(hrec r).1]
    exact hb.2 r

/-- A change beside layer table, recorders, pool, job and the drain in flight. -/
theorem Agreed.beside {s t : State} (h : Agreed s) (hmode : t.transport.Alike s.transport) (htable : t.table = s.table)
    (htakes : t.takes = s.takes) (hpool : t.store.pool = s.store.pool) (hpages : t.store.pages = s.store.pages)
    (hdrain : ∀ r n left, t.store.transfer = some ⟨.drain r n, left⟩ → ∃ left', s.store.transfer = some ⟨.drain r n, left'⟩)
    (hjob : t.job.Like s.job) : Agreed t := by
  have hrec : ∀ r, t.recorder r = s.recorder r := fun r => by unfold State.recorder; rw [htakes]
  refine h.congr hmode (by rw [htable]) (by rw [htable]) (by rw [htakes]) hpool hpages
    (fun x => .of_eq (by unfold State.layer; rw [htable])) (fun r => .of_eq (hrec r)) (fun r n left ht => ?_) hjob
  obtain ⟨left', hs⟩ := hdrain r n left ht
  rw [hrec]
  exact h.parts.taken.burst r n left' hs

/-- A change beside everything that the song reads. -/
theorem Agreed.same {s t : State} (h : Agreed s) (hstate : t.transport.state = s.transport.state) (htable : t.table = s.table)
    (htakes : t.takes = s.takes) (hstore : t.store = s.store) (hjob : t.job = s.job) : Agreed t :=
  h.beside (.inl hstate) htable htakes (by rw [hstore]) (by rw [hstore]) (fun r n left ht => ⟨left, by rw [← hstore, ht]⟩)
    (.of_eq hjob)

theorem Agreed.reported {s : State} (h : Agreed s) (room : Nat) (m : Message) : Agreed (s.reported room m) := by
  rw [State.reported_eq]
  exact h.same rfl rfl rfl rfl rfl

theorem Agreed.setLink {s : State} (h : Agreed s) (l : Link) : Agreed (s.setLink l) := h.same rfl rfl rfl rfl rfl

theorem Agreed.setRest {s : State} (h : Agreed s) (r : RestControl) : Agreed (s.setRest r) := h.same rfl rfl rfl rfl rfl

theorem Agreed.setMix {s : State} (h : Agreed s) (m : Mix) : Agreed (s.setMix m) := h.same rfl rfl rfl rfl rfl

theorem Agreed.setCues {s : State} (h : Agreed s) (q : CueQueues) : Agreed (s.setCues q) := h.same rfl rfl rfl rfl rfl

theorem Agreed.setLanes {s : State} (h : Agreed s) (l : Vector LaneRec 4) : Agreed (s.setLanes l) := h.same rfl rfl rfl rfl rfl

theorem Agreed.reply {s : State} (h : Agreed s) (m : Message) : Agreed (Machine.reply m s) := h.same rfl rfl rfl rfl rfl

theorem Agreed.setOpenOrders {s : State} (h : Agreed s) (n : Nat) : Agreed (s.setOpenOrders n) := h.same rfl rfl rfl rfl rfl

theorem Agreed.openOrder {α : Type} {s : State} (h : Agreed s) (xs : List α) : Agreed (openOrder xs s).2 := by
  obtain ⟨n, hn⟩ := openOrder_state xs s
  rw [hn]
  exact h.setOpenOrders n

theorem Agreed.setTransport {s : State} (h : Agreed s) (t : Transport) (ht : t.state = s.transport.state) : Agreed (s.setTransport t) :=
  h.same ht rfl rfl rfl rfl

end Sys2Proof.Machine
end

section
/-! SUPPORT. The song in agreement through layers that are freed, and through a change of one recorder or of one layer. -/

namespace Sys2Proof.Machine

/-! ## Layers that are freed -/

section Freed

variable {s u : State} {gone : Slot → Bool} {idle : Recorder → Bool}

theorem SongFreed.layer_gone (f : SongFreed s u gone idle) {x : Slot} (hx : gone x = true) : u.layer x = LayerRec.freed := by
  rw [f.layer, if_pos hx]

theorem SongFreed.layer_kept (f : SongFreed s u gone idle) {x : Slot} (hx : gone x = false) : u.layer x = s.layer x := by
  rw [f.layer, if_neg (by simp [hx])]

/-- A layer that is not FREE behind the freeing is as it was. -/
theorem SongFreed.layer_of_not_free (f : SongFreed s u gone idle) {x : Slot} (hx : (u.layer x).state ≠ .free) :
    gone x = false ∧ u.layer x = s.layer x := by
  cases hg : gone x with
  | true => rw [f.layer_gone hg] at hx; exact absurd rfl hx
  | false => exact ⟨rfl, f.layer_kept hg⟩

theorem SongFreed.state_iff (f : SongFreed s u gone idle) (x : Slot) (y : LState) (hy : y ≠ .free) :
    (u.layer x).state = y ↔ gone x = false ∧ (s.layer x).state = y := by
  cases hg : gone x with
  | true => rw [f.layer_gone hg]; exact ⟨fun h => absurd h.symm hy, nofun⟩
  | false => rw [f.layer_kept hg]; simp

theorem SongFreed.mem_pages (f : SongFreed s u gone idle) {x : Slot} {page : Nat} :
    page ∈ pagesOf (u.layer x).extents ↔ gone x = false ∧ page ∈ pagesOf (s.layer x).extents := by
  cases hg : gone x with
  | true => rw [f.layer_gone hg]; exact ⟨nofun, nofun⟩
  | false => rw [f.layer_kept hg]; simp

theorem Listed.freed (h : Listed s) (f : SongFreed s u gone idle) : Listed u where
  stack := by
    rw [f.stack]
    refine ⟨h.stack.1.filter _, fun x => ?_⟩
    rw [List.mem_filter, h.stack.2, f.state_iff x .active nofun]
    simp [and_comm]
  redo := by
    rw [f.redo]
    refine ⟨h.redo.1.filter _, fun x => ?_⟩
    rw [List.mem_filter, h.redo.2, f.state_iff x .parked nofun]
    simp [and_comm]

theorem LayerRec.sound_freed : LayerRec.freed.Sound := ⟨fun _ => rfl, fun h => absurd rfl h⟩

/-- A layer that is held is not FREE, so its record is as sound as before. -/
theorem LayerRec.Sound.withHeld {l : LayerRec} {b : Bool} (h : l.Sound) (hb : b = true → l.state = .active) :
    LayerRec.Sound { l with held := b } := by
  refine ⟨fun hf => ?_, h.2⟩
  have hb' : b = false := by
    by_contra hbt
    exact nomatch (hb (by simpa using hbt)).symm.trans hf
  rw [hb', h.1 hf]
  rfl

theorem SongFreed.sound (f : SongFreed s u gone idle) (h : ∀ x, (s.layer x).Sound) (x : Slot) : (u.layer x).Sound := by
  rw [f.layer]
  split
  · exact LayerRec.sound_freed
  · exact h x

theorem Paged.freed (h : Paged s) (f : SongFreed s u gone idle) : Paged u where
  sorted := f.sorted h.sorted
  once x := by
    cases hg : gone x with
    | true => rw [f.layer_gone hg]; exact List.nodup_nil
    | false => rw [f.layer_kept hg]; exact h.once x
  apart x y page hx hy := h.apart x y page (f.mem_pages.mp hx).2 (f.mem_pages.mp hy).2
  outside x page hx hp := by
    obtain ⟨hg, hx⟩ := f.mem_pages.mp hx
    rcases (f.pool page).mp hp with hp | ⟨y, hy, hpage⟩
    · exact h.outside x page hx hp
    · rw [h.apart x y page hx hpage, hy] at hg
      cases hg
  all page := by
    have hpages : u.store.pages = s.store.pages := by rw [f.store]
    rw [hpages, h.all, f.pool]
    simp only [f.mem_pages]
    constructor
    · rintro (hp | ⟨x, hx⟩)
      · exact .inl (.inl hp)
      · cases hg : gone x with
        | true => exact .inl (.inr ⟨x, hg, hx⟩)
        | false => exact .inr ⟨x, hg, hx⟩
    · rintro ((hp | ⟨x, -, hx⟩) | ⟨x, -, hx⟩)
      · exact .inl hp
      · exact .inr ⟨x, hx⟩
      · exact .inr ⟨x, hx⟩

/-- With the recorders of all freed layers back in IDLE the others are as they were. -/
theorem SongFreed.recorder_kept (f : SongFreed s u gone idle) (hidle : ∀ q x, (s.recorder q).slot = some x → gone x = true → idle q = true)
    {q : Recorder} (hq : idle q = false) : u.recorder q = s.recorder q :=
  f.spared q fun x hx => by
    by_contra hg
    rw [hidle q x hx (by simpa using hg)] at hq
    cases hq

theorem SongFreed.recorder_of_not_idle (f : SongFreed s u gone idle)
    (hidle : ∀ q x, (s.recorder q).slot = some x → gone x = true → idle q = true) {q : Recorder}
    (hq : (u.recorder q).state ≠ .idle) : idle q = false ∧ u.recorder q = s.recorder q := by
  cases hi : idle q with
  | true => rw [f.idled q hi] at hq; exact absurd rfl hq
  | false => exact ⟨rfl, f.recorder_kept hidle hi⟩

theorem Taken.freed (h : Taken s) (f : SongFreed s u gone idle)
    (hidle : ∀ q x, (s.recorder q).slot = some x → gone x = true → idle q = true) : Taken u := by
  have hslot : ∀ q x, (u.recorder q).slot = some x → (s.recorder q).slot = some x := fun q x hx => ((f.slot q x).mp hx).1
  refine ⟨fun q hq => ?_, fun q hq => ?_, fun r q x hr hq => h.named r q x (hslot r x hr) (hslot q x hq), fun x hx => ?_,
    ⟨?_, fun q => ?_⟩, fun q n left ht => ?_, fun r q hr hq => ?_⟩
  · cases hi : idle q with
    | true => exact f.idled q hi
    | false =>
      rw [f.recorder_kept hidle hi] at hq ⊢
      exact h.idle q hq
  · obtain ⟨hi, he⟩ := f.recorder_of_not_idle hidle hq
    rw [he] at hq ⊢
    obtain ⟨hkept, x, hx, hserves⟩ := h.take q hq
    refine ⟨hkept, x, hx, ?_⟩
    rw [f.layer_kept]
    · exact hserves
    · by_contra hg
      rw [hidle q x hx (by simpa using hg)] at hi
      cases hi
  · have hfree : (u.layer x).state ≠ .free := fun hf => by
      rw [hf] at hx
      exact hx.elim nofun nofun
    obtain ⟨hg, he⟩ := f.layer_of_not_free hfree
    rw [he] at hx
    obtain ⟨r, hr, ht⟩ := h.inTake x hx
    have hi : idle r = false := by
      by_contra hi
      obtain ⟨y, hy, hgy⟩ := f.named r (by simpa using hi)
      obtain rfl := Option.some.inj (hr.symm.trans hy)
      rw [hg] at hgy
      cases hgy
    rw [← f.recorder_kept hidle hi] at hr ht
    exact ⟨r, hr, ht⟩
  · rw [f.order]
    exact h.order.1.filter _
  · rw [f.order, List.mem_filter, h.order.2]
    cases hi : idle q with
    | true => rw [f.idled q hi]; simp [RecorderRec.idle]
    | false => rw [f.recorder_kept hidle hi]; simp
  · rw [f.store] at ht
    obtain ⟨hs, hlive⟩ := Option.filter_eq_some_iff.mp ht
    have hi : idle q = false := by
      by_contra hi
      obtain ⟨y, hy, hg⟩ := f.named q (by simpa using hi)
      have hany : (slotNumbers.any fun x => gone x && ofLayer s x (.drain q n)) = true :=
        List.any_eq_true.mpr ⟨y, mem_slotNumbers y, by simp [hg, ofLayer, hy]⟩
      simp [hany] at hlive
    rw [f.recorder_kept hidle hi]
    exact h.burst q n left hs
  · have hback : ∀ p, (u.recorder p).OfBase → (s.recorder p).OfBase := fun p hp => by
      cases hi : idle p with
      | true => rw [f.idled p hi] at hp; exact nomatch hp.1
      | false => rwa [f.recorder_kept hidle hi] at hp
    exact h.oneBase r q (hback r hr) (hback q hq)

/-- With neither a source nor the result freed the job stays as it was. -/
theorem Jobbed.freed (h : Jobbed s) (f : SongFreed s u gone idle)
    (hgone : ∀ x, gone x = true → (s.layer x).held = false ∧ (s.layer x).state ≠ .building) : Jobbed u := by
  obtain ⟨b, hb⟩ := f.job
  have hheld : ∀ x, (u.layer x).held = (s.layer x).held := fun x => by
    cases hg : gone x with
    | true => rw [f.layer_gone hg, (hgone x hg).1]; rfl
    | false => rw [f.layer_kept hg]
  refine h.congr ⟨by rw [hb], by rw [hb], by rw [hb], fun hi => ?_⟩ hheld (fun x hx ha => ?_) fun x => ?_
  · rw [f.jobNone (by rw [hi]; rfl), hi]
  · rw [f.layer_kept, ha]
    by_contra hg
    rw [(hgone x (by simpa using hg)).1] at hx
    cases hx
  · rw [f.state_iff x .building nofun]
    exact ⟨fun hx => hx.2, fun hx => ⟨by by_contra hg; exact (hgone x (by simpa using hg)).2 hx, hx⟩⟩

theorem SongFreed.blank (f : SongFreed s u gone idle)
    (hidle : ∀ q x, (s.recorder q).slot = some x → gone x = true → idle q = true) (hb : s.Blank) : u.Blank := by
  refine ⟨fun x => ?_, fun q => ?_⟩
  · rw [f.layer]
    split
    · rfl
    · exact hb.1 x
  · cases hi : idle q with
    | true => rw [f.idled q hi]; rfl
    | false => rw [f.recorder_kept hidle hi]; exact hb.2 q

theorem SongFreed.ofBase (f : SongFreed s u gone idle)
    (hidle : ∀ q x, (s.recorder q).slot = some x → gone x = true → idle q = true) {q : Recorder} (hq : (u.recorder q).OfBase) :
    (s.recorder q).OfBase := by
  cases hi : idle q with
  | true => rw [f.idled q hi] at hq; exact nomatch hq.1
  | false => rwa [f.recorder_kept hidle hi] at hq

theorem Parts.freed (h : Parts s) (f : SongFreed s u gone idle)
    (hidle : ∀ q x, (s.recorder q).slot = some x → gone x = true → idle q = true)
    (hgone : ∀ x, gone x = true → (s.layer x).held = false ∧ (s.layer x).state ≠ .building) : Parts u :=
  ⟨h.listed.freed f, f.sound h.sound, h.paged.freed f, h.taken.freed f hidle, h.jobbed.freed f hgone⟩

theorem Agreed.freed (h : Agreed s) (f : SongFreed s u gone idle) (hstate : u.transport.state = s.transport.state)
    (hidle : ∀ q x, (s.recorder q).slot = some x → gone x = true → idle q = true)
    (hgone : ∀ x, gone x = true → (s.layer x).held = false ∧ (s.layer x).state ≠ .building) : Agreed u := by
  obtain ⟨b, hb⟩ := f.job
  exact ⟨h.parts.freed f hidle hgone,
    h.moded.congr (.inl hstate) (fun r => f.ofBase hidle) (by rw [hb]; exact id) fun _ => f.blank hidle⟩

end Freed

/-! ## One recorder -/

/-- A recorder that goes on with its take, or into the tail drain. -/
theorem Taken.step {s t : State} (h : Taken s) (r : Recorder) (x : Slot) (hx : (s.recorder r).slot = some x)
    (hother : ∀ q, q ≠ r → t.recorder q = s.recorder q) (horder : t.takes.order = s.takes.order)
    (hlayers : ∀ y, y ≠ x → t.layer y = s.layer y) (hbusy : (t.recorder r).state ≠ .idle) (hkept : (t.recorder r).Kept)
    (hslot : (t.recorder r).slot = some x) (hserves : (t.recorder r).Serves (t.layer x))
    (hin : (t.layer x).state.taken → (t.recorder r).tail = false)
    (hburst : ∀ q n left, t.store.transfer = some ⟨.drain q n, left⟩ →
      (t.recorder q).inFlight = true ∧ n ≤ fifoOffsets (t.recorder q).fifo)
    (hbase : (t.recorder r).OfBase → (s.recorder r).OfBase) : Taken t := by
  have hbusyOld : (s.recorder r).state ≠ .idle := fun hi => by
    rw [h.idle r hi] at hx
    cases hx
  have hslots : ∀ q, (t.recorder q).slot = (s.recorder q).slot := fun q => by
    by_cases hq : q = r
    · rw [hq, hslot, hx]
    · rw [hother q hq]
  have hidles : ∀ q, (t.recorder q).state ≠ .idle ↔ (s.recorder q).state ≠ .idle := fun q => by
    by_cases hq : q = r
    · rw [hq]
      exact ⟨fun _ => hbusyOld, fun _ => hbusy⟩
    · rw [hother q hq]
  have hbases : ∀ q, (t.recorder q).OfBase → (s.recorder q).OfBase := fun q => by
    by_cases hq : q = r
    · rw [hq]
      exact hbase
    · rw [hother q hq]
      exact id
  refine ⟨fun q hq => ?_, fun q hq => ?_, ?_, fun y hy => ?_, ?_, hburst, fun p q hp hq => h.oneBase p q (hbases p hp) (hbases q hq)⟩
  · have hqr : q ≠ r := fun hqr => hbusy (hqr ▸ hq)
    rw [hother q hqr] at hq ⊢
    exact h.idle q hq
  · by_cases hqr : q = r
    · rw [hqr]
      exact ⟨hkept, x, hslot, hserves⟩
    · rw [hother q hqr] at hq ⊢
      obtain ⟨hk, y, hy, hs⟩ := h.take q hq
      have hyx : y ≠ x := fun hyx => hqr (h.named q r x (hyx ▸ hy) hx)
      exact ⟨hk, y, hy, by rw [hlayers y hyx]; exact hs⟩
  · simpa only [hslots] using h.named
  · by_cases hyx : y = x
    · rw [hyx] at hy ⊢
      exact ⟨r, hslot, hin hy⟩
    · rw [hlayers y hyx] at hy
      obtain ⟨q, hq, ht⟩ := h.inTake y hy
      have hqr : q ≠ r := fun hqr => hyx (Option.some.inj (hq.symm.trans (hqr ▸ hx)))
      exact ⟨q, by rw [hother q hqr]; exact hq, by rw [hother q hqr]; exact ht⟩
  · rw [horder]
    exact ⟨h.order.1, fun q => (h.order.2 q).trans (hidles q).symm⟩

/-- A recorder that leaves its layer, which is in no take any more. -/
theorem Taken.left {s t : State} (h : Taken s) (r : Recorder) (x : Slot) (hx : (s.recorder r).slot = some x)
    (hself : t.recorder r = RecorderRec.idle) (hother : ∀ q, q ≠ r → t.recorder q = s.recorder q)
    (horder : t.takes.order = s.takes.order.filter (· != r)) (hlayers : ∀ y, y ≠ x → t.layer y = s.layer y)
    (hout : ¬(t.layer x).state.taken) (htransfer : t.store.transfer = s.store.transfer)
    (hlanded : (s.recorder r).inFlight = false) : Taken t := by
  have hslots : ∀ q y, (t.recorder q).slot = some y → q ≠ r ∧ (s.recorder q).slot = some y := fun q y hy => by
    have hqr : q ≠ r := by
      rintro rfl
      rw [hself] at hy
      cases hy
    rw [hother q hqr] at hy
    exact ⟨hqr, hy⟩
  have hbases : ∀ q, (t.recorder q).OfBase → (s.recorder q).OfBase := fun q hq => by
    by_cases hqr : q = r
    · rw [hqr, hself] at hq
      exact nomatch hq.1
    · rwa [hother q hqr] at hq
  refine ⟨fun q hq => ?_, fun q hq => ?_, fun p q y hp hq => h.named p q y (hslots p y hp).2 (hslots q y hq).2, fun y hy => ?_,
    ⟨?_, fun q => ?_⟩, fun q n left ht => ?_, fun p q hp hq => h.oneBase p q (hbases p hp) (hbases q hq)⟩
  · by_cases hqr : q = r
    · rw [hqr, hself]
    · rw [hother q hqr] at hq ⊢
      exact h.idle q hq
  · have hqr : q ≠ r := by
      rintro rfl
      rw [hself] at hq
      exact hq rfl
    rw [hother q hqr] at hq ⊢
    obtain ⟨hk, y, hy, hs⟩ := h.take q hq
    have hyx : y ≠ x := fun hyx => hqr (h.named q r x (hyx ▸ hy) hx)
    exact ⟨hk, y, hy, by rw [hlayers y hyx]; exact hs⟩
  · have hyx : y ≠ x := fun hyx => hout (hyx ▸ hy)
    rw [hlayers y hyx] at hy
    obtain ⟨q, hq, ht⟩ := h.inTake y hy
    have hqr : q ≠ r := fun hqr => hyx (Option.some.inj (hq.symm.trans (hqr ▸ hx)))
    exact ⟨q, by rw [hother q hqr]; exact hq, by rw [hother q hqr]; exact ht⟩
  · rw [horder]
    exact h.order.1.filter _
  · rw [horder, List.mem_filter, h.order.2]
    by_cases hqr : q = r
    · rw [hqr, hself]
      simp [RecorderRec.idle]
    · rw [hother q hqr]
      simp [hqr]
  · rw [htransfer] at ht
    obtain ⟨hin, hn⟩ := h.burst q n left ht
    have hqr : q ≠ r := by
      rintro rfl
      rw [hlanded] at hin
      cases hin
    rw [hother q hqr]
    exact ⟨hin, hn⟩

/-- A take that begins in a layer which no recorder names. -/
theorem Taken.begun {s t : State} (h : Taken s) (r : Recorder) (x : Slot) (hidle : (s.recorder r).state = .idle)
    (hfree : ∀ q, (s.recorder q).slot ≠ some x) (hother : ∀ q, q ≠ r → t.recorder q = s.recorder q)
    (horder : t.takes.order = s.takes.order ++ [r]) (hlayers : ∀ y, y ≠ x → t.layer y = s.layer y)
    (hbusy : (t.recorder r).state ≠ .idle) (hkept : (t.recorder r).Kept) (hslot : (t.recorder r).slot = some x)
    (hserves : (t.recorder r).Serves (t.layer x)) (htail : (t.recorder r).tail = false)
    (htransfer : t.store.transfer = s.store.transfer)
    (hbase : (t.recorder r).OfBase → ∀ q, ¬(s.recorder q).OfBase) : Taken t := by
  have hnot : r ∉ s.takes.order := fun hr => (h.order.2 r).mp hr hidle
  have hbases : ∀ q, q ≠ r → (t.recorder q).OfBase → (s.recorder q).OfBase := fun q hq => by
    rw [hother q hq]
    exact id
  refine ⟨fun q hq => ?_, fun q hq => ?_, fun p q y hp hq => ?_, fun y hy => ?_, ⟨?_, fun q => ?_⟩, fun q n left ht => ?_,
    fun p q hp hq => ?_⟩
  · have hqr : q ≠ r := fun hqr => hbusy (hqr ▸ hq)
    rw [hother q hqr] at hq ⊢
    exact h.idle q hq
  · by_cases hqr : q = r
    · rw [hqr]
      exact ⟨hkept, x, hslot, hserves⟩
    · rw [hother q hqr] at hq ⊢
      obtain ⟨hk, y, hy, hs⟩ := h.take q hq
      have hyx : y ≠ x := fun hyx => hfree q (hyx ▸ hy)
      exact ⟨hk, y, hy, by rw [hlayers y hyx]; exact hs⟩
  · by_cases hpr : p = r
    · by_cases hqr : q = r
      · rw [hpr, hqr]
      · rw [hpr, hslot] at hp
        rw [hother q hqr] at hq
        exact absurd (Option.some.inj hp ▸ hq) (hfree q)
    · rw [hother p hpr] at hp
      by_cases hqr : q = r
      · rw [hqr, hslot] at hq
        exact absurd (Option.some.inj hq ▸ hp) (hfree p)
      · rw [hother q hqr] at hq
        exact h.named p q y hp hq
  · by_cases hyx : y = x
    · rw [hyx]
      exact ⟨r, hslot, htail⟩
    · rw [hlayers y hyx] at hy
      obtain ⟨q, hq, ht⟩ := h.inTake y hy
      have hqr : q ≠ r := by
        rintro rfl
        rw [h.idle q hidle] at hq
        cases hq
      exact ⟨q, by rw [hother q hqr]; exact hq, by rw [hother q hqr]; exact ht⟩
  · rw [horder]
    exact List.nodup_append'.mpr ⟨h.order.1, List.nodup_singleton r, fun q hq hqr => hnot (List.mem_singleton.mp hqr ▸ hq)⟩
  · rw [horder, List.mem_append, List.mem_singleton, h.order.2]
    by_cases hqr : q = r
    · rw [hqr]
      exact ⟨fun _ => hbusy, fun _ => .inr rfl⟩
    · rw [hother q hqr]
      simp [hqr]
  · rw [htransfer] at ht
    obtain ⟨hin, hn⟩ := h.burst q n left ht
    have hqr : q ≠ r := by
      rintro rfl
      rw [h.idle q hidle] at hin
      cases hin
    rw [hother q hqr]
    exact ⟨hin, hn⟩
  · by_cases hpr : p = r
    · by_cases hqr : q = r
      · rw [hpr, hqr]
      · exact absurd (hbases q hqr hq) (hbase (hpr ▸ hp) q)
    · by_cases hqr : q = r
      · exact absurd (hbases p hpr hp) (hbase (hqr ▸ hq) p)
      · exact h.oneBase p q (hbases p hpr hp) (hbases q hqr hq)

/-! ## One layer -/

/-- One layer in another state, with its place in the lists. -/
theorem Listed.setLayer {s t : State} (h : Listed s) (x : Slot) (hlayers : ∀ y, y ≠ x → (t.layer y).state = (s.layer y).state)
    (hstack : t.table.stack.Nodup ∧ ∀ y, y ∈ t.table.stack ↔ y = x ∧ (t.layer x).state = .active ∨ y ≠ x ∧ y ∈ s.table.stack)
    (hredo : t.table.redo.Nodup ∧ ∀ y, y ∈ t.table.redo ↔ y = x ∧ (t.layer x).state = .parked ∨ y ≠ x ∧ y ∈ s.table.redo) :
    Listed t := by
  constructor
  · refine ⟨hstack.1, fun y => ?_⟩
    rw [hstack.2]
    by_cases hyx : y = x
    · simp [hyx]
    · rw [hlayers y hyx, ← h.stack.2]
      simp [hyx]
  · refine ⟨hredo.1, fun y => ?_⟩
    rw [hredo.2]
    by_cases hyx : y = x
    · simp [hyx]
    · rw [hlayers y hyx, ← h.redo.2]
      simp [hyx]

/-- Pages that have left the pool for a layer. -/
theorem Paged.moved {s t : State} (h : Paged s) (x : Slot) (more : List Nat)
    (hpool : s.store.pool = more ++ t.store.pool) (hpages : t.store.pages = s.store.pages)
    (hself : pagesOf (t.layer x).extents = pagesOf (s.layer x).extents ++ more)
    (hother : ∀ y, y ≠ x → pagesOf (t.layer y).extents = pagesOf (s.layer y).extents) : Paged t := by
  have hsorted := h.sorted
  rw [hpool] at hsorted
  obtain ⟨hmore, hrest, hless⟩ := List.pairwise_append.mp hsorted
  have hmem : ∀ y page, page ∈ pagesOf (t.layer y).extents ↔
      page ∈ pagesOf (s.layer y).extents ∨ (y = x ∧ page ∈ more) := fun y page => by
    by_cases hyx : y = x
    · rw [hyx, hself, List.mem_append]
      simp
    · rw [hother y hyx]
      simp [hyx]
  have hin : ∀ page ∈ more, page ∈ s.store.pool := fun page hp => hpool ▸ List.mem_append_left _ hp
  refine ⟨hrest, fun y => ?_, fun y z page hy hz => ?_, fun y page hy hp => ?_, fun page => ?_⟩
  · by_cases hyx : y = x
    · rw [hyx, hself]
      exact List.nodup_append'.mpr ⟨h.once x, hmore.imp ne_of_lt, fun page hx hp => h.outside x page hx (hin page hp)⟩
    · rw [hother y hyx]
      exact h.once y
  · rcases (hmem y page).mp hy with hy | ⟨hyx, hy⟩
    · rcases (hmem z page).mp hz with hz | ⟨-, hz⟩
      · exact h.apart y z page hy hz
      · exact absurd (hin page hz) (h.outside y page hy)
    · rcases (hmem z page).mp hz with hz | ⟨hzx, -⟩
      · exact absurd (hin page hy) (h.outside z page hz)
      · rw [hyx, hzx]
  · rcases (hmem y page).mp hy with hy | ⟨-, hy⟩
    · exact h.outside y page hy (hpool ▸ List.mem_append_right _ hp)
    · exact absurd (hless page hy page hp) (lt_irrefl page)
  · rw [hpages, h.all, hpool, List.mem_append]
    simp only [hmem]
    constructor
    · rintro ((hp | hp) | ⟨y, hy⟩)
      · exact .inr ⟨x, .inr ⟨rfl, hp⟩⟩
      · exact .inl hp
      · exact .inr ⟨y, .inl hy⟩
    · rintro (hp | ⟨y, hy | ⟨-, hp⟩⟩)
      · exact .inl (.inr hp)
      · exact .inr ⟨y, hy⟩
      · exact .inl (.inl hp)

end Sys2Proof.Machine
end

section
/-! SUPPORT. The song in agreement through refills, the end of PRIMING and the port. -/

namespace Sys2Proof.Machine

/-! ## Refills and the end of PRIMING -/

theorem Agreed.primingCheck {s : State} (h : Agreed s) : Agreed (primingCheck s) := by
  rcases primingCheck_cases s with he | ⟨hp, he⟩
  · rw [he]
    exact h
  · rw [he]
    exact h.beside (.inr ⟨hp, rfl⟩) rfl rfl rfl rfl (fun _ _ left ht => ⟨left, ht⟩) (.refl _)

/-- Buffers are no matter of the song. -/
theorem Agreed.setBuffer {s : State} (h : Agreed s) (x : Slot) (b : Option Stream) : Agreed (s.setBuffer x b) :=
  h.beside (.inl rfl) rfl rfl rfl rfl (fun _ _ left ht => ⟨left, ht⟩) (.refl _)

theorem Agreed.landEntries {s : State} (h : Agreed s) (x : Slot) (entries : List Entry) : Agreed (landEntries x entries s) := by
  obtain ⟨b, he | ⟨hp, he⟩⟩ := landEntries_cases x entries s
  · rw [he]
    exact h.setBuffer x b
  · rw [he]
    exact (h.setBuffer x b).beside (.inr ⟨hp, rfl⟩) rfl rfl rfl rfl (fun _ _ left ht => ⟨left, ht⟩) (.refl _)

theorem Agreed.placeSilent {s : State} (h : Agreed s) (x : Slot) : Agreed (placeSilent s x) := by
  unfold Machine.placeSilent
  split
  · exact h.landEntries x _
  · exact h

theorem Agreed.raiseRefill {s : State} (h : Agreed s) (x : Slot) : Agreed (raiseRefill x s) := (h.placeSilent x).placeSilent x

theorem Agreed.placeAll {s : State} (h : Agreed s) : Agreed (placeAll s) :=
  KeptByEvents.foldl (P := Agreed) (fun _ x hs => hs.raiseRefill x) _ _ h

/-! ## The port -/

/-- A job record that is IDLE has no burst in flight. -/
theorem Job.like_inFlight (j : Job) (b : Bool) (h : j = Job.idle → b = false) : Job.Like { j with inFlight := b } j := by
  refine ⟨rfl, rfl, rfl, fun hj => ?_⟩
  rw [h hj, hj]
  rfl

theorem recorder_like_setRecorder (s : State) (r q : Recorder) (p : RecorderRec) (hp : p.Like (s.recorder r)) :
    ((s.setRecorder r p).recorder q).Like (s.recorder q) := by
  rw [State.setRecorder_recorder]
  split
  · next hq => rw [hq]; exact hp
  · exact .refl _

theorem layer_like_setLayer (s : State) (x y : Slot) (l : LayerRec) (hl : l.Like (s.layer x)) :
    ((s.setLayer x l).layer y).Like (s.layer y) := by
  rw [State.setLayer_layer]
  split
  · next hy => rw [hy]; exact hl
  · exact .refl _

theorem Agreed.releasePort {s : State} (h : Agreed s) : Agreed (releasePort s) := by
  cases hx : s.store.transfer with
  | none =>
    unfold Machine.releasePort
    rw [hx]
    exact h
  | some y =>
    rw [releasePort_some s y hx]
    obtain ⟨kind, left⟩ := y
    cases kind with
    | drain r n =>
      exact h.congr (.inl rfl) rfl rfl rfl rfl rfl (fun _ => .refl _)
        (fun q => recorder_like_setRecorder _ r q _ (RecorderRec.like_inFlight _ false fun _ => rfl)) nofun (.refl _)
    | refill x es => exact h.beside (.inl rfl) rfl rfl rfl rfl nofun (.refl _)
    | bounceRead => exact h.beside (.inl rfl) rfl rfl rfl rfl nofun (Job.like_inFlight _ false fun _ => rfl)
    | bounceWrite => exact h.beside (.inl rfl) rfl rfl rfl rfl nofun (Job.like_inFlight _ false fun _ => rfl)

theorem Agreed.endTransferIf {s : State} (h : Agreed s) (mine : TransferKind → Bool) : Agreed (endTransferIf mine s) := by
  unfold Machine.endTransferIf
  split
  · exact h
  · split
    · exact h.releasePort
    · exact h

theorem mem_of_leastSlack (s : State) (qs : List PortRequest) : ∀ q, leastSlack s qs = some q → q ∈ qs := by
  induction qs with
  | nil => exact fun _ hq => by cases hq
  | cons y rest ih =>
    intro q hq
    unfold leastSlack at hq
    split at hq
    · obtain rfl := Option.some.inj hq
      exact List.mem_cons_self
    · next z hz =>
      split at hq
      · obtain rfl := Option.some.inj hq
        exact List.mem_cons_of_mem _ (ih _ hz)
      · obtain rfl := Option.some.inj hq
        exact List.mem_cons_self

/-- A request chosen is one that is raised. -/
theorem chosenRequest_cases (s : State) (q : PortRequest) (h : chosenRequest s = some q) :
    q ∈ realTimeRequests s ∨ q = .bounce ∧ bouncePending s.job = true := by
  unfold chosenRequest at h
  split at h
  · next z hz =>
    obtain rfl := Option.some.inj h
    exact .inl (mem_of_leastSlack s _ _ hz)
  · split at h
    · next hb => exact .inr ⟨(Option.some.inj h).symm, hb⟩
    · cases h

theorem drainPending_of_chosen (s : State) (r : Recorder) (h : chosenRequest s = some (.drain r)) :
    drainPending (s.recorder r) = true := by
  rcases chosenRequest_cases s _ h with hmem | ⟨he, -⟩
  · simp only [realTimeRequests, List.mem_append, List.mem_map, List.mem_filter] at hmem
    rcases hmem with ⟨q, ⟨-, hq⟩, he⟩ | ⟨x, -, he⟩
    · obtain rfl : q = r := by injection he
      exact hq
    · cases he
  · cases he

theorem bouncePending_of_chosen (s : State) (h : chosenRequest s = some .bounce) : bouncePending s.job = true := by
  rcases chosenRequest_cases s _ h with hmem | ⟨-, hb⟩
  · simp only [realTimeRequests, List.mem_append, List.mem_map, List.mem_filter] at hmem
    rcases hmem with ⟨q, -, he⟩ | ⟨x, -, he⟩ <;> cases he
  · exact hb

theorem Agreed.grant {s : State} (h : Agreed s) (q : PortRequest) (hq : chosenRequest s = some q) : Agreed (grant q s) := by
  cases q with
  | drain r =>
    have hpending := drainPending_of_chosen s r hq
    refine h.congr (.inl rfl) rfl rfl rfl rfl rfl (fun _ => .refl _)
      (fun q => recorder_like_setRecorder s r q _ (RecorderRec.like_inFlight _ true fun hidle => ?_)) (fun p n left ht => ?_) (.refl _)
    · rw [show s.recorder r = RecorderRec.idle from hidle] at hpending
      cases hpending
    · have hkind : TransferKind.drain r (burstLength (s.recorder r)) = .drain p n := congrArg Transfer.kind (Option.some.inj ht)
      injection hkind with hr hn
      subst hr hn
      refine ⟨congrArg RecorderRec.inFlight (State.setRecorder_recorder s r r _ |>.trans (if_pos rfl)), ?_⟩
      unfold burstLength
      omega
  | refill x =>
    exact h.beside (.inl rfl) rfl rfl rfl rfl (fun r n left ht => nomatch congrArg Transfer.kind (Option.some.inj ht)) (.refl _)
  | bounce =>
    have hpending := bouncePending_of_chosen s hq
    refine h.beside (.inl rfl) rfl rfl rfl rfl (fun r n left ht => ?_) (Job.like_inFlight _ true fun hidle => ?_)
    · have hkind : (transferOf s .bounce).kind ≠ .drain r n := by
        unfold transferOf
        dsimp only
        split
        · nofun
        · split <;> nofun
      exact absurd (congrArg Transfer.kind (Option.some.inj ht)) hkind
    · rw [show s.job = Job.idle from hidle] at hpending
      cases hpending

theorem Agreed.decidePort {s : State} (h : Agreed s) : Agreed (decidePort s) := by
  have hp := h.placeAll
  unfold Machine.decidePort arbitrate
  generalize Machine.placeAll s = u at hp ⊢
  split
  · split
    · exact hp
    · next q hq =>
      unfold grantOrStall
      split
      · exact hp.grant q hq
      · exact hp.beside (.inl rfl) rfl rfl rfl rfl (fun _ _ left ht => ⟨left, ht⟩) (.refl _)
  · exact hp

theorem Agreed.beginWindow {s : State} (h : Agreed s) : Agreed (beginWindow s) :=
  h.beside (.inl rfl) rfl rfl rfl rfl (fun _ _ left ht => ⟨left, ht⟩) (.refl _)

theorem Agreed.tickPort {s : State} (h : Agreed s) : Agreed (tickPort s) := by
  refine h.beside (.inl rfl) rfl rfl rfl rfl (fun r n left ht => ?_) (.refl _)
  obtain ⟨y, hy, he⟩ := Option.map_eq_some_iff.mp ht
  have hkind : y.kind = .drain r n := congrArg Transfer.kind he
  exact ⟨y.left, by rw [hy, ← hkind]⟩

end Sys2Proof.Machine
end

section
/-! SUPPORT. The song in agreement through the ends of takes and the sample path. -/

namespace Sys2Proof.Machine

/-! ## Layers that leave a take or a list -/

theorem Parts.slot_of_taken {s : State} (h : Parts s) {r : Recorder} {x : Slot} (hx : (s.recorder r).slot = some x) :
    (s.recorder r).state ≠ .idle ∧ (s.recorder r).Kept ∧ (s.recorder r).Serves (s.layer x) := by
  have hr : (s.recorder r).state ≠ .idle := fun hi => by
    rw [h.taken.idle r hi] at hx
    cases hx
  obtain ⟨hk, y, hy, hs⟩ := h.taken.take r hr
  obtain rfl := Option.some.inj (hy.symm.trans hx)
  exact ⟨hr, hk, hs⟩

theorem RecorderRec.Serves.taken {q : RecorderRec} {l : LayerRec} (h : q.Serves l) (ht : q.tail = false) : l.state.taken := by
  obtain ⟨-, hs⟩ := h
  rw [if_neg (by rw [ht]; nofun)] at hs
  split at hs
  · exact .inr hs
  · exact .inl hs

/-- A recorder in RECORDING is in no tail drain. -/
theorem Parts.tail_of_recording {s : State} (h : Parts s) {r : Recorder} (hr : (s.recorder r).state = .recording) :
    (s.recorder r).tail = false := by
  obtain ⟨-, x, -, -, hs⟩ := h.taken.take r (by rw [hr]; nofun)
  by_contra ht
  rw [if_pos (by simpa using ht), hr] at hs
  cases hs.1

/-- A recorder whose layer is in a take is in no tail drain. -/
theorem Parts.tail_of_taken {s : State} (h : Parts s) {r : Recorder} {x : Slot} (hx : (s.recorder r).slot = some x)
    (hl : (s.layer x).state.taken) : (s.recorder r).tail = false := by
  obtain ⟨-, -, -, hs⟩ := h.slot_of_taken hx
  by_contra ht
  rw [if_pos (by simpa using ht)] at hs
  rcases hs.2.2 with ha | ha <;> rw [ha] at hl <;> exact hl.elim nofun nofun

/-- No recorder names a FREE or a BUILDING layer. -/
theorem Parts.not_named {s : State} (h : Parts s) {x : Slot} (hx : (s.layer x).state = .free ∨ (s.layer x).state = .building)
    (q : Recorder) : (s.recorder q).slot ≠ some x := fun hq => by
  obtain ⟨-, -, hs⟩ := h.slot_of_taken hq
  by_cases ht : (s.recorder q).tail = true
  · have hfits := hs.2
    rw [if_pos ht] at hfits
    rcases hfits.2.2 with ha | ha <;> rw [ha] at hx <;> exact hx.elim nofun nofun
  · rcases hs.taken (by simpa using ht) with ha | ha <;> rw [ha] at hx <;> exact hx.elim nofun nofun

/-- A layer in a take is no source and no result. -/
theorem Parts.not_held_of_not_active {s : State} (h : Parts s) {x : Slot} (hx : (s.layer x).state ≠ .active) :
    (s.layer x).held = false := by
  by_contra hh
  obtain ⟨hr, hmem⟩ := (h.jobbed.held x).mp (by simpa using hh)
  obtain ⟨src, hsrc, rfl⟩ := List.mem_map.mp hmem
  exact hx ((h.jobbed.runs hr).2.1 src hsrc)

theorem Agreed.not_idle {s : State} (h : Agreed s) {x : Slot} (hx : (s.layer x).state ≠ .free) : s.transport.state ≠ .idle :=
  fun hi => hx ((h.moded.idle hi).1 x)

/-- One layer with a len and pages changes its state. -/
theorem Parts.moveLayer {s t : State} (h : Parts s) (x : Slot) (hother : ∀ y, y ≠ x → t.layer y = s.layer y)
    (hsame : (t.layer x).len = (s.layer x).len ∧ (t.layer x).extents = (s.layer x).extents ∧ (t.layer x).held = (s.layer x).held)
    (hstate : (s.layer x).state ≠ .free ∧ (t.layer x).state ≠ .free)
    (hbuilding : (s.layer x).state ≠ .building ∧ (t.layer x).state ≠ .building)
    (hunheld : (s.layer x).held = false ∨ (t.layer x).state = .active)
    (hin : (t.layer x).state.taken → (s.layer x).state.taken) (hlisted : Listed t) (htaken : Taken t)
    (hpool : t.store.pool = s.store.pool) (hpages : t.store.pages = s.store.pages) (hjob : t.job.Like s.job) : Parts t := by
  obtain ⟨hlen, hextents, hheld⟩ := hsame
  refine ⟨hlisted, fun y => ?_, h.paged.congr hpool hpages fun y => ?_, htaken, h.jobbed.congr hjob (fun y => ?_) (fun y hy ha => ?_)
    fun y => ?_⟩
  · by_cases hyx : y = x
    · rw [hyx]
      obtain ⟨h16, hcount, hpos⟩ := (h.sound x).2 hstate.1
      refine ⟨fun hf => absurd hf hstate.2, fun _ => ?_⟩
      rw [hlen, hextents]
      exact ⟨h16, hcount, fun ht => hpos (hin ht)⟩
    · rw [hother y hyx]
      exact h.sound y
  · by_cases hyx : y = x
    · rw [hyx, hextents]
    · rw [hother y hyx]
  · by_cases hyx : y = x
    · rw [hyx, hheld]
    · rw [hother y hyx]
  · by_cases hyx : y = x
    · rw [hyx] at hy ⊢
      exact hunheld.resolve_left (by rw [hy]; nofun)
    · rw [hother y hyx]
      exact ha
  · by_cases hyx : y = x
    · rw [hyx]
      exact ⟨fun hb => absurd hb hbuilding.2, fun hb => absurd hb hbuilding.1⟩
    · rw [hother y hyx]

/-- A layer that is neither ACTIVE nor PARKED joins the stack. -/
theorem Listed.joined {s t : State} (h : Listed s) (x : Slot) (hother : ∀ y, y ≠ x → t.layer y = s.layer y)
    (hactive : (t.layer x).state = .active) (hstack : t.table.stack = s.table.stack ++ [x]) (hredo : t.table.redo = s.table.redo)
    (hnot : (s.layer x).state ≠ .active ∧ (s.layer x).state ≠ .parked) : Listed t := by
  have hstackNot : x ∉ s.table.stack := fun hx => hnot.1 ((h.stack.2 x).mp hx)
  have hredoNot : x ∉ s.table.redo := fun hx => hnot.2 ((h.redo.2 x).mp hx)
  refine h.setLayer x (fun y hy => by rw [hother y hy]) ⟨?_, fun y => ?_⟩ ⟨hredo ▸ h.redo.1, fun y => ?_⟩
  · rw [hstack]
    exact List.nodup_append'.mpr ⟨h.stack.1, List.nodup_singleton x, fun y hy hyx => hstackNot (List.mem_singleton.mp hyx ▸ hy)⟩
  · rw [hstack, List.mem_append, List.mem_singleton, hactive]
    by_cases hyx : y = x <;> simp [hyx]
  · rw [hredo, hactive]
    by_cases hyx : y = x <;> simp [hyx, hredoNot]

/-! ## A take that leaves no layer -/

theorem Agreed.dropTake {s : State} (h : Agreed s) (r : Recorder) (x : Slot) (reason : EndReason)
    (hx : (s.recorder r).slot = some x) (ht : (s.recorder r).tail = false) : Agreed (dropTake r x reason s) := by
  have f : SongFreed s (Machine.dropTake r x reason s) (fun y => false || y == x) fun q =>
      (false || tailRecorder
        (s.reported 31 (.takeEnd r x reason (s.layer x).len (s.layer x).lost (pageCount (s.layer x).extents))) x == some q) ||
        q == r := by
    rw [dropTake_eq, withTakeDropped_eq s r x reason hx]
    exact (((songFreed_refl s).congr (by rw [State.reported_eq]; rfl) (by rw [State.reported_eq]; rfl)
      (by rw [State.reported_eq]; rfl) (by rw [State.reported_eq]; rfl)).withLayerFreed x).resetRecorder r x hx (by simp)
  obtain ⟨-, -, hserves⟩ := h.parts.slot_of_taken hx
  have hstate := hserves.taken ht
  refine h.freed f (by simp) (fun q y hy hg => ?_) fun y hg => ?_
  · obtain rfl : y = x := by simpa using hg
    simp [h.parts.taken.named q r y hy hx]
  · obtain rfl : y = x := by simpa using hg
    exact ⟨h.parts.not_held_of_not_active (by rcases hstate with hs | hs <;> rw [hs] <;> nofun),
      by rcases hstate with hs | hs <;> rw [hs] <;> nofun⟩

/-! ## A take whose layer is handed over -/

/-- A recorder back in IDLE, its layer on top of the stack. -/
theorem Agreed.takeJoined {s : State} (h : Agreed s) (r : Recorder) (x : Slot) (hx : (s.recorder r).slot = some x)
    (ht : (s.recorder r).tail = false) (hlanded : (s.recorder r).inFlight = false) : Agreed ((resetRecorder r s).stacked x) := by
  obtain ⟨-, -, hserves⟩ := h.parts.slot_of_taken hx
  have hstate := hserves.taken ht
  have hnot : (s.layer x).state ≠ .active ∧ (s.layer x).state ≠ .parked ∧ (s.layer x).state ≠ .free ∧
      (s.layer x).state ≠ .building := by
    rcases hstate with hs | hs <;> rw [hs] <;> exact ⟨nofun, nofun, nofun, nofun⟩
  obtain ⟨hactive, hparked, hfree, hbuilding⟩ := hnot
  have hlayer : ∀ y, ((resetRecorder r s).stacked x).layer y = if y = x then { s.layer x with state := .active } else s.layer y :=
    fun y => State.stacked_layer (resetRecorder r s) x y
  have hself : ((resetRecorder r s).stacked x).layer x = { s.layer x with state := .active } := by rw [hlayer, if_pos rfl]
  have hother : ∀ y, y ≠ x → ((resetRecorder r s).stacked x).layer y = s.layer y := fun y hy => by rw [hlayer, if_neg hy]
  have hrec : ∀ q, ((resetRecorder r s).stacked x).recorder q = if q = r then RecorderRec.idle else s.recorder q := fun q =>
    resetRecorder_recorder r q s
  refine ⟨h.parts.moveLayer x hother (by rw [hself]; exact ⟨rfl, rfl, rfl⟩) ⟨hfree, by rw [hself]; nofun⟩
    ⟨hbuilding, by rw [hself]; nofun⟩ (.inr (by rw [hself])) (fun _ => hstate)
    (h.parts.listed.joined x hother (by rw [hself]) rfl rfl ⟨hactive, hparked⟩)
    (h.parts.taken.left r x hx (by rw [hrec, if_pos rfl]) (fun q hq => by rw [hrec, if_neg hq]) rfl hother
      (by rw [hself]; exact fun hin => hin.elim nofun nofun) rfl hlanded) rfl rfl (.refl _),
    h.moded.congr (.inl rfl) (fun q hq => ?_) id fun hi => absurd hi (h.not_idle hfree)⟩
  rw [hrec] at hq
  split at hq
  · exact nomatch hq.1
  · exact hq

theorem Agreed.finishTake {s : State} (h : Agreed s) (r : Recorder) (x : Slot) (hx : (s.recorder r).slot = some x)
    (ht : (s.recorder r).tail = false) (hlanded : (s.recorder r).inFlight = false) : Agreed (finishTake r x s) := by
  rw [finishTake_eq_joinStack r x s ht, joinStack_stacked, reportTakeEnd_eq_reported]
  have hreported := h.reported 31 (.takeEnd r x ((s.recorder r).endReason.getD .stopped) (s.layer x).len (s.layer x).lost
    (pageCount (s.layer x).extents))
  rw [State.reported_eq] at hreported ⊢
  exact (hreported.takeJoined r x hx ht hlanded).raiseRefill x

/-- The end of the tail drain. -/
theorem Agreed.tailEnded {s : State} (h : Agreed s) (r : Recorder) (x : Slot) (hx : (s.recorder r).slot = some x)
    (ht : (s.recorder r).tail = true) (hlanded : (s.recorder r).inFlight = false) : Agreed (resetRecorder r s) := by
  obtain ⟨-, -, -, hs⟩ := h.parts.slot_of_taken hx
  rw [if_pos ht] at hs
  have hout : ¬(s.layer x).state.taken := by
    rcases hs.2.2 with ha | ha <;> rw [ha] <;> exact fun hin => hin.elim nofun nofun
  have hrec := fun q => resetRecorder_recorder r q s
  refine ⟨⟨h.parts.listed.congr rfl rfl (fun _ => .rfl) fun _ => .rfl, h.parts.sound, h.parts.paged.congr rfl rfl fun _ => rfl,
    h.parts.taken.left r x hx (by rw [hrec, if_pos rfl]) (fun q hq => by rw [hrec, if_neg hq]) rfl (fun _ _ => rfl) hout rfl hlanded,
    h.parts.jobbed.congr (.refl _) (fun _ => rfl) (fun _ _ ha => ha) fun _ => .rfl⟩,
    h.moded.congr (.inl rfl) (fun q hq => ?_) id fun hi hb => ⟨hb.1, fun q => ?_⟩⟩
  · rw [hrec] at hq
    split at hq
    · exact nomatch hq.1
    · exact hq
  · rw [hrec]
    split
    · rfl
    · exact hb.2 q

theorem drained_iff (q : RecorderRec) :
    drained q = true ↔ q.state = .closing ∧ q.fifo = [] ∧ q.gap = 0 ∧ q.inFlight = false := by
  simp [drained, and_assoc]

theorem Agreed.drainDone {s : State} (h : Agreed s) (r : Recorder) : Agreed (drainDone r s) := by
  unfold Machine.drainDone
  split
  · next hd =>
    obtain ⟨hclosing, -, -, hlanded⟩ := (drained_iff _).mp hd
    obtain ⟨-, x, hx, -⟩ := h.parts.taken.take r (by rw [hclosing]; nofun)
    split
    · next ht => exact h.tailEnded r x hx ht hlanded
    · next ht =>
      split
      · exact h
      · rw [hx]
        exact h.finishTake r x hx (by simpa using ht) hlanded
  · exact h

/-! ## A take that goes on -/

theorem State.withTakeAt_layer (s : State) (r : Recorder) (x y : Slot) (rec : RecorderRec) (layer : LayerRec) (pool : List Nat) :
    (s.withTakeAt r x rec layer pool).layer y = if y = x then layer else s.layer y := State.setLayer_layer s x y layer

theorem State.withTakeAt_recorder (s : State) (r q : Recorder) (x : Slot) (rec : RecorderRec) (layer : LayerRec) (pool : List Nat) :
    (s.withTakeAt r x rec layer pool).recorder q = if q = r then rec else s.recorder q := State.setRecorder_recorder s r q rec

/-- Recorder and layer of a take with other counts and pages, in the take still. -/
theorem Agreed.withTakeAt {s : State} (h : Agreed s) (r : Recorder) (x : Slot) (rec : RecorderRec) (layer : LayerRec)
    (pool more : List Nat) (hx : (s.recorder r).slot = some x) (ht : (s.recorder r).tail = false) (hlayer : layer.state.taken)
    (hheld : layer.held = (s.layer x).held) (hsound : layer.Sound) (hpool : s.store.pool = more ++ pool)
    (hextents : pagesOf layer.extents = pagesOf (s.layer x).extents ++ more) (hbusy : rec.state ≠ .idle) (hkept : rec.Kept)
    (hslot : rec.slot = some x) (htail : rec.tail = false) (hserves : rec.Serves layer)
    (hflight : rec.inFlight = (s.recorder r).inFlight) (hmore : fifoOffsets (s.recorder r).fifo ≤ fifoOffsets rec.fifo)
    (hbase : rec.base = (s.recorder r).base) : Agreed (s.withTakeAt r x rec layer pool) := by
  obtain ⟨-, -, hold⟩ := h.parts.slot_of_taken hx
  have hstate := hold.taken ht
  have hl := fun y => s.withTakeAt_layer r x y rec layer pool
  have hr := fun q => s.withTakeAt_recorder r q x rec layer pool
  have hself : (s.withTakeAt r x rec layer pool).layer x = layer := by rw [hl, if_pos rfl]
  have hother : ∀ y, y ≠ x → (s.withTakeAt r x rec layer pool).layer y = s.layer y := fun y hy => by rw [hl, if_neg hy]
  have hselfRec : (s.withTakeAt r x rec layer pool).recorder r = rec := by rw [hr, if_pos rfl]
  have hotherRec : ∀ q, q ≠ r → (s.withTakeAt r x rec layer pool).recorder q = s.recorder q := fun q hq => by rw [hr, if_neg hq]
  have hiff : ∀ y z, (z = .active ∨ z = .parked ∨ z = .building) →
      (((s.withTakeAt r x rec layer pool).layer y).state = z ↔ (s.layer y).state = z) := fun y z hz => by
    by_cases hyx : y = x
    · rw [hyx, hself]
      have hne : ∀ w : LState, w.taken → w ≠ z := fun w hw hwz => by
        rw [hwz] at hw
        rcases hz with rfl | rfl | rfl <;> exact hw.elim nofun nofun
      exact ⟨fun he => absurd he (hne _ hlayer), fun he => absurd he (hne _ hstate)⟩
    · rw [hother y hyx]
  have hofBase : ∀ q, ((s.withTakeAt r x rec layer pool).recorder q).OfBase → (s.recorder q).OfBase := fun q hq => by
    by_cases hqr : q = r
    · rw [hqr, hselfRec] at hq
      rw [hqr]
      exact ⟨hbase ▸ hq.1, ht⟩
    · rwa [hotherRec q hqr] at hq
  refine ⟨⟨h.parts.listed.congr rfl rfl (fun y => hiff y _ (.inl rfl)) fun y => hiff y _ (.inr (.inl rfl)), fun y => ?_,
    h.parts.paged.moved x more hpool rfl (by rw [hself]; exact hextents) fun y hy => by rw [hother y hy],
    h.parts.taken.step r x hx hotherRec rfl hother (by rw [hselfRec]; exact hbusy) (by rw [hselfRec]; exact hkept)
      (by rw [hselfRec]; exact hslot) (by rw [hself, hselfRec]; exact hserves) (fun _ => by rw [hselfRec]; exact htail)
      (fun q n left hq => ?_) (hofBase r),
    h.parts.jobbed.congr (.refl _) (fun y => ?_) (fun y _ ha => (hiff y _ (.inl rfl)).mpr ha) fun y => hiff y _ (.inr (.inr rfl))⟩,
    h.moded.congr (.inl rfl) hofBase id fun hi => absurd hi (h.not_idle (x := x) ?_)⟩
  · by_cases hyx : y = x
    · rw [hyx, hself]
      exact hsound
    · rw [hother y hyx]
      exact h.parts.sound y
  · obtain ⟨hin, hn⟩ := h.parts.taken.burst q n left hq
    by_cases hqr : q = r
    · rw [hqr] at hin hn ⊢
      rw [hselfRec]
      exact ⟨hflight.trans hin, hn.trans hmore⟩
    · rw [hotherRec q hqr]
      exact ⟨hin, hn⟩
  · by_cases hyx : y = x
    · rw [hyx, hself, hheld]
    · rw [hother y hyx]
  · rcases hstate with hs | hs <;> rw [hs] <;> nofun

/-! ## The FIFO of a take -/

theorem fifoOffsets_append (xs ys : List FifoEntry) : fifoOffsets (xs ++ ys) = fifoOffsets xs + fifoOffsets ys := by
  induction xs with
  | nil => simp [fifoOffsets]
  | cons e rest ih => cases e <;> simp only [List.cons_append, fifoOffsets, ih] <;> omega

theorem storedCount_append (xs ys : List FifoEntry) : storedCount (xs ++ ys) = storedCount xs + storedCount ys := by
  induction xs with
  | nil => simp [storedCount]
  | cons e rest ih => cases e <;> simp [storedCount, ih, Nat.add_right_comm]

/-- Zero-fill at the back of a FIFO: `n` offsets more, no stored sample more. -/
theorem pushZeros_counts (fifo : List FifoEntry) (n : Nat) :
    fifoOffsets (pushZeros fifo n) = fifoOffsets fifo + n ∧ storedCount (pushZeros fifo n) = storedCount fifo := by
  unfold pushZeros
  split
  · next m hm =>
    obtain ⟨before, rfl⟩ := List.getLast?_eq_some_iff.mp hm
    rw [List.dropLast_concat, fifoOffsets_append, fifoOffsets_append, storedCount_append, storedCount_append]
    refine ⟨?_, rfl⟩
    simp only [fifoOffsets]
    omega
  · rw [fifoOffsets_append, storedCount_append]
    refine ⟨?_, rfl⟩
    simp only [fifoOffsets]
    omega

theorem RecorderRec.filled_counts (q : RecorderRec) :
    fifoOffsets q.filled = fifoOffsets q.fifo + q.gap ∧ storedCount q.filled = storedCount q.fifo := by
  unfold filled
  split
  · next hg => simp [hg]
  · exact pushZeros_counts q.fifo q.gap

/-- What the record of a recorder counts behind a sample period. -/
theorem RecorderRec.storing_counts (q : RecorderRec) (o : Nat) (v : Int) (h : q.Kept) :
    (q.storing o v).Kept ∧
      (q.storing o v).cursor + fifoOffsets (q.storing o v).fifo + (q.storing o v).gap =
        q.cursor + fifoOffsets q.fifo + q.gap + 1 ∧
      fifoOffsets q.fifo ≤ fifoOffsets (q.storing o v).fifo := by
  obtain ⟨hlane, hstored, hgap⟩ := h
  obtain ⟨hfilled, hfilledStored⟩ := q.filled_counts
  obtain ⟨hpushed, hpushedStored⟩ := pushZeros_counts q.fifo 65535
  unfold storing
  split
  · refine ⟨⟨hlane, ?_, Nat.zero_le _⟩, ?_, ?_⟩
    · simp only [storedCount_append, storedCount]
      omega
    · simp only [fifoOffsets_append, fifoOffsets]
      omega
    · simp only [fifoOffsets_append, fifoOffsets]
      omega
  · split
    · exact ⟨⟨hlane, by simp only [hpushedStored]; exact hstored, by simp⟩, by simp only [hpushed]; omega, by simp only [hpushed]; omega⟩
    · exact ⟨⟨hlane, hstored, by simp only; omega⟩, by simp only; omega, le_rfl⟩

theorem RecorderRec.storing_fields (q : RecorderRec) (o : Nat) (v : Int) :
    (q.storing o v).state = q.state ∧ (q.storing o v).slot = q.slot ∧ (q.storing o v).base = q.base ∧
      (q.storing o v).tail = q.tail ∧ (q.storing o v).inFlight = q.inFlight := by
  unfold storing
  split
  · exact ⟨rfl, rfl, rfl, rfl, rfl⟩
  · split <;> exact ⟨rfl, rfl, rfl, rfl, rfl⟩

/-! ## The sample path -/

theorem pageCount_eq_length (extents : List Extent) : pageCount extents = (pagesOf extents).length := by
  unfold pageCount pagesOf
  rw [List.length_flatMap]
  simp

/-- A take stores its sample: with `more` pages, one where the sample opens a page and none otherwise. -/
theorem Agreed.stored {s : State} (h : Agreed s) (r : Recorder) (x : Slot) (v : Int) (extents : List Extent) (pool more : List Nat)
    (hr : (s.recorder r).state = .recording) (hx : (s.recorder r).slot = some x) (hpool : s.store.pool = more ++ pool)
    (hextents : pagesOf extents = pagesOf (s.layer x).extents ++ more) (h16 : extents.length ≤ 16)
    (hmore : more.length = if opensPage (s.layer x).len = true then 1 else 0) :
    Agreed (s.withTakeAt r x ((s.recorder r).storing (s.layer x).len v)
      { (s.layer x).storing (s.recorder r) with extents := extents } pool) := by
  obtain ⟨-, hkept, hserves⟩ := h.parts.slot_of_taken hx
  have ht := h.parts.tail_of_recording hr
  have hlayer : (s.layer x).state = .recording := by
    obtain ⟨-, hs⟩ := hserves
    rw [if_neg (by rw [ht]; nofun), hr, if_neg (fun hc => nomatch hc.1)] at hs
    exact hs
  obtain ⟨-, hcount, hpos⟩ := (h.parts.sound x).2 (by rw [hlayer]; nofun)
  have hpos := hpos (.inl hlayer)
  obtain ⟨hkept', hsum, hfifo⟩ := (s.recorder r).storing_counts (s.layer x).len v hkept
  obtain ⟨hstate', hslot', hbase', htail', hflight'⟩ := (s.recorder r).storing_fields (s.layer x).len v
  have hpageCount : pageCount extents = pageCount (s.layer x).extents + more.length := by
    rw [pageCount_eq_length, pageCount_eq_length, hextents, List.length_append]
  have hopens := opensPage_iff (s.layer x).len
  refine h.withTakeAt r x _ _ pool more hx ht (.inl hlayer) rfl ⟨fun hf => ?_, fun _ => ⟨h16, ?_, fun _ => ?_⟩⟩ hpool hextents
    (by rw [hstate', hr]; nofun) hkept' (hslot'.trans hx) (htail'.trans ht) ⟨?_, ?_⟩ hflight' hfifo hbase'
  · exact nomatch hlayer.symm.trans hf
  · left
    show pageCount extents = ((s.layer x).len + 1 + 4095) / 4096
    rw [hpageCount, hmore]
    split
    · next ho => have := hopens.mp ho; omega
    · next ho => have := mt hopens.mpr ho; omega
  · show 0 < pageCount extents
    omega
  · rw [hsum, hserves.1]
    rfl
  · rw [if_neg (by rw [htail', ht]; nofun), hstate', hr, if_neg fun hc => nomatch hc.1]
    exact hlayer

/-- What an acquisition leaves of the pool and of the extent list. -/
theorem acquirePage_ok {s t : State} {x : Slot} (h : acquirePage x s = .ok t) :
    ∃ page pool extents, s.store.pool = page :: pool ∧ pagesOf extents = pagesOf (s.layer x).extents ++ [page] ∧
      ((s.layer x).extents.length ≤ 16 → extents.length ≤ 16) ∧ t = s.withExtents x extents pool := by
  unfold acquirePage at h
  split at h
  · cases h
  · next page pool hpool =>
    split at h
    · cases h
    · next extents happend =>
      cases h
      refine ⟨page, pool, extents, hpool, ?_, fun h16 => ?_, rfl⟩
      all_goals unfold appendPage at happend
      · split at happend
        · next hnone =>
          obtain rfl := Option.some.inj happend
          rw [List.getLast?_eq_none_iff.mp hnone]
          rfl
        · next e hlast =>
          obtain ⟨older, hold⟩ := List.getLast?_eq_some_iff.mp hlast
          split at happend
          · next hnext =>
            obtain rfl := Option.some.inj happend
            rw [hold, List.dropLast_concat]
            simp only [pagesOf, List.flatMap_append, List.flatMap_cons, List.flatMap_nil, List.append_nil, List.append_assoc]
            rw [List.range'_concat, hnext.symm]
            simp
          · split at happend
            · obtain rfl := Option.some.inj happend
              simp [pagesOf, List.flatMap_append]
            · cases happend
      · split at happend
        · obtain rfl := Option.some.inj happend
          simp
        · next e hlast =>
          obtain ⟨older, hold⟩ := List.getLast?_eq_some_iff.mp hlast
          split at happend
          · obtain rfl := Option.some.inj happend
            rw [hold] at h16 ⊢
            simpa using h16
          · split at happend
            · obtain rfl := Option.some.inj happend
              rw [List.length_append, List.length_singleton]
              omega
            · cases happend

end Sys2Proof.Machine
end

section
/-! SUPPORT. The song in agreement through the sample path and the normal end of a take. -/

namespace Sys2Proof.Machine

/-- What a recorder in no tail drain says of its layer. -/
theorem RecorderRec.serves_of_take {q : RecorderRec} (ht : q.tail = false) (l : LayerRec) :
    q.Serves l ↔ q.cursor + fifoOffsets q.fifo + q.gap = l.len ∧
      l.state = if q.state = .closing ∧ q.base = false then .closing else .recording := by
  unfold Serves
  rw [if_neg (by rw [ht]; nofun)]
  split <;> exact Iff.rfl

/-- What the record of a recorder counts when its take has run out. -/
theorem RecorderRec.spent_counts (q : RecorderRec) (reason : EndReason) (h : q.Kept) :
    (q.spent reason).Kept ∧
      (q.spent reason).cursor + fifoOffsets (q.spent reason).fifo + (q.spent reason).gap = q.cursor + fifoOffsets q.fifo + q.gap ∧
      fifoOffsets q.fifo ≤ fifoOffsets (q.spent reason).fifo := by
  obtain ⟨hlane, hstored, -⟩ := h
  obtain ⟨hfilled, hfilledStored⟩ := q.filled_counts
  refine ⟨⟨hlane, ?_, Nat.zero_le _⟩, ?_, ?_⟩
  · show storedCount q.filled ≤ 512
    omega
  · show q.cursor + fifoOffsets q.filled + 0 = _
    omega
  · show _ ≤ fifoOffsets q.filled
    omega

/-- A take that has run out waits in CLOSING, its layer in the take still. -/
theorem Agreed.spent {s : State} (h : Agreed s) (r : Recorder) (x : Slot) (reason : EndReason) (state : LState)
    (hx : (s.recorder r).slot = some x) (ht : (s.recorder r).tail = false)
    (hstate : state = if (s.recorder r).base = true then (s.layer x).state else .closing) :
    Agreed (s.withTakeAt r x ((s.recorder r).spent reason)
      { s.layer x with state := state, lost := (s.layer x).lostIn (s.recorder r) } s.store.pool) := by
  obtain ⟨-, hkept, hserves⟩ := h.parts.slot_of_taken hx
  obtain ⟨hkept', hsum, hfifo⟩ := (s.recorder r).spent_counts reason hkept
  have hold := hserves.taken ht
  have hnew : state.taken := by
    rw [hstate]
    split
    · exact hold
    · exact .inr rfl
  obtain ⟨h16, hcount, hpos⟩ := (h.parts.sound x).2 (by rcases hold with ho | ho <;> rw [ho] <;> nofun)
  refine h.withTakeAt r x _ _ s.store.pool [] hx ht hnew rfl ⟨fun hf => ?_, fun _ => ⟨h16, hcount, fun _ => hpos hold⟩⟩ rfl
    (List.append_nil _).symm nofun hkept' hx ht
    ((RecorderRec.serves_of_take (q := (s.recorder r).spent reason) ht _).mpr ⟨hsum.trans hserves.1, ?_⟩) rfl hfifo rfl
  · rw [show state = .free from hf] at hnew
    exact hnew.elim nofun nofun
  · show state = if RState.closing = .closing ∧ (s.recorder r).base = false then .closing else .recording
    have hfits := ((RecorderRec.serves_of_take ht _).mp hserves).2
    cases hb : (s.recorder r).base <;> simp [hb, hfits] at hstate ⊢ <;> exact hstate

theorem Agreed.exhaustRecorder {s : State} (h : Agreed s) (r : Recorder) (x : Slot) (reason : EndReason)
    (hx : (s.recorder r).slot = some x) (ht : (s.recorder r).tail = false) (hb : (s.recorder r).base = true) :
    Agreed (exhaustRecorder r x reason s) := by
  rw [exhaustRecorder_eq]
  exact h.spent r x reason (s.layer x).state hx ht (by rw [if_pos hb])

/-- The normal end of a take that is not the base take and in no tail drain. -/
theorem Agreed.endTake {s : State} (h : Agreed s) (reason : EndReason) (r : Recorder) (hplain : s.plain r) :
    Agreed (endTake reason s r) := by
  obtain ⟨ht, hb⟩ := hplain
  unfold Machine.endTake
  cases hx : (s.recorder r).slot with
  | none => exact h
  | some x =>
    dsimp only
    split
    · exact h.dropTake r x .empty hx ht
    · rw [closing_eq]
      have hclosing : Agreed (s.withTakeClosing r x reason) := h.spent r x reason .closing hx ht (by rw [hb]; rfl)
      exact hclosing.drainDone r

theorem Agreed.endTakes (reason : EndReason) (rs : List Recorder) : ∀ {s : State}, Agreed s → (∀ q ∈ rs, s.plain q) →
    Agreed (rs.foldl (Machine.endTake reason) s) := by
  induction rs with
  | nil => exact fun h _ => h
  | cons r rest ih =>
    intro s h hp
    have hr := hp r List.mem_cons_self
    refine ih (h.endTake reason r hr) fun q hq => ?_
    rw [endTake_eq reason s r hr.1 hr.2]
    exact plain_withTakeEnded s reason r q (hp q (List.mem_cons_of_mem _ hq))

/-- A recorder that may be stopped is in no tail drain and not the base recorder. -/
theorem Agreed.plain_of_stoppable {s : State} (h : Agreed s) (q : Recorder) (hq : stoppable (s.recorder q) = true) : s.plain q := by
  obtain ⟨hrec, hbase⟩ := (stoppable_iff _).mp hq
  exact ⟨h.parts.tail_of_recording hrec, hbase⟩

theorem Agreed.takeFull {s : State} (h : Agreed s) (r : Recorder) (hd : takeFullDue s r = true) : Agreed (Machine.endTake .full s r) := by
  unfold takeFullDue at hd
  exact h.endTake .full r (h.plain_of_stoppable r (Bool.and_eq_true_iff.mp hd).1)

theorem Agreed.recordSample {s : State} (h : Agreed s) (value : Lane → Int) (r : Recorder) : Agreed (Machine.recordSample value s r) := by
  by_cases hr : (s.recorder r).state = .recording
  · obtain ⟨⟨hlane, -⟩, x, hx, -⟩ := h.parts.taken.take r (by rw [hr]; nofun)
    obtain ⟨l, hl⟩ := Option.ne_none_iff_exists'.mp hlane
    have ht := h.parts.tail_of_recording hr
    have h16 : (s.layer x).extents.length ≤ 16 := by
      refine ((h.parts.sound x).2 fun hf => ?_).1
      obtain ⟨-, -, hs⟩ := h.parts.slot_of_taken hx
      exact (hs.taken ht).elim (by rw [hf]; nofun) (by rw [hf]; nofun)
    cases ho : opensPage (s.layer x).len with
    | false =>
      rw [recordSample_of_not_opens value s r l x hr hl hx ho]
      exact h.stored r x _ _ s.store.pool [] hr hx rfl (List.append_nil _).symm h16 (by simp [ho])
    | true =>
      cases ha : acquirePage x s with
      | ok u =>
        obtain ⟨page, pool, extents, hpool, hextents, hroom, rfl⟩ := acquirePage_ok ha
        rw [recordSample_of_acquired value s r l x hr hl hx ho extents pool ha]
        exact h.stored r x _ extents pool [page] hr hx hpool hextents (hroom h16) (by simp [ho])
      | error e =>
        unfold Machine.recordSample
        rw [hr, hl, hx]
        dsimp only
        rw [if_pos ho, ha]
        dsimp only
        split
        · next hb => exact (h.exhaustRecorder r x e.reason hx ht hb).setTransport _ rfl
        · next hb => exact h.endTake e.reason r ⟨ht, by simpa using hb⟩
  · have he : Machine.recordSample value s r = s := by
      unfold Machine.recordSample
      split
      · next hrec _ _ => exact absurd hrec hr
      · rfl
    rw [he]
    exact h

theorem Agreed.recordAll {s : State} (h : Agreed s) (value : Lane → Int) : Agreed (recordAll value s) :=
  KeptByEvents.foldl (P := Agreed) (fun _ r hu => Agreed.recordSample hu value r) _ _ (h.openOrder _)

end Sys2Proof.Machine
end

section
/-! SUPPORT. The song in agreement through the completions of the port: drains, refills, the bounce. -/

namespace Sys2Proof.Machine

/-! ## A burst -/

theorem fifoDrop_counts (n : Nat) (fifo : List FifoEntry) (h : n ≤ fifoOffsets fifo) :
    n + fifoOffsets (fifoDrop n fifo) = fifoOffsets fifo ∧ storedCount (fifoDrop n fifo) ≤ storedCount fifo := by
  induction fifo generalizing n with
  | nil =>
    rw [fifoDrop]
    exact ⟨by simp only [fifoOffsets] at h ⊢; omega, le_rfl⟩
  | cons e rest ih =>
    cases n with
    | zero => rw [fifoDrop] <;> simp
    | succ n =>
      cases e with
      | sample v =>
        rw [fifoOffsets] at h
        obtain ⟨hcount, hstored⟩ := ih n (by omega)
        rw [fifoDrop, fifoOffsets, storedCount]
        omega
      | zeros m =>
        rw [fifoOffsets] at h
        rw [fifoDrop, fifoOffsets, storedCount]
        split
        · obtain ⟨hcount, hstored⟩ := ih (n + 1 - m) (by omega)
          omega
        · rw [fifoOffsets, storedCount]
          omega

theorem Agreed.setMem {s : State} (h : Agreed s) (m : List Host.Cell) : Agreed (s.setMem m) := h.same rfl rfl rfl rfl rfl

/-- A burst of `n` offsets has left the FIFO of its recorder. -/
theorem Agreed.burst {s : State} (h : Agreed s) (r : Recorder) (n left : Nat) (ht : s.store.transfer = some ⟨.drain r n, left⟩) :
    Agreed (Machine.releasePort
      (s.setRecorder r
        { s.recorder r with fifo := fifoDrop n (s.recorder r).fifo, cursor := (s.recorder r).cursor + n })) := by
  obtain ⟨hin, hn⟩ := h.parts.taken.burst r n left ht
  obtain ⟨⟨hlane, hstored, hgap⟩, x, hx, hsum, hfits⟩ := h.parts.taken.take r fun hi => by
    rw [h.parts.taken.idle r hi] at hin
    cases hin
  obtain ⟨hcount, hstored'⟩ := fifoDrop_counts n (s.recorder r).fifo hn
  obtain ⟨hbusy, -⟩ := h.parts.slot_of_taken hx
  rw [releasePort_some _ ⟨.drain r n, left⟩ (by exact ht)]
  generalize ht' : clearFlight _ _ = t
  have hrec : ∀ q, t.recorder q = if q = r then
      { s.recorder r with
        fifo := fifoDrop n (s.recorder r).fifo, cursor := (s.recorder r).cursor + n, inFlight := false } else s.recorder q := by
    intro q
    rw [← ht']
    simp only [clearFlight, State.setRecorder_recorder, State.setStore_recorder]
    split <;> rfl
  have hself := (hrec r).trans (if_pos rfl)
  have hlayer : ∀ y, t.layer y = s.layer y := fun y => by rw [← ht']; rfl
  have hbases : ∀ q, (t.recorder q).OfBase → (s.recorder q).OfBase := fun q hq => by
    rw [hrec] at hq
    split at hq
    · next hqr => rw [hqr]; exact hq
    · exact hq
  refine ⟨⟨h.parts.listed.congr (by rw [← ht']; rfl) (by rw [← ht']; rfl) (fun y => by rw [hlayer]) fun y => by rw [hlayer],
    fun y => by rw [hlayer]; exact h.parts.sound y,
    h.parts.paged.congr (by rw [← ht']; rfl) (by rw [← ht']; rfl) fun y => by rw [hlayer],
    h.parts.taken.step r x hx (fun q hq => by rw [hrec, if_neg hq]) (by rw [← ht']; rfl) (fun y _ => hlayer y)
      (by rw [hself]; exact hbusy) (by rw [hself]; exact ⟨hlane, hstored'.trans hstored, hgap⟩) (by rw [hself]; exact hx) ?_
      (fun hl => ?_) (fun q m left' hq => ?_) (hbases r),
    h.parts.jobbed.congr (by rw [← ht']; exact .refl _) (fun y => by rw [hlayer]) (fun y _ ha => by rw [hlayer]; exact ha)
      fun y => by rw [hlayer]⟩,
    h.moded.congr (.inl (by rw [← ht']; rfl)) hbases (by rw [← ht']; exact id) fun _ hb => ⟨fun y => ?_, fun q => ?_⟩⟩
  · rw [hself, hlayer]
    refine ⟨?_, hfits⟩
    simp only
    omega
  · rw [hlayer] at hl
    rw [hself]
    exact h.parts.tail_of_taken hx hl
  · rw [← ht'] at hq
    cases hq
  · rw [hlayer]
    exact hb.1 y
  · rw [hrec]
    split
    · next hqr => exact absurd (hb.2 r) hbusy
    · exact hb.2 q

theorem Agreed.completeDrain {s : State} (h : Agreed s) (r : Recorder) (n left : Nat)
    (ht : s.store.transfer = some ⟨.drain r n, left⟩) : Agreed (completeDrain r n s) := by
  unfold Machine.completeDrain
  dsimp only
  split
  · exact (h.burst r n left ht).drainDone r
  · next a _ =>
    have hwritten := h.setMem (writeSamples s.mem a (fifoTake n (s.recorder r).fifo))
    exact (hwritten.burst r n left ht).drainDone r

theorem Agreed.completeRefill {s : State} (h : Agreed s) (x : Slot) (entries : List Entry) : Agreed (completeRefill x entries s) :=
  (h.releasePort.landEntries x entries).raiseRefill x

/-! ## The chunks of a bounce -/

/-- A running job with other counts, sums and pieces. -/
theorem Agreed.setJob {s : State} (h : Agreed s) (j : Job) (hj : j.Like s.job) : Agreed (s.setJob j) :=
  h.beside (.inl rfl) rfl rfl rfl rfl (fun _ _ left ht => ⟨left, ht⟩) hj

theorem Agreed.setChunk {s : State} (h : Agreed s) (ch : Chunk) (hrun : s.job ≠ Job.idle) : Agreed (setChunk ch s) :=
  h.setJob _ ⟨rfl, rfl, rfl, fun hi => absurd hi hrun⟩

theorem Agreed.completeRead {s : State} (h : Agreed s) : Agreed (completeRead s) := by
  unfold Machine.completeRead
  dsimp only
  have hreleased := h.releasePort
  generalize Machine.releasePort s = u at hreleased ⊢
  split
  · exact hreleased
  · next ch hch =>
    have hrun : u.job ≠ Job.idle := fun hi => by
      rw [hi] at hch
      cases hch
    unfold addPiece
    split
    · dsimp only
      split <;> exact hreleased.setChunk _ hrun
    · exact hreleased

/-! ## Layers freed that no job holds -/

/-- With every layer to be freed in no take, the recorders that serve one are in the tail drain and go to IDLE with it. -/
theorem SongFreed.freeLayers_tails {s : State} (h : Taken s) (sls : List Slot) :
    ∀ {u : State} {gone : Slot → Bool} {idle : Recorder → Bool}, SongFreed s u gone idle →
      (∀ q x, (s.recorder q).slot = some x → gone x = true → idle q = true) →
      (∀ q x, (s.recorder q).slot = some x → x ∈ sls → (s.recorder q).tail = true) →
      ∃ idle', SongFreed s (Machine.freeLayers sls u) (fun x => gone x || sls.contains x) idle' ∧
        ∀ q x, (s.recorder q).slot = some x → (gone x || sls.contains x) = true → idle' q = true := by
  induction sls with
  | nil =>
    intro u gone idle f hidle _
    exact ⟨idle, f.of_gone fun x => by simp, fun q x hx hg => hidle q x hx (by simpa using hg)⟩
  | cons y rest ih =>
    intro u gone idle f hidle htail
    have hstep : ∀ q x, (s.recorder q).slot = some x → (gone x || x == y) = true →
        (idle q || tailRecorder u y == some q) = true := fun q x hx hg => by
      cases hi : idle q with
      | true => rfl
      | false =>
        rw [Bool.false_or, beq_iff_eq]
        have hxy : x = y := by
          by_contra hne
          rw [hidle q x hx (by simpa [hne] using hg)] at hi
          cases hi
        rw [hxy] at hx
        obtain ⟨b, hb⟩ := f.kept q hi
        have hfound : (tailRecorder u y).isSome = true := by
          unfold tailRecorder
          rw [List.find?_isSome]
          exact ⟨q, mem_recorderNumbers q, by rw [hb]; simp [htail q y hx List.mem_cons_self, hx]⟩
        obtain ⟨p, hp⟩ := Option.isSome_iff_exists.mp hfound
        rw [hp, h.named p q y (f.tail_slot y p hp) hx]
    obtain ⟨idle', f', hidle'⟩ := ih (f.withLayerFreed y) hstep fun q x hx hmem => htail q x hx (List.mem_cons_of_mem _ hmem)
    refine ⟨idle', ?_, fun q x hx hg => hidle' q x hx (by simpa [Bool.or_assoc] using hg)⟩
    rw [freeLayers_eq] at f' ⊢
    exact f'.of_gone fun x => by rw [List.contains_cons, Bool.or_assoc]

/-- Layers that are ACTIVE or PARKED leave the song with the tail drains that write them. -/
theorem Parts.freeLayers_songFreed {s : State} (h : Parts s) (sls : List Slot)
    (hsls : ∀ x ∈ sls, ¬(s.layer x).state.taken) :
    ∃ idle, SongFreed s (Machine.freeLayers sls s) (fun x => sls.contains x) idle ∧
      ∀ q x, (s.recorder q).slot = some x → sls.contains x = true → idle q = true := by
  obtain ⟨idle, f, hidle⟩ := SongFreed.freeLayers_tails h.taken sls (songFreed_refl s) nofun fun q x hx hmem => by
    by_contra ht
    obtain ⟨-, -, hs⟩ := h.slot_of_taken hx
    exact hsls x hmem (hs.taken (by simpa using ht))
  exact ⟨idle, f.of_gone fun x => by simp, fun q x hx hg => hidle q x hx (by simpa using hg)⟩

theorem Agreed.freeLayers {s : State} (h : Agreed s) (sls : List Slot)
    (hsls : ∀ x ∈ sls, ¬(s.layer x).state.taken ∧ (s.layer x).held = false ∧ (s.layer x).state ≠ .building) :
    Agreed (Machine.freeLayers sls s) := by
  obtain ⟨idle, f, hidle⟩ := h.parts.freeLayers_songFreed sls fun x hx => (hsls x hx).1
  exact h.freed f (congrArg Transport.state (freeLayers_frame sls s).1) hidle fun x hx =>
    (hsls x (List.contains_iff_mem.mp hx)).2

end Sys2Proof.Machine
end

section
/-! SUPPORT. The song in agreement through the last write of a bounce. -/

namespace Sys2Proof.Machine

/-- The stack with the result in the place of the newest source. -/
def State.bouncedStack (s : State) (result : Slot) : List Slot :=
  (mergedStack s.table.stack (s.job.sources.map Source.slot) (newestSource s (s.job.sources.map Source.slot)) result).filter
    fun x => !(s.job.sources.map Source.slot).contains x

/-- The completion of a job with its stack: the sources freed, the result joined, the job IDLE. -/
theorem completeBounce_joined (result : Slot) (s : State) :
    ∃ (m : Message) (k : Nat), completeBounce result s =
      primingCheck ((raiseRefill result
        (((freeLayers (s.job.sources.map Source.slot) s).resultJoined result k (s.bouncedStack result)).setJob
          Job.idle)).reported 31 m) := by
  have hreport : ∀ v : State, ∃ m : Message,
      (reportBounceEnd .done result v.job.total v).setJob Job.idle = (v.setJob Job.idle).reported 31 m := fun v => by
    unfold reportBounceEnd
    rw [raiseReport_eq_reported]
    refine ⟨.bounceEnd .done result v.job.multiple (pageCount (v.layer result).extents) v.job.total v.job.clips, ?_⟩
    rw [State.reported_eq, State.reported_eq]
    rfl
  unfold completeBounce
  dsimp only
  rw [freeLayers_setStack]
  generalize hk : Option.getD _ 0 = k
  generalize hv : activateResult result k _ = v
  obtain ⟨m, hm⟩ := hreport v
  refine ⟨m, k, ?_⟩
  rw [hm, raiseRefill_setJob, ← hv]
  rfl

/-- The newest of sources that are in the stack is one of them. -/
theorem newestSource_some {s : State} {slots : List Slot} (hne : slots ≠ []) (h : ∀ x ∈ slots, x ∈ s.table.stack) :
    ∃ n, newestSource s slots = some n ∧ n ∈ slots ∧ n ∈ s.table.stack := by
  obtain ⟨y, rest, rfl⟩ := List.exists_cons_of_ne_nil hne
  have hsome : (newestSource s (y :: rest)).isSome = true := by
    unfold newestSource
    rw [List.find?_isSome]
    exact ⟨y, List.mem_reverse.mpr (h y List.mem_cons_self), by simp⟩
  obtain ⟨n, hn⟩ := Option.isSome_iff_exists.mp hsome
  have hmem : n ∈ y :: rest := by simpa using List.find?_some hn
  exact ⟨n, hn, hmem, h n hmem⟩

/-- What the merged stack holds: the result and the layers that were no sources. -/
theorem mem_bouncedStack {s : State} {result n x : Slot} (hn : newestSource s (s.job.sources.map Source.slot) = some n)
    (hsource : n ∈ s.job.sources.map Source.slot) (hstack : n ∈ s.table.stack)
    (hresult : result ∉ s.job.sources.map Source.slot) :
    x ∈ s.bouncedStack result ↔ x = result ∨ x ∈ s.table.stack ∧ x ∉ s.job.sources.map Source.slot := by
  unfold State.bouncedStack mergedStack
  rw [List.mem_filter, List.mem_filterMap, hn]
  constructor
  · rintro ⟨⟨y, hy, he⟩, hx⟩
    split at he
    · exact .inl (Option.some.inj he).symm
    · split at he
      · cases he
      · obtain rfl := Option.some.inj he
        exact .inr ⟨hy, by simpa using hx⟩
  · rintro (rfl | ⟨hx, hnot⟩)
    · exact ⟨⟨n, hstack, if_pos rfl⟩, by simpa using hresult⟩
    · have hne : some n ≠ some x := fun he => hnot (Option.some.inj he ▸ hsource)
      exact ⟨⟨x, hx, by rw [if_neg hne, if_neg (by simpa using hnot)]⟩, by simpa using hnot⟩

theorem bouncedStack_nodup {s : State} {result n : Slot} (hn : newestSource s (s.job.sources.map Source.slot) = some n)
    (hnodup : s.table.stack.Nodup) (hresult : result ∉ s.table.stack) : (s.bouncedStack result).Nodup := by
  unfold State.bouncedStack mergedStack
  rw [hn]
  refine List.Nodup.filter _ (List.pairwise_filterMap.mpr (List.Pairwise.imp_of_mem (fun {x y} hx hy hne => ?_) hnodup))
  intro b hb c hc
  split at hb
  · next hnx =>
    obtain rfl := Option.some.inj hb
    split at hc
    · next hny => exact absurd (Option.some.inj (hnx.symm.trans hny)) hne
    · split at hc
      · cases hc
      · obtain rfl := Option.some.inj hc
        rintro rfl
        exact hresult hy
  · split at hb
    · cases hb
    · obtain rfl := Option.some.inj hb
      split at hc
      · obtain rfl := Option.some.inj hc
        rintro rfl
        exact hresult hx
      · split at hc
        · cases hc
        · obtain rfl := Option.some.inj hc
          exact hne

/-- The stack and the redo list behind the last write. -/
theorem Listed.bounced {s u t : State} {idle : Recorder → Bool} {result : Slot} (h : Listed s) (hne : s.job.sources ≠ [])
    (hsources : ∀ x ∈ s.job.sources.map Source.slot, (s.layer x).state = .active) (hbuilding : (s.layer result).state = .building)
    (f : SongFreed s u (fun x => (s.job.sources.map Source.slot).contains x) idle) (hself : (t.layer result).state = .active)
    (hother : ∀ y, y ≠ result → t.layer y = u.layer y) (hstack : t.table.stack = s.bouncedStack result)
    (hredo : t.table.redo = u.table.redo) : Listed t := by
  have hnot : result ∉ s.job.sources.map Source.slot := fun hx => nomatch hbuilding.symm.trans (hsources result hx)
  have hnotStack : result ∉ s.table.stack := fun hx => nomatch hbuilding.symm.trans ((h.stack.2 _).mp hx)
  obtain ⟨n, hn, hsource, hmem⟩ := newestSource_some (by simpa using hne) fun x hx => (h.stack.2 x).mpr (hsources x hx)
  have hfreed := h.freed f
  refine ⟨⟨hstack ▸ bouncedStack_nodup hn h.stack.1 hnotStack, fun y => ?_⟩, ⟨hredo ▸ hfreed.redo.1, fun y => ?_⟩⟩
  · rw [hstack, mem_bouncedStack hn hsource hmem hnot, h.stack.2]
    by_cases hy : y = result
    · simp [hy, hself]
    · rw [hother y hy, f.state_iff y .active nofun]
      simp [hy, and_comm]
  · rw [hredo, hfreed.redo.2]
    by_cases hy : y = result
    · rw [hy, hself, f.layer_kept (by simpa using hnot), hbuilding]
      exact ⟨nofun, nofun⟩
    · rw [hother y hy]

/-- A song in which no job holds or builds anything. -/
theorem Jobbed.of_idle {s : State} (hjob : s.job = Job.idle) (hlayer : ∀ x, (s.layer x).held = false ∧ (s.layer x).state ≠ .building) :
    Jobbed s :=
  ⟨fun _ => hjob, by rw [hjob]; nofun, fun x => by rw [hjob, (hlayer x).1]; exact ⟨nofun, fun hr => nomatch hr.1⟩,
    fun x hx => absurd hx (hlayer x).2⟩

/-- Without the sources no layer is held, and none but the result is in work. -/
theorem Jobbed.free_of_freed {s u : State} {idle : Recorder → Bool} {result y : Slot} (h : Jobbed s)
    (f : SongFreed s u (fun x => (s.job.sources.map Source.slot).contains x) idle) (hresult : s.job.result = some result)
    (hy : y ≠ result) : (u.layer y).held = false ∧ (u.layer y).state ≠ .building := by
  refine ⟨?_, fun hb => ?_⟩
  · rw [f.layer]
    split
    · rfl
    · next hg =>
      by_contra hh
      exact hg (List.contains_iff_mem.mpr ((h.held y).mp (by simpa using hh)).2)
  · rw [f.state_iff y .building nofun] at hb
    exact hy (Option.some.inj ((h.building y hb.2).2.symm.trans hresult))

/-- The result in the place of its sources, which have left the song, and the job IDLE. -/
theorem Agreed.bounced {s u : State} {idle : Recorder → Bool} (h : Agreed s) (hrun : s.job.running = true) (result : Slot) (k : Nat)
    (hresult : s.job.result = some result)
    (f : SongFreed s u (fun x => (s.job.sources.map Source.slot).contains x) idle)
    (hidle : ∀ q x, (s.recorder q).slot = some x → (s.job.sources.map Source.slot).contains x = true → idle q = true)
    (htransport : u.transport = s.transport) :
    Agreed ((u.resultJoined result k (s.bouncedStack result)).setJob Job.idle) := by
  obtain ⟨hne, hactive, result', hr, hbuilding⟩ := h.parts.jobbed.runs hrun
  rw [← Option.some.inj (hresult.symm.trans hr)] at hbuilding
  have hsources : ∀ x ∈ s.job.sources.map Source.slot, (s.layer x).state = .active := fun x hx => by
    obtain ⟨src, hsrc, rfl⟩ := List.mem_map.mp hx
    exact hactive src hsrc
  have hnot : result ∉ s.job.sources.map Source.slot := fun hx => nomatch hbuilding.symm.trans (hsources result hx)
  have hresultKept : u.layer result = s.layer result := f.layer_kept (by simpa using hnot)
  generalize ht : (u.resultJoined result k (s.bouncedStack result)).setJob Job.idle = t
  have hlayer : ∀ y, t.layer y = if y = result then { s.layer result with state := .active, k := some k } else u.layer y :=
    fun y => by
      rw [← ht, ← hresultKept]
      exact u.resultJoined_layer result k _ y
  have hself := (hlayer result).trans (if_pos rfl)
  have hother : ∀ y, y ≠ result → t.layer y = u.layer y := fun y hy => by rw [hlayer, if_neg hy]
  have hrec : ∀ q, t.recorder q = u.recorder q := fun q => by rw [← ht]; rfl
  have hextents : ∀ y, pagesOf (t.layer y).extents = pagesOf (u.layer y).extents := fun y => by
    rw [hlayer]
    split
    · next hy => rw [hy, hresultKept]
    · rfl
  have htaken := h.parts.taken.freed f hidle
  refine ⟨⟨h.parts.listed.bounced hne hsources hbuilding f (by rw [hself]) hother (by rw [← ht]; rfl) (by rw [← ht]; rfl), fun y => ?_,
    (h.parts.paged.freed f).congr (by rw [← ht]; rfl) (by rw [← ht]; rfl) hextents,
    htaken.congr (fun q => .of_eq (hrec q)) (by rw [← ht]; rfl) (fun q y hy hs => ?_) (fun y hy => ?_) (fun q m left hq => ?_), ?_⟩, ?_⟩
  · by_cases hy : y = result
    · rw [hy, hself]
      obtain ⟨h16, hcount, -⟩ := (h.parts.sound result).2 (by rw [hbuilding]; nofun)
      exact ⟨nofun, fun _ => ⟨h16, hcount, fun ht => ht.elim nofun nofun⟩⟩
    · rw [hother y hy]
      exact f.sound h.parts.sound y
  · rw [hother y]
    · exact hs
    · rintro rfl
      exact h.parts.not_named (.inr hbuilding) q ((f.slot q y).mp hy).1
  · by_cases hyr : y = result
    · rw [hyr, hself] at hy
      exact hy.elim nofun nofun
    · rwa [hother y hyr] at hy
  · rw [hrec]
    exact htaken.burst q m left (by rw [← ht] at hq; exact hq)
  · refine .of_idle (by rw [← ht]; rfl) fun y => ?_
    by_cases hyr : y = result
    · rw [hyr, hself]
      exact ⟨h.parts.not_held_of_not_active (by rw [hbuilding]; nofun), nofun⟩
    · rw [hother y hyr]
      exact h.parts.jobbed.free_of_freed f hresult hyr
  · have hstate : t.transport.state = s.transport.state := by rw [← ht, ← htransport]; rfl
    refine h.moded.congr (.inl hstate) (fun q hq => f.ofBase hidle (hrec q ▸ hq)) (fun hr => ?_) fun hi _ => ?_
    · rw [← ht] at hr
      cases hr
    · exact absurd hi (h.not_idle (x := result) (by rw [hbuilding]; nofun))

theorem Agreed.completeBounce {s : State} (h : Agreed s) (result : Slot) (hrun : s.job.running = true)
    (hresult : s.job.result = some result) : Agreed (completeBounce result s) := by
  obtain ⟨m, k, he⟩ := completeBounce_joined result s
  obtain ⟨-, hactive, -⟩ := h.parts.jobbed.runs hrun
  obtain ⟨idle, f, hidle⟩ := h.parts.freeLayers_songFreed (s.job.sources.map Source.slot) fun x hx => by
    obtain ⟨src, hsrc, rfl⟩ := List.mem_map.mp hx
    rw [hactive src hsrc]
    exact fun hin => hin.elim nofun nofun
  rw [he]
  exact (((h.bounced hrun result k hresult f hidle (freeLayers_frame _ s).1).raiseRefill result).reported 31 m).primingCheck

theorem Agreed.setUpChunk {s : State} (h : Agreed s) (hrun : s.job ≠ Job.idle) : Agreed (setUpChunk s) := h.setChunk _ hrun

theorem Agreed.writeChunk {s : State} (h : Agreed s) (ch : Chunk) (result : Slot) (hrun : s.job.running = true)
    (hresult : s.job.result = some result) : Agreed (writeChunk ch result s) := by
  have hbusy : s.job ≠ Job.idle := fun hi => by
    rw [hi] at hrun
    cases hrun
  have hwritten : ∀ u : State, u = s ∨ (∃ m, u = s.setMem m) →
      Agreed (u.setJob { u.job with progress := u.job.progress + ch.length, chunk := none }) ∧ u.job = s.job := fun u hu => by
    rcases hu with rfl | ⟨m, rfl⟩
    · exact ⟨h.setJob _ ⟨rfl, rfl, rfl, fun hi => absurd hi hbusy⟩, rfl⟩
    · exact ⟨(h.setMem m).setJob _ ⟨rfl, rfl, rfl, fun hi => absurd hi hbusy⟩, rfl⟩
  unfold Machine.writeChunk
  extract_lets values u _ v
  obtain ⟨hv, hj⟩ := hwritten u (by
    unfold u
    split
    · exact .inl rfl
    · exact .inr ⟨_, rfl⟩)
  have hrunV : v.job.running = true := (congrArg Job.running hj).trans hrun
  split
  · exact hv.completeBounce result hrunV ((congrArg Job.result hj).trans hresult)
  · exact hv.setUpChunk fun hi => nomatch hrunV.symm.trans (congrArg Job.running hi)

theorem Agreed.completeWrite {s : State} (h : Agreed s) : Agreed (completeWrite s) := by
  unfold Machine.completeWrite
  dsimp only
  have hreleased := h.releasePort
  generalize Machine.releasePort s = u at hreleased ⊢
  split
  · next ch result _ hresult =>
    refine hreleased.writeChunk ch result ?_ hresult
    by_contra hrun
    rw [hreleased.parts.jobbed.idle (by simpa using hrun)] at hresult
    cases hresult
  · exact hreleased

theorem Agreed.complete {s : State} (h : Agreed s) (x : Transfer) (hx : s.store.transfer = some x) : Agreed (complete x s) := by
  obtain ⟨kind, left⟩ := x
  cases kind with
  | drain r n => exact h.completeDrain r n left hx
  | refill sl entries => exact h.completeRefill sl entries
  | bounceRead => exact h.completeRead
  | bounceWrite => exact h.completeWrite

end Sys2Proof.Machine
end

section
/-! SUPPORT. The song in agreement through UNDO, REDO, MUTE, the aborts and HALT. -/

namespace Sys2Proof.Machine

/-! ## Layers that change in what the song does not read -/

/-- Layers with other settings and layer cycles. -/
theorem Agreed.relayered {s : State} (h : Agreed s) (layers : Vector LayerRec 24)
    (hlayer : ∀ x : Slot, (layers[x.val]).Like (s.layer x)) : Agreed (s.setTable { s.table with layers := layers }) :=
  h.congr (.inl rfl) rfl rfl rfl rfl rfl hlayer (fun _ => .refl _) h.parts.taken.burst (.refl _)

theorem Agreed.setLayer {s : State} (h : Agreed s) (x : Slot) (l : LayerRec) (hl : l.Like (s.layer x)) : Agreed (s.setLayer x l) :=
  h.relayered _ fun y => layer_like_setLayer s x y l hl

theorem Agreed.mapLayers {s : State} (h : Agreed s) (f : Slot → LayerRec → LayerRec) (hf : ∀ x, (f x (s.layer x)).Like (s.layer x)) :
    Agreed (mapLayers f s) :=
  h.relayered _ fun x => by
    rw [Vector.getElem_ofFn]
    exact hf x

/-- A layer record that is not the FREE one, with other settings. -/
theorem LayerRec.like_of_state {l m : LayerRec} (hm : m.state ≠ .free) (hstate : l.state = m.state) (hlen : l.len = m.len)
    (hextents : l.extents = m.extents) (hheld : l.held = m.held) : l.Like m :=
  ⟨hstate, hlen, hextents, hheld, fun hf => absurd (by rw [hf]; rfl) hm⟩

theorem Agreed.applyMute {s : State} (h : Agreed s) (on : Bool) (p1 p2 : Byte) (hok : (muteResult p1 p2 s).1 = .ok) :
    Agreed (applyMute on p1 p2 s) := by
  unfold Machine.applyMute
  unfold muteResult at hok
  split
  · exact h.congr (.inl rfl) rfl rfl rfl rfl rfl (fun _ => .refl _) (fun _ => .refl _) h.parts.taken.burst (.refl _)
  · next hp =>
    rw [if_neg hp] at hok
    refine h.setLayer _ _ (LayerRec.like_of_state (fun hf => ?_) rfl rfl rfl rfl)
    rw [hf] at hok
    cases hok

/-! ## UNDO and REDO -/

/-- A recorder whose layer is in no take serves it in its tail drain, ACTIVE or PARKED. -/
theorem RecorderRec.Serves.swap {q : RecorderRec} {l m : LayerRec} (h : q.Serves l) (hl : ¬l.state.taken) (hlen : m.len = l.len)
    (hm : m.state = .active ∨ m.state = .parked) : q.Serves m := by
  have ht : q.tail = true := by
    by_contra ht
    exact hl (h.taken (by simpa using ht))
  obtain ⟨hsum, hfits⟩ := h
  rw [if_pos ht] at hfits
  refine ⟨by rw [hlen]; exact hsum, ?_⟩
  rw [if_pos ht]
  exact ⟨hfits.1, hfits.2.1, hm⟩

/-- A layer that goes from one list to the other takes its recorder, if it has one, with it. -/
theorem Taken.swapped {s t : State} (h : Taken s) (x : Slot) (hrec : ∀ q, t.recorder q = s.recorder q)
    (horder : t.takes.order = s.takes.order) (hother : ∀ y, y ≠ x → t.layer y = s.layer y) (hold : ¬(s.layer x).state.taken)
    (hlen : (t.layer x).len = (s.layer x).len) (hnew : (t.layer x).state = .active ∨ (t.layer x).state = .parked)
    (hdrain : ∀ r n left, t.store.transfer = some ⟨.drain r n, left⟩ → s.store.transfer = some ⟨.drain r n, left⟩) : Taken t := by
  refine h.congr (fun q => .of_eq (hrec q)) horder (fun q y _ hs => ?_) (fun y hy => ?_) fun q n left hq => ?_
  · by_cases hyx : y = x
    · rw [hyx] at hs ⊢
      exact hs.swap hold hlen hnew
    · rwa [hother y hyx]
  · by_cases hyx : y = x
    · rw [hyx] at hy
      rcases hnew with hn | hn <;> rw [hn] at hy <;> exact hy.elim nofun nofun
    · rwa [hother y hyx] at hy
  · rw [hrec]
    exact h.burst q n left (hdrain q n left hq)

theorem Agreed.parkLayer {s : State} (h : Agreed s) (x : Slot) (ha : (s.layer x).state = .active) (hheld : (s.layer x).held = false) :
    Agreed (parkLayer x s) := by
  have hself : (s.parked x).layer x = { s.layer x with state := .parked } := by rw [State.parked_layer, if_pos rfl]
  have hother : ∀ y, y ≠ x → (s.parked x).layer y = s.layer y := fun y hy => by rw [State.parked_layer, if_neg hy]
  have hfields : (s.parked x).table.stack = s.table.stack.filter (· != x) ∧ (s.parked x).table.redo = x :: s.table.redo ∧
      (s.parked x).takes = s.takes ∧ (s.parked x).store.pool = s.store.pool ∧ (s.parked x).store.pages = s.store.pages ∧
      (s.parked x).job = s.job ∧ (s.parked x).transport = s.transport := by
    rw [State.parked_eq]
    exact ⟨rfl, rfl, rfl, rfl, rfl, rfl, rfl⟩
  obtain ⟨hstack, hredo, htakes, hpool, hpages, hjob, htransport⟩ := hfields
  have hrec : ∀ q, (s.parked x).recorder q = s.recorder q := fun q => by unfold State.recorder; rw [htakes]
  have hout : ¬(s.layer x).state.taken := by
    rw [ha]
    exact fun hin => hin.elim nofun nofun
  have hdrain : ∀ r n left, (s.parked x).store.transfer = some ⟨.drain r n, left⟩ → s.store.transfer = some ⟨.drain r n, left⟩ :=
    fun r n left hq => by
      rw [State.parked_eq] at hq
      exact (Option.filter_eq_some_iff.mp hq).1
  rw [parkLayer_parked]
  refine Agreed.primingCheck ⟨h.parts.moveLayer x hother (by rw [hself]; exact ⟨rfl, rfl, rfl⟩)
    ⟨by rw [ha]; nofun, by rw [hself]; nofun⟩ ⟨by rw [ha]; nofun, by rw [hself]; nofun⟩ (.inl hheld)
    (by rw [hself]; exact fun hin => hin.elim nofun nofun) (h.parts.listed.setLayer x (fun y hy => by rw [hother y hy]) ?_ ?_)
    (h.parts.taken.swapped x hrec (by rw [htakes]) hother hout (by rw [hself]) (.inr (by rw [hself])) hdrain) hpool hpages
    (.of_eq hjob), h.moded.congr (.inl (by rw [htransport])) (fun q => by rw [hrec]; exact id) (by rw [hjob]; exact id)
      fun hi => absurd hi (h.not_idle (x := x) (by rw [ha]; nofun))⟩
  · rw [hstack, hself]
    refine ⟨h.parts.listed.stack.1.filter _, fun y => ?_⟩
    by_cases hyx : y = x <;> simp [hyx]
  · rw [hredo, hself]
    refine ⟨List.nodup_cons.mpr ⟨fun hx => ?_, h.parts.listed.redo.1⟩, fun y => ?_⟩
    · exact nomatch ha.symm.trans ((h.parts.listed.redo.2 x).mp hx)
    · by_cases hyx : y = x <;> simp [hyx]

theorem Agreed.applyRedo {s : State} (h : Agreed s) : Agreed (applyRedo s) := by
  unfold Machine.applyRedo
  cases hr : s.table.redo with
  | nil => exact h
  | cons x rest =>
    dsimp only
    rw [joinStack_stacked]
    obtain ⟨hnodup, hmem⟩ := h.parts.listed.redo
    rw [hr] at hnodup hmem
    obtain ⟨hxrest, hrest⟩ := List.nodup_cons.mp hnodup
    have hp : (s.layer x).state = .parked := (hmem x).mp List.mem_cons_self
    have hnotStack : x ∉ s.table.stack := fun hx => nomatch hp.symm.trans ((h.parts.listed.stack.2 x).mp hx)
    generalize ht : (s.setTable { s.table with redo := rest }).stacked x = t
    have hlayer : ∀ y, t.layer y = if y = x then { s.layer x with state := .active } else s.layer y := fun y => by
      rw [← ht]
      exact State.stacked_layer _ x y
    have hself := (hlayer x).trans (if_pos rfl)
    have hother : ∀ y, y ≠ x → t.layer y = s.layer y := fun y hy => by rw [hlayer, if_neg hy]
    have hrec : ∀ q, t.recorder q = s.recorder q := fun q => by rw [← ht]; rfl
    have hout : ¬(s.layer x).state.taken := by
      rw [hp]
      exact fun hin => hin.elim nofun nofun
    refine Agreed.raiseRefill ⟨h.parts.moveLayer x hother (by rw [hself]; exact ⟨rfl, rfl, rfl⟩)
      ⟨by rw [hp]; nofun, by rw [hself]; nofun⟩ ⟨by rw [hp]; nofun, by rw [hself]; nofun⟩ (.inr (by rw [hself]))
      (by rw [hself]; exact fun hin => hin.elim nofun nofun) (h.parts.listed.setLayer x (fun y hy => by rw [hother y hy]) ?_ ?_)
      (h.parts.taken.swapped x hrec (by rw [← ht]; rfl) hother hout (by rw [hself]) (.inl (by rw [hself]))
        (by rw [← ht]; exact fun _ _ _ => id)) (by rw [← ht]; rfl) (by rw [← ht]; rfl) (by rw [← ht]; exact .refl _),
      h.moded.congr (.inl (by rw [← ht]; rfl)) (fun q => by rw [hrec]; exact id) (by rw [← ht]; exact id)
        fun hi => absurd hi (h.not_idle (x := x) (by rw [hp]; nofun))⟩ x
    · have hstack : t.table.stack = s.table.stack ++ [x] := by rw [← ht]; rfl
      rw [hstack, hself]
      refine ⟨List.nodup_append'.mpr ⟨h.parts.listed.stack.1, List.nodup_singleton x, fun y hy hyx => ?_⟩, fun y => ?_⟩
      · exact hnotStack (List.mem_singleton.mp hyx ▸ hy)
      · by_cases hyx : y = x <;> simp [hyx]
    · have hredo : t.table.redo = rest := by rw [← ht]; rfl
      rw [hredo, hself]
      refine ⟨hrest, fun y => ?_⟩
      by_cases hyx : y = x
      · simp [hyx, hxrest]
      · simp [hyx, hr]

/-! ## Aborts -/

/-- No job runs in DEFINING. -/
theorem Agreed.no_job_of_defining {s : State} (h : Agreed s) (hd : s.transport.state = .defining) : s.job.running = false := by
  by_contra hr
  have hs := h.moded.job (by simpa using hr)
  rw [hd] at hs
  exact hs.elim nofun (fun hs => hs.elim nofun nofun)

theorem Parts.free_of_job {s : State} (h : Parts s) (hr : s.job.running = false) (x : Slot) :
    (s.layer x).held = false ∧ (s.layer x).state ≠ .building := by
  refine ⟨?_, fun hb => ?_⟩
  · by_contra hh
    have hrun := ((h.jobbed.held x).mp (by simpa using hh)).1
    rw [hr] at hrun
    cases hrun
  · have hrun := (h.jobbed.building x hb).1
    rw [hr] at hrun
    cases hrun

/-- The abort of the base take leaves the empty song. -/
theorem Agreed.abortBase {s : State} (h : Agreed s) (r : Recorder) (hd : s.transport.state = .defining) : Agreed (abortBase r s) := by
  obtain ⟨idle, f, hidle⟩ := abortBase_songFreed r s
  have hslots : ∀ q x, (s.recorder q).slot = some x → idle q = true := fun q x hx =>
    hidle q (List.mem_cons_of_mem r ((h.parts.taken.order.2 q).mpr (h.parts.slot_of_taken hx).1)) (by rw [hx]; nofun)
  have hparts := h.parts.freed f (fun q x hx _ => hslots q x hx) fun x _ => h.parts.free_of_job (h.no_job_of_defining hd) x
  have hblank : (Machine.abortBase r s).Blank := by
    refine ⟨fun x => ?_, fun q => ?_⟩
    · rw [f.layer]
      split
      · rfl
      · next hx =>
        obtain ⟨hfree, -⟩ := Bool.or_eq_false_iff.mp (Bool.not_eq_true _ ▸ hx)
        simpa using hfree
    · by_contra hq
      obtain ⟨hi, he⟩ := f.recorder_of_not_idle (fun q x hx _ => hslots q x hx) hq
      rw [he] at hq
      obtain ⟨-, x, hx, -⟩ := h.parts.taken.take q hq
      rw [hslots q x hx] at hi
      cases hi
  refine ⟨hparts, fun q hq => ?_, fun hr => ?_, fun _ => hblank⟩
  · rw [hparts.taken.idle q (hblank.2 q)] at hq
    exact nomatch hq.1
  · rw [hparts.job_of_blank hblank] at hr
    cases hr

theorem LState.inProgress_iff {x : LState} : x.inProgress = true ↔ x.taken := by
  cases x <;> simp [inProgress, taken]

/-- UNDO acts on the newest take, or on a layer that no job holds. -/
theorem Agreed.applyUndo {s : State} (h : Agreed s) (hheld : takeInProgress s = false →
    ∀ x, s.table.stack.getLast? = some x → (s.layer x).held = false) : Agreed (applyUndo s) := by
  unfold Machine.applyUndo
  split
  · cases hr : newestTake s with
    | none => exact h
    | some r =>
      have hin := List.find?_some hr
      dsimp only at hin ⊢
      cases hx : (s.recorder r).slot with
      | none =>
        rw [hx] at hin
        cases hin
      | some x =>
        rw [hx] at hin
        have ht : (s.recorder r).tail = false := h.parts.tail_of_taken hx (LState.inProgress_iff.mp hin)
        split
        · next hb => exact h.abortBase r (h.moded.base r ⟨hb, ht⟩)
        · unfold Machine.abortTake
          rw [hx]
          exact h.dropTake r x .aborted hx ht
  · next ht =>
    cases hl : s.table.stack.getLast? with
    | none => exact h
    | some x =>
      exact h.parkLayer x ((h.parts.listed.stack.2 x).mp (List.mem_of_getLast? hl)) (hheld (by simpa using ht) x hl)

/-! ## HALT -/

/-- The playhead moves, is to move, or stands still, and no base take is under way. -/
theorem Moded.away {s t : State} (h : Moded s) (hs : s.transport.state ≠ .defining)
    (ht : t.transport.state = .running ∨ t.transport.state = .priming ∨ t.transport.state = .halted)
    (hbase : ∀ r, (t.recorder r).OfBase → (s.recorder r).OfBase) : Moded t :=
  ⟨fun r hr => absurd (h.base r (hbase r hr)) hs, fun _ => ht, fun hi => by
    rw [hi] at ht
    exact ht.elim nofun fun hr => hr.elim nofun nofun⟩

theorem Agreed.haltBegun {s : State} (h : Agreed s) (hs : s.transport.state = .running ∨ s.transport.state = .priming) :
    Agreed s.haltBegun := by
  obtain ⟨hstack, hredo, -⟩ := haltBegun_lists s
  have hlayer := haltBegun_layer s
  have hfields : s.haltBegun.transport.state = .halted ∧ s.haltBegun.takes = s.takes ∧ s.haltBegun.job = s.job ∧
      s.haltBegun.store.pool = s.store.pool ∧ s.haltBegun.store.pages = s.store.pages ∧
      s.haltBegun.store.transfer = s.store.transfer.filter fun x => !isRefill x.kind := ⟨rfl, rfl, rfl, rfl, rfl, rfl⟩
  obtain ⟨hstate, htakes, hjob, hpool, hpages, htransfer⟩ := hfields
  have hrec : ∀ q, s.haltBegun.recorder q = s.recorder q := fun q => by unfold State.recorder; rw [htakes]
  generalize s.haltBegun = t at *
  refine ⟨h.parts.congr hstack hredo (by rw [htakes]) hpool hpages (fun x => ?_) (fun q => .of_eq (hrec q)) (fun r n left ht => ?_)
    (.of_eq hjob), h.moded.away (by rcases hs with hs | hs <;> rw [hs] <;> nofun) (.inr (.inr hstate)) fun q => by rw [hrec]; exact id⟩
  · rw [hlayer]
    split
    · exact .refl _
    · next hf => exact LayerRec.like_of_state (fun hfree => hf (.inl hfree)) rfl rfl rfl rfl
  · rw [hrec]
    rw [htransfer] at ht
    exact h.parts.taken.burst r n left (Option.filter_eq_some_iff.mp ht).1

theorem Agreed.cancelCues {s : State} (h : Agreed s) : Agreed (cancelCues s) := by
  unfold Machine.cancelCues
  refine KeptByEvents.foldl (P := Agreed) (fun u e hu => ?_) _ _ (h.setCues ⟨[], []⟩)
  unfold reportCancelled
  rw [raiseReport_eq_reported]
  exact hu.reported _ _

/-- The layers let go of by a job that ends, its result in the pool. -/
theorem Agreed.letGo {s u t : State} {idle : Recorder → Bool} (h : Agreed s) (result : Slot) (hresult : s.job.result = some result)
    (f : SongFreed s u (fun x => [result].contains x) idle)
    (hidle : ∀ q x, (s.recorder q).slot = some x → [result].contains x = true → idle q = true)
    (ht : t = (setHeld (s.job.sources.map Source.slot) false u).setJob Job.idle)
    (hmode : u.transport.state = s.transport.state) : Agreed t := by
  have hlayer : ∀ x, t.layer x =
      if (s.job.sources.map Source.slot).contains x then { u.layer x with held := false } else u.layer x := fun x => by
    rw [ht, State.setJob_layer, setHeld_layer]
  have hstate : ∀ x, (t.layer x).state = (u.layer x).state := fun x => by rw [hlayer]; split <;> rfl
  have hfields : t.transport = u.transport ∧ t.takes = u.takes ∧ t.store = u.store ∧ t.job = Job.idle ∧
      t.table.stack = u.table.stack ∧ t.table.redo = u.table.redo := by
    rw [ht]
    simp [Machine.setHeld, Machine.mapLayers]
  obtain ⟨htransport, htakes, hstore, hjob, hstack, hredo⟩ := hfields
  have hrec : ∀ q, t.recorder q = u.recorder q := fun q => by unfold State.recorder; rw [htakes]
  have htaken := h.parts.taken.freed f hidle
  refine ⟨⟨(h.parts.listed.freed f).congr hstack hredo (fun x => by rw [hstate]) fun x => by rw [hstate], fun x => ?_,
    (h.parts.paged.freed f).congr (by rw [hstore]) (by rw [hstore]) fun x => ?_,
    htaken.congr (fun q => .of_eq (hrec q)) (by rw [htakes]) (fun q x _ hs => ?_) (fun x => by rw [hstate]; exact id)
      (fun q n left hq => ?_), .of_idle hjob fun x => ⟨?_, fun hb => ?_⟩⟩,
    h.moded.congr (.inl (by rw [htransport, hmode])) (fun q hq => f.ofBase hidle (hrec q ▸ hq)) (by rw [hjob]; nofun)
      fun _ hb => ⟨fun x => ?_, fun q => ?_⟩⟩
  · have hu := f.sound h.parts.sound x
    rw [hlayer]
    split
    · exact hu.withHeld nofun
    · exact hu
  · rw [hlayer]
    split <;> rfl
  · refine ⟨hs.1.trans ?_, by rw [hstate]; exact hs.2⟩
    rw [hlayer]
    split <;> rfl
  · rw [hrec]
    exact htaken.burst q n left (by rw [hstore] at hq; exact hq)
  · rw [hlayer]
    split
    · rfl
    · next hx =>
      by_contra hh
      rw [f.layer] at hh
      split at hh
      · exact hh rfl
      · exact hx (List.contains_iff_mem.mpr ((h.parts.jobbed.held x).mp (by simpa using hh)).2)
  · rw [hstate, f.state_iff x .building nofun] at hb
    have hx := (h.parts.jobbed.building x hb.2).2
    rw [hresult] at hx
    simp [Option.some.inj hx] at hb
  · rw [hstate]
    exact (f.blank hidle hb).1 x
  · rw [hrec]
    exact (f.blank hidle hb).2 q

/-- The abort of a running bounce. -/
theorem Agreed.abortBounce {s : State} (h : Agreed s) : Agreed (abortBounce s) := by
  unfold Machine.abortBounce
  cases hr : s.job.result with
  | none => exact h
  | some result =>
    dsimp only
    unfold reportBounceEnd
    rw [raiseReport_eq_reported]
    have hended := h.endTransferIf isBounce
    obtain ⟨b, hb⟩ := endTransferIf_isBounce s
    have hjob : (Machine.endTransferIf isBounce s).job = { s.job with inFlight := b } := by rw [hb]; rfl
    generalize Machine.endTransferIf isBounce s = u at hended hjob ⊢
    have htold := hended.reported 31 (.bounceEnd .halted result u.job.multiple (pageCount (u.layer result).extents) u.job.progress
      u.job.clips)
    have htoldJob : ∀ m : Message, (u.reported 31 m).job = { s.job with inFlight := b } := fun m => by
      rw [State.reported_eq]
      exact hjob
    generalize hv : u.reported 31 (.bounceEnd .halted result u.job.multiple (pageCount (u.layer result).extents) u.job.progress
      u.job.clips) = v at htold ⊢
    have hvjob : v.job = { s.job with inFlight := b } := by rw [← hv]; exact htoldJob _
    have hresult : v.job.result = some result := by rw [hvjob]; exact hr
    have hrun : v.job.running = true := by
      by_contra hrun
      rw [htold.parts.jobbed.idle (by simpa using hrun)] at hresult
      cases hresult
    obtain ⟨-, -, x, hx, hbuilding⟩ := htold.parts.jobbed.runs hrun
    obtain rfl := Option.some.inj (hx.symm.trans hresult)
    obtain ⟨idle, f, hidle⟩ := htold.parts.freeLayers_songFreed [x] fun y hy => by
      rw [List.mem_singleton.mp hy, hbuilding]
      exact fun hin => hin.elim nofun nofun
    exact htold.letGo x hx f hidle (by rw [hvjob]; rfl) (congrArg Transport.state (freeLayers_frame [x] v).1)

/-- A block takes the halt notice. -/
theorem Agreed.takeHalt {s : State} (h : Agreed s) (b : HaltBlock) : Agreed (takeHalt s b) := by
  cases b with
  | cues => exact h.cancelCues
  | bounce => exact h.abortBounce
  | recorders =>
    refine Agreed.endTakes .halted _ (h.openOrder (haltedTakes s)) fun q hq => ?_
    have hmem := List.mem_filter.mp ((openOrder_perm (haltedTakes s) s).mem_iff.mp hq)
    obtain ⟨n, hn⟩ := openOrder_state (haltedTakes s) s
    rw [hn]
    exact h.plain_of_stoppable q hmem.2

theorem Agreed.applyHalt {s : State} (h : Agreed s) (hs : s.transport.state = .running ∨ s.transport.state = .priming) :
    Agreed (applyHalt s) := by
  rw [applyHalt_eq]
  exact KeptByEvents.foldl (P := Agreed) (fun _ b hu => hu.takeHalt b) _ _ ((h.haltBegun hs).openOrder _)

end Sys2Proof.Machine
end

section
/-! SUPPORT. The song in agreement through the admission of takes and the cues that fire. -/

namespace Sys2Proof.Machine

/-! ## The admission of a take -/

theorem Agreed.releaseRedo {s : State} (h : Agreed s) : Agreed (releaseRedo s) := by
  refine h.freeLayers s.table.redo fun x hx => ?_
  have hp := (h.parts.listed.redo.2 x).mp hx
  refine ⟨by rw [hp]; exact fun hin => hin.elim nofun nofun, h.parts.not_held_of_not_active (by rw [hp]; nofun), by rw [hp]; nofun⟩

/-- The record of the layer of a new take, with its first page. -/
def State.takeBegunLayer (s : State) (lane : Lane) (m : Nat) (g : Group) (start page : Nat) : LayerRec :=
  { takeLayer s lane m g start with extents := [⟨page, 1⟩] }

/-- `s` with the take begun by recorder `r` in slot `x`, with its first page. -/
def State.takeBegun (s : State) (r : Recorder) (x : Slot) (q : RecorderRec) (l : LayerRec) (pool : List Nat) : State :=
  { s with
    takes := { recs := s.takes.recs.set r.val q, order := s.takes.order ++ [r] }
    table := { s.table with layers := s.table.layers.set x.val l }
    store := { s.store with pool := pool } }

theorem admitWith_takeBegun (r : Recorder) (x : Slot) (lane : Lane) (m : Nat) (g : Group) (base : Bool) (start page : Nat)
    (rest : List Nat) (s : State) (hpool : s.store.pool = page :: rest) :
    admitWith r x lane m g base start s =
      s.takeBegun r x (takeRecorder lane x base) (s.takeBegunLayer lane m g start page) rest := by
  unfold admitWith acquirePage
  dsimp only [State.setLayer_store, State.setTakes_store]
  rw [hpool]
  dsimp only
  rw [State.setLayer_layer, if_pos rfl]
  dsimp only [takeLayer, LayerRec.freed, appendPage, List.getLast?_nil]
  unfold State.setLayer
  dsimp only [State.setTable, State.setTakes, State.setStore]
  rw [Vector.set_set]
  rfl

theorem State.takeBegun_layer (s : State) (r : Recorder) (x y : Slot) (q : RecorderRec) (l : LayerRec) (pool : List Nat) :
    (s.takeBegun r x q l pool).layer y = if y = x then l else s.layer y := State.setLayer_layer s x y l

theorem State.takeBegun_recorder (s : State) (r p : Recorder) (x : Slot) (q : RecorderRec) (l : LayerRec) (pool : List Nat) :
    (s.takeBegun r x q l pool).recorder p = if p = r then q else s.recorder p := State.setRecorder_recorder s r p q

/-- An idle recorder and a FREE layer begin a take. -/
theorem Parts.takeBegun {s : State} (h : Parts s) (r : Recorder) (x : Slot) (lane : Lane) (m : Nat) (g : Group) (base : Bool)
    (start page : Nat) (rest : List Nat) (hpool : s.store.pool = page :: rest) (hr : (s.recorder r).state = .idle)
    (hx : (s.layer x).state = .free) (hbase : base = true → ∀ q, ¬(s.recorder q).OfBase) :
    Parts (s.takeBegun r x (takeRecorder lane x base) (s.takeBegunLayer lane m g start page) rest) := by
  have hl := fun y => s.takeBegun_layer r x y (takeRecorder lane x base) (s.takeBegunLayer lane m g start page) rest
  have hrec := fun q => s.takeBegun_recorder r q x (takeRecorder lane x base) (s.takeBegunLayer lane m g start page) rest
  generalize ht : s.takeBegun r x (takeRecorder lane x base) (s.takeBegunLayer lane m g start page) rest = t at *
  have hself : t.layer x = s.takeBegunLayer lane m g start page := (hl x).trans (if_pos rfl)
  have hother : ∀ y, y ≠ x → t.layer y = s.layer y := fun y hy => (hl y).trans (if_neg hy)
  have hselfRec : t.recorder r = takeRecorder lane x base := (hrec r).trans (if_pos rfl)
  have hfreed : s.layer x = LayerRec.freed := (h.sound x).1 hx
  have hiff : ∀ y z, z ≠ .free → z ≠ .recording → ((t.layer y).state = z ↔ (s.layer y).state = z) := fun y z hz hz' => by
    by_cases hyx : y = x
    · rw [hyx, hself, hx]
      exact ⟨fun he => absurd he.symm hz', fun he => absurd he.symm hz⟩
    · rw [hother y hyx]
  refine ⟨h.listed.congr (by rw [← ht]; rfl) (by rw [← ht]; rfl) (fun y => hiff y .active nofun nofun)
      fun y => hiff y .parked nofun nofun, fun y => ?_,
    h.paged.moved x [page] (by rw [hpool, ← ht]; rfl) (by rw [← ht]; rfl) ?_ fun y hy => by rw [hother y hy],
    h.taken.begun r x hr (h.not_named (.inl hx)) (fun q hq => (hrec q).trans (if_neg hq)) (by rw [← ht]; rfl) hother ?_ ?_ ?_ ?_ ?_
      (by rw [← ht]; rfl) fun hb => ?_,
    h.jobbed.congr (by rw [← ht]; exact .refl _) (fun y => ?_) (fun y _ ha => (hiff y .active nofun nofun).mpr ha)
      fun y => hiff y .building nofun nofun⟩
  · by_cases hyx : y = x
    · rw [hyx, hself]
      exact ⟨nofun, fun _ => ⟨by simp [State.takeBegunLayer], .inr ⟨rfl, rfl⟩, fun _ => Nat.one_pos⟩⟩
    · rw [hother y hyx]
      exact h.sound y
  · rw [hself, hfreed]
    rfl
  · rw [hselfRec]
    nofun
  · rw [hselfRec]
    exact ⟨nofun, Nat.zero_le _, Nat.zero_le _⟩
  · rw [hselfRec]
    rfl
  · rw [hselfRec, hself]
    exact ⟨rfl, rfl⟩
  · rw [hselfRec]
    rfl
  · rw [hselfRec] at hb
    exact hbase hb.1
  · by_cases hyx : y = x
    · rw [hyx, hself, hfreed]
      rfl
    · rw [hother y hyx]

/-- An admission in the parts of the song, and what it leaves of the transport, of base takes and of the job. -/
theorem Agreed.admitTake_parts {s : State} (h : Agreed s) (lane : Lane) (m : Nat) (g : Group) (base : Bool) (start : Nat)
    (hcounted : countedPool s ≠ []) (hbase : base = true → ∀ q, ¬(s.recorder q).OfBase) :
    Parts (admitTake lane m g base start s) ∧ (admitTake lane m g base start s).transport = s.transport ∧
      (∀ q, ((admitTake lane m g base start s).recorder q).OfBase → base = true ∨ (s.recorder q).OfBase) ∧
      ((admitTake lane m g base start s).job.running = true → s.job.running = true) := by
  have hreleased := h.releaseRedo
  obtain ⟨idle, f, hidle⟩ := h.parts.freeLayers_songFreed s.table.redo fun x hx => by
    rw [(h.parts.listed.redo.2 x).mp hx]
    exact fun hin => hin.elim nofun nofun
  have htransport : (Machine.releaseRedo s).transport = s.transport := (freeLayers_frame s.table.redo s).1
  have hofBase : ∀ q, ((Machine.releaseRedo s).recorder q).OfBase → (s.recorder q).OfBase := fun q => f.ofBase hidle
  have hjob : (Machine.releaseRedo s).job.running = true → s.job.running = true := by
    obtain ⟨b, hb⟩ := f.job
    intro hr
    have hr' : (Machine.freeLayers s.table.redo s).job.running = true := hr
    rw [hb] at hr'
    exact hr'
  obtain ⟨page, hpage⟩ := List.exists_mem_of_ne_nil _ hcounted
  have hmem := (mem_countedPool_iff_releaseRedo h.parts.listed.redo.2 page).mp hpage
  obtain ⟨first, rest, hpool⟩ := List.exists_cons_of_ne_nil (List.ne_nil_of_mem hmem)
  unfold Machine.admitTake
  dsimp only
  generalize Machine.releaseRedo s = u at *
  split
  · next r x hr hx =>
    have hfree : (u.layer x).state = .free := by simpa using findSlot_some hx
    have hidleRec : (u.recorder r).state = .idle := by simpa using List.find?_some hr
    rw [admitWith_takeBegun r x lane m g base start first rest u hpool]
    refine ⟨hreleased.parts.takeBegun r x lane m g base start first rest hpool hidleRec hfree
      fun hb q hq => hbase hb q (hofBase q hq), htransport, fun q hq => ?_, hjob⟩
    rw [State.takeBegun_recorder] at hq
    split at hq
    · exact .inl hq.1
    · exact .inr (hofBase q hq)
  · exact ⟨hreleased.parts, htransport, fun q hq => .inr (hofBase q hq), hjob⟩

/-- A START_TAKE that is admitted, or finds no room. -/
theorem Agreed.admitTake {s : State} (h : Agreed s) (lane : Lane) (m : Nat) (g : Group) (start : Nat)
    (hcounted : countedPool s ≠ []) (hactive : s.transport.state ≠ .idle) : Agreed (admitTake lane m g false start s) := by
  obtain ⟨hparts, htransport, hbase, hjob⟩ := h.admitTake_parts lane m g false start hcounted nofun
  exact ⟨hparts, h.moded.congr (.inl (by rw [htransport])) (fun q hq => (hbase q hq).resolve_left nofun) hjob
    fun hi => absurd hi hactive⟩

/-! ## The effects of cues -/

/-- A start that may act has counted a page. -/
theorem countedPool_of_startResult {p1 : Byte} {s : State} (h : (startResult p1 s).1 = .ok) : countedPool s ≠ [] := by
  intro hc
  unfold startResult at h
  split at h
  · next code hcode =>
    simp only at h
    rw [h] at hcode
    unfold takeRefusal at hcode
    split_ifs at hcode <;> cases hcode
  · next hnone =>
    unfold takeRefusal at hnone
    split_ifs at hnone

/-- Beyond the test of the transport's state the outcome of a cue is that of its kind. -/
theorem startResult_of_ok {kind : CueKind} {p1 p2 : Byte} {s : State} (hk : kind = .startBase ∨ kind = .startTake)
    (h : (cueResult kind p1 p2 s).1 = .ok) : (startResult p1 s).1 = .ok := by
  have hr := stateRefusal_of_ok h
  unfold cueResult at h
  rw [hr] at h
  rcases hk with rfl | rfl <;> exact h

theorem muteResult_of_ok {kind : CueKind} {p1 p2 : Byte} {s : State} (hk : kind = .mute ∨ kind = .unmute)
    (h : (cueResult kind p1 p2 s).1 = .ok) : (muteResult p1 p2 s).1 = .ok := by
  have hr := stateRefusal_of_ok h
  unfold cueResult at h
  rw [hr] at h
  rcases hk with rfl | rfl <;> exact h

theorem Agreed.applyQueued {s : State} (h : Agreed s) (kind : CueKind) (p1 p2 p3 : Byte) (hok : (cueResult kind p1 p2 s).1 = .ok) :
    Agreed (applyQueued kind p1 p2 p3 s) := by
  cases kind with
  | startTake =>
    refine h.admitTake _ _ _ _ (countedPool_of_startResult (startResult_of_ok (.inr rfl) hok)) fun hi => ?_
    have hm := startTake_moves_of_ok hok
    simp [Transport.moves, hi] at hm
  | stopTake =>
    unfold Machine.applyQueued
    dsimp only
    split
    · exact h
    · next r hr => exact h.endTake .stopped r (h.plain_of_stoppable r (stoppable_of_stopTarget hr))
  | mute => exact h.applyMute true p1 p2 (muteResult_of_ok (.inl rfl) hok)
  | unmute => exact h.applyMute false p1 p2 (muteResult_of_ok (.inr rfl) hok)
  | undo => exact h.applyUndo (held_of_undo_ok hok)
  | redo => exact h.applyRedo
  | halt => exact h.applyHalt (halt_state_of_ok hok)
  | startBase => exact h
  | closeBase => exact h
  | play => exact h

/-! ## Firing -/

theorem Agreed.fireEntry {s : State} (h : Agreed s) (e : CueEntry) : Agreed (fireEntry e s) := by
  unfold Machine.fireEntry
  dsimp only
  rw [raiseReport_eq_reported]
  have hreported := h.reported 31 (.cueFired e.tag e.kind (cueResult e.kind e.p1 e.p2 s).1 (cueResult e.kind e.p1 e.p2 s).2)
  split
  · next hok =>
    refine hreported.applyQueued _ _ _ _ ?_
    rw [State.reported_eq, cueResult_setLink]
    exact hok
  · exact hreported

theorem Agreed.walkCycle (b : Boundary) (rest : List CueEntry) : ∀ {s : State} (kept : List CueEntry), Agreed s →
    Agreed (walkCycle b kept rest s) := by
  induction rest with
  | nil => exact fun _ h => h
  | cons e rest ih =>
    intro s kept h
    unfold Machine.walkCycle
    split
    · have hfired := (h.setCues { s.cues with cycle := kept ++ rest }).fireEntry e
      dsimp only
      split
      · exact hfired
      · exact ih kept hfired
    · exact ih (kept ++ [e]) h

theorem Agreed.fireBeats (rest : List CueEntry) : ∀ {s : State}, Agreed s → Agreed (fireBeats rest s) := by
  induction rest with
  | nil => exact fun h => h
  | cons e rest ih =>
    intro s h
    have hfired := (h.setCues { s.cues with beat := rest }).fireEntry e
    unfold Machine.fireBeats
    dsimp only
    split
    · exact hfired
    · exact ih hfired

theorem Agreed.cuesTake {s : State} (h : Agreed s) (b : Boundary) : Agreed (cuesTake b s) := by
  unfold Machine.cuesTake
  refine Agreed.fireBeats _ ?_
  split
  · exact Agreed.walkCycle b _ [] h
  · exact h

/-! ## Boundaries -/

theorem Agreed.advanceCycles {s : State} (h : Agreed s) (skip : Option Slot) : Agreed (advanceCycles skip s) := by
  refine h.mapLayers _ fun x => ?_
  split
  · exact .refl _
  · unfold LayerRec.advanced
    split
    · next hc => exact LayerRec.like_of_state (fun hf => by rw [hf] at hc; cases hc) rfl rfl rfl rfl
    · exact .refl _

theorem Agreed.boundaryBegun {s : State} (h : Agreed s) (beat : Nat) : Agreed (pulseAt beat (startBurst beat s)) := by
  have hp := pulseAt_frame beat (startBurst beat s)
  have hb := startBurst_frame beat s
  exact h.same ((pulseAt_state beat _).trans (congrArg Transport.state hb.1)) (by rw [hp.1, hb.2.1]) (by simp) (by simp) (by simp)

theorem Agreed.linkTakes {s : State} (h : Agreed s) (b : Boundary) : Agreed (linkTakes b s) :=
  h.same (by simp) (by simp) (by simp) (by simp) (by simp)

theorem Agreed.raiseBoundary {s : State} (h : Agreed s) (beat : Nat) (freeClosure : Bool) (skip : Option Slot) :
    Agreed (raiseBoundary beat freeClosure skip s) := by
  have hadvanced : Agreed (if beat = 0 then Machine.advanceCycles skip s else s) := by
    split
    · exact h.advanceCycles skip
    · exact h
  unfold Machine.raiseBoundary
  dsimp only
  refine KeptByEvents.foldl (P := Agreed) (fun u r hu => ?_) _ _ ((hadvanced.boundaryBegun beat).openOrder _)
  cases r with
  | link => exact hu.linkTakes _
  | cues => exact hu.cuesTake _

end Sys2Proof.Machine
end

section
/-! SUPPORT. The song in agreement through the closure of the base take and the cues that do not wait. -/

namespace Sys2Proof.Machine

/-! ## The closure of the base take -/

theorem Parts.setTransport {s : State} (h : Parts s) (t : Transport) : Parts (s.setTransport t) :=
  h.congr rfl rfl rfl rfl rfl (fun _ => .refl _) (fun _ => .refl _) h.taken.burst (.refl _)

/-- In RUNNING no base take is under way. -/
theorem Moded.of_running {s : State} (hstate : s.transport.state = .running) (hbase : ∀ q, ¬(s.recorder q).OfBase) : Moded s :=
  ⟨fun q hq => absurd hq (hbase q), fun _ => .inl hstate, by rw [hstate]; nofun⟩

theorem baseJoined_recorder (s : State) (r q : Recorder) (x : Slot) (m : Nat) :
    (s.baseJoined r x m).recorder q =
      if q = r then
        if (s.recorder r).filled = [] ∧ (s.recorder r).inFlight = false then RecorderRec.idle
        else { s.recorder r with state := .closing, tail := true, gap := 0, fifo := (s.recorder r).filled }
      else s.recorder q := by
  unfold State.baseJoined State.recorder
  dsimp only
  split <;> exact set_recorder _ _ _ _

/-- The base take closed: its layer ACTIVE, its recorder IDLE or in the tail drain. -/
theorem Parts.baseJoined {s : State} (h : Parts s) (r : Recorder) (x : Slot) (m : Nat) (hx : (s.recorder r).slot = some x)
    (hb : (s.recorder r).base = true) (ht : (s.recorder r).tail = false) : Parts (s.baseJoined r x m) := by
  obtain ⟨hbusy, hkept, hserves⟩ := h.slot_of_taken hx
  have hin := hserves.taken ht
  have hnot : (s.layer x).state ≠ .active ∧ (s.layer x).state ≠ .parked ∧ (s.layer x).state ≠ .free ∧
      (s.layer x).state ≠ .building := by
    rcases hin with hs | hs <;> rw [hs] <;> exact ⟨nofun, nofun, nofun, nofun⟩
  obtain ⟨hactive, hparked, hfree, hbuilding⟩ := hnot
  have hl := fun y => baseJoined_layer s r x y m
  have hrec := fun q => baseJoined_recorder s r q x m
  have horder : (s.baseJoined r x m).takes.order =
      if (s.recorder r).filled = [] ∧ (s.recorder r).inFlight = false then s.takes.order.filter (· != r) else s.takes.order := by
    unfold State.baseJoined
    dsimp only
    split <;> rfl
  have hfields : (s.baseJoined r x m).table.stack = s.table.stack ++ [x] ∧ (s.baseJoined r x m).table.redo = s.table.redo ∧
      (s.baseJoined r x m).store.pool = s.store.pool ∧ (s.baseJoined r x m).store.pages = s.store.pages ∧
      (s.baseJoined r x m).store.transfer = s.store.transfer ∧ (s.baseJoined r x m).job = s.job := ⟨rfl, rfl, rfl, rfl, rfl, rfl⟩
  obtain ⟨hstack, hredo, hpool, hpages, htransfer, hjob⟩ := hfields
  generalize s.baseJoined r x m = t at *
  have hself := (hl x).trans (if_pos rfl)
  have hother : ∀ y, y ≠ x → t.layer y = s.layer y := fun y hy => (hl y).trans (if_neg hy)
  have hotherRec : ∀ q, q ≠ r → t.recorder q = s.recorder q := fun q hq => (hrec q).trans (if_neg hq)
  have hout : ¬(t.layer x).state.taken := by
    rw [hself]
    exact fun hin => hin.elim nofun nofun
  refine h.moveLayer x hother (by rw [hself]; exact ⟨rfl, rfl, rfl⟩) ⟨hfree, by rw [hself]; nofun⟩ ⟨hbuilding, by rw [hself]; nofun⟩
    (.inr (by rw [hself]; rfl)) (fun hn => absurd hn hout)
    (h.listed.joined x hother (by rw [hself]; rfl) hstack hredo ⟨hactive, hparked⟩) ?_ hpool hpages (.of_eq hjob)
  by_cases hdrained : (s.recorder r).filled = [] ∧ (s.recorder r).inFlight = false
  · rw [if_pos hdrained] at horder
    exact h.taken.left r x hx (by rw [hrec, if_pos rfl, if_pos hdrained]) hotherRec horder hother hout htransfer hdrained.2
  · rw [if_neg hdrained] at horder
    have hselfRec := (hrec r).trans ((if_pos rfl).trans (if_neg hdrained))
    obtain ⟨hkept', hsum, hfifo⟩ := (s.recorder r).spent_counts .closed hkept
    refine h.taken.step r x hx hotherRec horder hother (by rw [hselfRec]; nofun) (by rw [hselfRec]; exact hkept')
      (by rw [hselfRec]; exact hx) ?_ (fun hn => absurd hn hout) (fun q n left hq => ?_) fun hq => ?_
    · rw [hselfRec, hself]
      exact ⟨hsum.trans hserves.1, rfl, hb, .inl rfl⟩
    · obtain ⟨hflight, hn⟩ := h.taken.burst q n left (htransfer ▸ hq)
      by_cases hqr : q = r
      · rw [hqr] at hflight hn ⊢
        rw [hselfRec]
        exact ⟨hflight, hn.trans hfifo⟩
      · rw [hotherRec q hqr]
        exact ⟨hflight, hn⟩
    · rw [hselfRec] at hq
      exact nomatch hq.2

theorem Agreed.closure {s : State} (h : Agreed s) (m length : Nat) : Agreed (closure m length s) := by
  have hparts := h.parts.setTransport (s.transport.enterClosed length)
  have hrecs : ∀ q, (s.setTransport (s.transport.enterClosed length)).recorder q = s.recorder q := fun _ => rfl
  unfold Machine.closure
  dsimp only
  have hstate : (s.setTransport (s.transport.enterClosed length)).transport.state = .running := rfl
  generalize s.setTransport (s.transport.enterClosed length) = u at *
  cases hr : baseRecorder u with
  | none => exact Agreed.raiseBoundary ⟨hparts, .of_running hstate fun q hq => baseRecorder_none hr q hq⟩ _ _ _
  | some r =>
    obtain ⟨hb, ht⟩ := baseRecorder_some hr
    dsimp only
    cases hx : (u.recorder r).slot with
    | none =>
      have hidle : (u.recorder r).state = .idle := by
        by_contra hi
        obtain ⟨-, x, hx', -⟩ := hparts.taken.take r hi
        rw [hx] at hx'
        cases hx'
      rw [hparts.taken.idle r hidle] at hb
      cases hb
    | some x =>
      have hjoined : Agreed (u.baseJoined r x m) := by
        refine ⟨hparts.baseJoined r x m hx hb ht, .of_running hstate fun q hq => ?_⟩
        rw [baseJoined_recorder] at hq
        split at hq
        · split at hq
          · exact nomatch hq.1
          · exact nomatch hq.2
        · next hqr => exact hqr (hparts.taken.oneBase r q ⟨hb, ht⟩ hq)
      dsimp only
      rw [closeBaseTake_eq]
      exact (hjoined.reported _ _).raiseBoundary _ _ _

/-! ## The wrap and the beat -/

theorem Agreed.wrapCycle {s : State} (h : Agreed s) : Agreed (wrapCycle s) := by
  unfold Machine.wrapCycle
  dsimp only
  split
  · split
    · refine Agreed.closure ?_ _ _
      exact h.setTransport _ rfl
    · refine Agreed.raiseBoundary ?_ _ _ _
      exact h.setTransport _ rfl
  · refine Agreed.raiseBoundary ?_ _ _ _
    exact h.setTransport _ rfl

theorem Agreed.takeBeat {s : State} (h : Agreed s) : Agreed (takeBeat s) := by
  unfold Machine.takeBeat
  refine Agreed.raiseBoundary ?_ _ _ _
  exact h.setTransport _ rfl

theorem Agreed.selfClose {s : State} (h : Agreed s) : Agreed (selfClose s) := h.closure 1 2304000

/-! ## The cues that do not wait -/

/-- The base take begins in the blank song. -/
theorem Agreed.baseBegun {s : State} (h : Agreed s) (hi : s.transport.state = .idle) (hcounted : countedPool s ≠ []) (lane : Lane)
    (m : Nat) (g : Group) (start : Nat) (lanes : Vector LaneRec 4) (t : Transport) (ht : t.state = .defining) :
    Agreed (((Machine.admitTake lane m g true start s).setLanes lanes).setTransport t) := by
  have hblank := h.moded.idle hi
  have hno : ∀ q, ¬(s.recorder q).OfBase := fun q hq => by
    rw [h.parts.taken.idle q (hblank.2 q)] at hq
    exact nomatch hq.1
  obtain ⟨hparts, -, -, hjob⟩ := h.admitTake_parts lane m g true start hcounted fun _ => hno
  refine ⟨hparts.congr rfl rfl rfl rfl rfl (fun _ => .refl _) (fun _ => .refl _) hparts.taken.burst (.refl _),
    fun _ _ => ht, fun hr => ?_, fun hs => nomatch (show TState.defining = .idle from ht.symm.trans hs)⟩
  have hrun := hjob hr
  rw [h.parts.job_of_blank hblank] at hrun
  cases hrun

theorem Agreed.applyStartBase {s : State} (h : Agreed s) (p1 p2 : Byte) (hok : (cueResult .startBase p1 p2 s).1 = .ok) :
    Agreed (applyStartBase p1 s) := by
  have hi := startBase_state_of_ok hok
  have hcounted := countedPool_of_startResult (startResult_of_ok (.inl rfl) hok)
  unfold Machine.applyStartBase
  dsimp only
  split
  · refine Agreed.raiseBoundary ?_ _ _ _
    exact h.baseBegun hi hcounted _ _ _ _ _ _ (by rfl)
  · exact h.baseBegun hi hcounted _ _ _ _ _ _ (by rfl)

theorem Agreed.applyCloseBase {s : State} (h : Agreed s) : Agreed (applyCloseBase s) := by
  unfold Machine.applyCloseBase
  split
  · exact h.closure 1 _
  · exact h.setTransport _ rfl

theorem Agreed.applyPlay {s : State} (h : Agreed s) (hh : s.transport.state = .halted) : Agreed (applyPlay s) := by
  rw [applyPlay_eq]
  refine Agreed.primingCheck (Agreed.placeAll ?_)
  have hfields : (s.streaming (s.transport.primed .priming) fun _ => ⟨[], false, false⟩).transport.state = .priming ∧
      (s.streaming (s.transport.primed .priming) fun _ => ⟨[], false, false⟩).table = s.table ∧
      (s.streaming (s.transport.primed .priming) fun _ => ⟨[], false, false⟩).takes = s.takes ∧
      (s.streaming (s.transport.primed .priming) fun _ => ⟨[], false, false⟩).store.pool = s.store.pool ∧
      (s.streaming (s.transport.primed .priming) fun _ => ⟨[], false, false⟩).store.pages = s.store.pages ∧
      (s.streaming (s.transport.primed .priming) fun _ => ⟨[], false, false⟩).store.transfer = s.store.transfer ∧
      (s.streaming (s.transport.primed .priming) fun _ => ⟨[], false, false⟩).job = s.job := by
    unfold State.streaming
    simp [Transport.primed]
  obtain ⟨hstate, htable, htakes, hpool, hpages, htransfer, hjob⟩ := hfields
  generalize (s.streaming (s.transport.primed .priming) fun _ => ⟨[], false, false⟩) = t at *
  have hrec : ∀ q, t.recorder q = s.recorder q := fun q => by unfold State.recorder; rw [htakes]
  refine ⟨h.parts.congr (by rw [htable]) (by rw [htable]) (by rw [htakes]) hpool hpages
      (fun x => .of_eq (by unfold State.layer; rw [htable])) (fun q => .of_eq (hrec q)) (fun q n left hq => ?_) (.of_eq hjob),
    h.moded.away (by rw [hh]; nofun) (.inr (.inl hstate)) fun q => by rw [hrec]; exact id⟩
  rw [hrec]
  exact h.parts.taken.burst q n left (htransfer ▸ hq)

theorem Agreed.applyCue {s : State} (h : Agreed s) (kind : CueKind) (p1 p2 p3 : Byte) (hok : (cueResult kind p1 p2 s).1 = .ok) :
    Agreed (applyCue kind p1 p2 p3 s) := by
  cases kind with
  | startBase => exact h.applyStartBase p1 p2 hok
  | closeBase => exact h.applyCloseBase
  | play => exact h.applyPlay (play_state_of_ok hok)
  | startTake => exact h.applyQueued _ p1 p2 p3 hok
  | stopTake => exact h.applyQueued _ p1 p2 p3 hok
  | mute => exact h.applyQueued _ p1 p2 p3 hok
  | unmute => exact h.applyQueued _ p1 p2 p3 hok
  | undo => exact h.applyQueued _ p1 p2 p3 hok
  | redo => exact h.applyQueued _ p1 p2 p3 hok
  | halt => exact h.applyQueued _ p1 p2 p3 hok

end Sys2Proof.Machine
end

section
/-! SUPPORT. The song in agreement through the sample period, the admission of a bounce, and the requests. -/

namespace Sys2Proof.Machine

/-! ## Lanes -/

theorem Agreed.levelEvent {s : State} (h : Agreed s) (n : Lane) (old new : Band) : Agreed (levelEvent n old new s) := by
  unfold Machine.levelEvent
  split
  · rw [raiseLevel_eq_reported]
    exact h.reported _ _
  · exact h

theorem Agreed.endWindow {s : State} (h : Agreed s) (n : Lane) : Agreed (endWindow n s) := by
  unfold Machine.endWindow
  dsimp only
  have hjudged := Agreed.levelEvent (h.setLanes (s.lanes.set n.val
    { s.lane n with
      band := (judged (s.lane n).band (s.lane n).below (windowBand (s.lane n))).1
      below := (judged (s.lane n).band (s.lane n).below (windowBand (s.lane n))).2
      peak := 0
      pos := 0 })) n (s.lane n).band (judged (s.lane n).band (s.lane n).below (windowBand (s.lane n))).1
  split
  · unfold autoStart
    dsimp only
    rw [raiseReport_eq_reported]
    change Agreed (Machine.levelEvent n _ _ (s.setLane n _)) at hjudged
    generalize Machine.levelEvent n _ _ _ = u at hjudged ⊢
    have hreported := hjudged.reported 31 (.cueFired 255 .startBase (cueResult .startBase (byte n.val) 0 u).1
      (cueResult .startBase (byte n.val) 0 u).2)
    split
    · next hok =>
      refine hreported.applyStartBase (byte n.val) 0 ?_
      rw [State.reported_eq, cueResult_setLink]
      exact hok
    · exact hreported
  · exact hjudged

theorem Agreed.measureLanes {s : State} (h : Agreed s) (r : Lane → Int) : Agreed (measureLanes r s) := h.setLanes _

/-! ## The sample period -/

theorem Agreed.exhaustFree {s : State} (h : Agreed s) : Agreed (exhaustFree s) := by
  unfold Machine.exhaustFree
  split
  · split
    · exact h
    · next r hr =>
      obtain ⟨hb, ht⟩ := baseRecorder_some hr
      split
      · exact h
      · next x hx =>
        split
        · exact h
        · next e _ =>
          have hspent := h.exhaustRecorder r x e.reason hx ht hb
          dsimp only
          split
          · exact hspent.closure 1 _
          · refine hspent.abortBase r ?_
            rw [(exhaustRecorder_frame r x e.reason s).1]
            exact h.moded.base r ⟨hb, ht⟩
  · exact h

/-- Dropouts are counted in ACTIVE layers, which is no matter of the song. -/
theorem servedLayer_like (s : State) (x : Slot) (l : LayerRec) : (servedLayer s x l).Like l := by
  unfold servedLayer
  split
  · next hactive =>
    split
    · exact .refl _
    · split
      · exact LayerRec.like_of_state (by rw [hactive]; nofun) rfl rfl rfl rfl
      · exact .refl _
  · exact .refl _

theorem serveLayers_like (s : State) (x : Slot) : ((serveLayers s).layer x).Like (s.layer x) := by
  unfold Machine.serveLayers
  split
  · have hx : ((mapLayers (servedLayer s) s).setStore
        { s.store with buffers := Vector.ofFn (servedBuffer s) }).layer x = servedLayer s x (s.layer x) := by
      simp [mapLayers, State.layer]
    rw [hx]
    exact servedLayer_like s x _
  · exact .refl _

theorem Agreed.serveLayers {s : State} (h : Agreed s) : Agreed (serveLayers s) := by
  have hlayer := serveLayers_like s
  have htable : (Machine.serveLayers s).table.stack = s.table.stack ∧ (Machine.serveLayers s).table.redo = s.table.redo := by
    rw [serveLayers_table]
    exact ⟨rfl, rfl⟩
  have hstore : (Machine.serveLayers s).store.pool = s.store.pool ∧ (Machine.serveLayers s).store.pages = s.store.pages ∧
      (Machine.serveLayers s).store.transfer = s.store.transfer := by
    rw [serveLayers_store]
    exact ⟨rfl, rfl, rfl⟩
  obtain ⟨htransport, -, -, htakes, -, -, hjob, -⟩ := serveLayers_frame s
  obtain ⟨hpool, hpages, htransfer⟩ := hstore
  generalize Machine.serveLayers s = t at *
  have hrec : ∀ q, t.recorder q = s.recorder q := fun q => by unfold State.recorder; rw [htakes]
  refine h.congr (.inl (by rw [htransport])) htable.1 htable.2 (by rw [htakes]) hpool hpages hlayer (fun q => .of_eq (hrec q))
    (fun r n left ht => ?_) (.of_eq hjob)
  rw [hrec]
  exact h.parts.taken.burst r n left (htransfer ▸ ht)

/-- What follows the recorders in a sample period. -/
theorem Agreed.countedOn {s : State} (h : Agreed s) (r : Lane → Int) : Agreed (s.countedOn r) := by
  have hserved := (h.setMix (formMix r s).mix).serveLayers
  unfold State.countedOn
  change Agreed (Machine.serveLayers (formMix r s)) at hserved
  generalize Machine.serveLayers (formMix r s) = u at hserved ⊢
  have hcounted : Agreed (countPulse u) := hserved.setTransport _ rfl
  have hadvanced : Agreed (advancePlayhead (countPulse u)) :=
    hcounted.same (advancePlayhead_state _) (by simp) (by simp) (by simp) (by simp)
  exact hadvanced.placeAll.tickPort

theorem Agreed.tick {s : State} (h : Agreed s) (x : Lane → Int) : Agreed (tick x s) := by
  rw [tick_eq_countedOn]
  exact ((h.measureLanes _).exhaustFree.recordAll _).countedOn _

end Sys2Proof.Machine
end

section
/-! SUPPORT. The song in agreement through the admission of a bounce and the other requests. -/

namespace Sys2Proof.Machine

/-! ## The admission of a bounce -/

/-- What the tests of a BOUNCE have found of its pages. -/
theorem bounceTest_pages {s : State} {slots : List Slot} (h : (bounceTest slots s).1 = .ok) :
    bouncePages s (largestMultiple s slots) ≤ (countedPool s).length ∧
      (runsOf ((countedPool s).take (bouncePages s (largestMultiple s slots)))).length ≤ 16 := by
  unfold bounceTest at h
  split at h
  · cases h
  · split at h
    · cases h
    · split at h
      · cases h
      · split at h
        · cases h
        · split at h
          · cases h
          · split at h
            · cases h
            · split at h
              · cases h
              · omega

/-- With the result in work and the sources held, exactly the job's layers are held and in work. -/
theorem Jobbed.reserved {s t : State} {slots : List Slot} {result : Slot}
    (hself : (t.layer result).state = .building ∧ (t.layer result).held = false)
    (hother : ∀ x, x ≠ result → ∃ b, t.layer x = { s.layer x with held := b } ∧ (b = true ↔ x ∈ slots))
    (hne : slots ≠ []) (hactive : ∀ x ∈ slots, (s.layer x).state = .active) (hresult : result ∉ slots)
    (hnobuilding : ∀ x, (s.layer x).state ≠ .building)
    (hjob : t.job.running = true ∧ t.job.result = some result ∧ t.job.sources.map Source.slot = slots) : Jobbed t := by
  obtain ⟨hrun, hres, hsources⟩ := hjob
  refine ⟨fun hr => (nomatch hrun.symm.trans hr), fun _ => ⟨fun hnil => hne (by rw [← hsources, hnil]; rfl), fun src hsrc => ?_,
    result, hres, hself.1⟩, fun x => ?_, fun x hx => ⟨hrun, ?_⟩⟩
  · have hmem : src.slot ∈ slots := hsources ▸ List.mem_map_of_mem hsrc
    obtain ⟨b, hb, -⟩ := hother src.slot fun he => hresult (he ▸ hmem)
    rw [hb]
    exact hactive _ hmem
  · rw [hsources]
    by_cases hx : x = result
    · rw [hx, hself.2]
      exact ⟨nofun, fun hr => absurd hr.2 hresult⟩
    · obtain ⟨b, hb, hin⟩ := hother x hx
      rw [hb]
      exact ⟨fun hb' => ⟨hrun, hin.mp hb'⟩, fun hr => hin.mpr hr.2⟩
  · by_cases hxr : x = result
    · rw [hxr]
      exact hres
    · obtain ⟨b, hb, -⟩ := hother x hxr
      rw [hb] at hx
      exact absurd hx (hnobuilding x)

/-- Sources held, the result in work with its pages, and the job in the song. -/
theorem Agreed.reserved {s : State} (h : Agreed s) (slots : List Slot) (result : Slot) (building : LayerRec) (pages : Nat) (j : Job)
    (hne : slots ≠ []) (hactive : ∀ x ∈ slots, (s.layer x).state = .active) (hfree : (s.layer result).state = .free)
    (hstate : s.transport.state = .running ∨ s.transport.state = .halted) (hrun : s.job.running = false)
    (hbuilding : building.state = .building) (hheld : building.held = false)
    (hextents : pagesOf building.extents = s.store.pool.take pages) (h16 : building.extents.length ≤ 16)
    (hpages : pageCount building.extents = (building.len + 4095) / 4096)
    (hj : j.running = true ∧ j.result = some result ∧ j.sources.map Source.slot = slots) :
    Agreed ((s.reserved slots result building pages).setJob j) := by
  have hfreed := (h.parts.sound result).1 hfree
  have hunheld := fun x => (h.parts.free_of_job hrun x).1
  have hnobuilding := fun x => (h.parts.free_of_job hrun x).2
  have hl : ∀ x, ((s.reserved slots result building pages).setJob j).layer x =
      if x = result then building else if x ∈ slots then { s.layer x with held := true } else s.layer x := fun x => by
    rw [State.setJob_layer, State.reserved_layer]
  have hfields : ((s.reserved slots result building pages).setJob j).table.stack = s.table.stack ∧
      ((s.reserved slots result building pages).setJob j).table.redo = s.table.redo ∧
      ((s.reserved slots result building pages).setJob j).takes = s.takes ∧
      ((s.reserved slots result building pages).setJob j).transport = s.transport ∧
      ((s.reserved slots result building pages).setJob j).store = { s.store with pool := s.store.pool.drop pages } ∧
      ((s.reserved slots result building pages).setJob j).job = j := by
    simp only [State.reserved, State.setJob, and_self]
  obtain ⟨hstack, hredo, htakes, htransport, hstore, hjob⟩ := hfields
  generalize (s.reserved slots result building pages).setJob j = t at *
  have hself : t.layer result = building := (hl result).trans (if_pos rfl)
  have hother : ∀ x, x ≠ result → ∃ b, t.layer x = { s.layer x with held := b } ∧ (b = true ↔ x ∈ slots) := fun x hx => by
    rw [hl, if_neg hx]
    split
    · next hin => exact ⟨true, rfl, fun _ => hin, fun _ => rfl⟩
    · next hin => exact ⟨(s.layer x).held, rfl, by simp [hunheld, hin]⟩
  have hstates : ∀ x, x ≠ result → (t.layer x).state = (s.layer x).state := fun x hx => by
    obtain ⟨b, hb, -⟩ := hother x hx
    rw [hb]
  have hiff : ∀ x z, z ≠ .free → z ≠ .building → ((t.layer x).state = z ↔ (s.layer x).state = z) := fun x z hz hz' => by
    by_cases hx : x = result
    · rw [hx, hself, hbuilding, hfree]
      exact ⟨fun he => absurd he.symm hz', fun he => absurd he.symm hz⟩
    · rw [hstates x hx]
  have hrec : ∀ q, t.recorder q = s.recorder q := fun q => by unfold State.recorder; rw [htakes]
  have hresult : result ∉ slots := fun hin => nomatch hfree.symm.trans (hactive result hin)
  refine ⟨⟨h.parts.listed.congr hstack hredo (fun x => hiff x .active nofun nofun) fun x => hiff x .parked nofun nofun, fun x => ?_,
    h.parts.paged.moved result (s.store.pool.take pages) (by rw [hstore]; exact (List.take_append_drop _ _).symm) (by rw [hstore])
      (by rw [hself, hextents, hfreed]; rfl) fun x hx => ?_,
    h.parts.taken.congr (fun q => .of_eq (hrec q)) (by rw [htakes]) (fun q x hx hs => ?_) (fun x hx => ?_) fun q n left ht => ?_,
    .reserved (by rw [hself]; exact ⟨hbuilding, hheld⟩) hother hne hactive hresult hnobuilding (by rw [hjob]; exact hj)⟩,
    fun q hq => ?_, fun _ => ?_, fun hi => ?_⟩
  · by_cases hx : x = result
    · rw [hx, hself]
      exact ⟨fun hf => (nomatch hbuilding.symm.trans hf), fun _ => ⟨h16, .inl hpages, fun ht => by
        rw [hbuilding] at ht
        exact ht.elim nofun nofun⟩⟩
    · obtain ⟨b, hb, hin⟩ := hother x hx
      rw [hb]
      exact (h.parts.sound x).withHeld fun hb' => hactive x (hin.mp hb')
  · obtain ⟨b, hb, -⟩ := hother x hx
    rw [hb]
  · have hne : x ≠ result := fun he => h.parts.not_named (.inl hfree) q (he ▸ hx)
    obtain ⟨b, hb, -⟩ := hother x hne
    rw [hb]
    exact hs
  · rcases hx with hx | hx
    · exact .inl ((hiff x .recording nofun nofun).mp hx)
    · exact .inr ((hiff x .closing nofun nofun).mp hx)
  · rw [hrec]
    exact h.parts.taken.burst q n left (by rw [hstore] at ht; exact ht)
  · rw [hrec] at hq
    rw [htransport]
    exact h.moded.base q hq
  · rw [htransport]
    exact hstate.imp id .inr
  · rw [htransport] at hi
    rcases hstate with hs | hs <;> exact nomatch hs.symm.trans hi

theorem Agreed.admitBounce {s : State} (h : Agreed s) (slots : List Slot) (hne : slots ≠ []) (hok : (bounceTest slots s).1 = .ok) :
    Agreed (admitBounce slots s) := by
  obtain ⟨hstate, hrun, hactive⟩ := bounceTest_ok hok
  obtain ⟨hlen, h16⟩ := bounceTest_pages hok
  have hreleased := h.releaseRedo
  obtain ⟨idle, f, -⟩ := h.parts.freeLayers_songFreed s.table.redo fun x hx => by
    rw [(h.parts.listed.redo.2 x).mp hx]
    exact fun hin => hin.elim nofun nofun
  have hkept : ∀ x ∈ slots, (Machine.releaseRedo s).layer x = s.layer x := fun x hx => f.layer_kept (by
    by_contra hr
    exact nomatch (hactive x hx).symm.trans ((h.parts.listed.redo.2 x).mp (by simpa using hr)))
  have htransport : (Machine.releaseRedo s).transport = s.transport := (freeLayers_frame s.table.redo s).1
  have hjob : (Machine.releaseRedo s).job.running = false := by
    obtain ⟨b, hb⟩ := f.job
    show (Machine.freeLayers s.table.redo s).job.running = false
    rw [hb]
    exact hrun
  have hlargest : largestMultiple (Machine.releaseRedo s) slots = largestMultiple s slots :=
    largestMultiple_congr slots fun x hx => by rw [hkept x hx]
  rw [countedPool_eq_releaseRedo h.parts.listed.redo.2 h.parts.paged.sorted] at hlen h16
  cases hfind : findSlot (Machine.releaseRedo s) (fun l => l.state == .free) with
  | none =>
    unfold Machine.admitBounce
    dsimp only
    rw [hfind]
    exact hreleased
  | some result =>
    have hfree : ((Machine.releaseRedo s).layer result).state = .free := by simpa using findSlot_some hfind
    have hactive' : ∀ x ∈ slots, ((Machine.releaseRedo s).layer x).state = .active := fun x hx => by
      rw [hkept x hx]
      exact hactive x hx
    rw [admitBounce_eq hfind fun hin => nomatch hfree.symm.trans (hactive' result hin)]
    have hpages : bouncePages (Machine.releaseRedo s) (largestMultiple (Machine.releaseRedo s) slots) =
        bouncePages s (largestMultiple s slots) := by
      rw [hlargest]
      unfold bouncePages
      rw [htransport]
    rw [← hpages] at hlen h16
    have hceil := bouncePages_eq (Machine.releaseRedo s) (largestMultiple (Machine.releaseRedo s) slots)
    generalize Machine.releaseRedo s = u at *
    refine Agreed.setUpChunk (hreleased.reserved slots result _ _ _ hne hactive' hfree (by rw [htransport]; exact hstate) hjob rfl rfl
      (pagesOf_runsOf _) h16 ?_ ⟨rfl, rfl, ?_⟩) fun hidle => nomatch congrArg Job.running hidle
    · rw [pageCount_eq_length]
      show (pagesOf (runsOf _)).length = _
      rw [pagesOf_runsOf, List.length_take, min_eq_left hlen, hceil]
      rfl
    · unfold newJob
      rw [List.map_map]
      exact List.map_id' _

/-! ## Requests -/

theorem Agreed.doLaneSetup {s : State} (h : Agreed s) (q : LaneSetup) : Agreed (doLaneSetup q s) := by
  unfold Machine.doLaneSetup
  split
  · refine Agreed.levelEvent (Agreed.reply ?_ _) _ _ _
    exact h.setLanes _
  · exact h.reply _

theorem Agreed.doGridSetup {s : State} (h : Agreed s) (q : GridSetup) : Agreed (doGridSetup q s) := by
  unfold Machine.doGridSetup
  split
  · split
    · exact Agreed.reply (h.setTransport (s.transport.setGrid q) rfl) _
    · exact h.reply _
  · exact h.reply _

theorem Agreed.doOutputSetup {s : State} (h : Agreed s) (q : OutputSetup) : Agreed (doOutputSetup q s) := by
  unfold Machine.doOutputSetup
  split
  · refine Agreed.reply (s := outputAfter q s) (h.same ?_ rfl rfl rfl rfl) _
    rw [outputAfter_transport]
    unfold ifNamed Transport.setPulseMode
    split
    · split <;> rfl
    · rfl
  · exact h.reply _

theorem Agreed.doCue {s : State} (h : Agreed s) (q : Cue) : Agreed (doCue q s) := by
  unfold Machine.doCue
  split
  · exact h.reply _
  · next kind _ =>
    unfold cueNow
    dsimp only
    split
    · next hok => exact Agreed.applyCue (h.reply _) kind _ _ _ hok
    · exact h.reply _
  · next kind w _ =>
    unfold cueAdmit
    split
    · exact h.reply _
    · cases w with
      | cycle =>
        dsimp only
        split
        · exact h.reply _
        · exact (h.setCues _).reply _
      | beat =>
        dsimp only
        split
        · exact h.reply _
        · exact (h.setCues _).reply _

theorem Agreed.doLayerSetup {s : State} (h : Agreed s) (q : LayerSetup) : Agreed (doLayerSetup q s) := by
  unfold Machine.doLayerSetup
  split
  · dsimp only
    split
    · exact h.reply _
    · next hf =>
      split
      · exact h.reply _
      · exact Agreed.reply (h.setLayer _ (layerAfter q (s.layer (byteFin 24 q.slot)))
          (LayerRec.like_of_state (fun hfree => hf (.inl hfree)) rfl rfl rfl rfl)) _
  · exact h.reply _

theorem Agreed.doBounce {s : State} (h : Agreed s) (n : Byte) (slots : List Byte) (hread : (Request.bounce n slots).read) :
    Agreed (doBounce n slots s) := by
  unfold Machine.doBounce
  split
  · next hvalid =>
    dsimp only
    split
    · next hok =>
      refine Agreed.reply (h.admitBounce _ (fun hnil => ?_) hok) _
      have hlength : slots.length = min n.toNat 8 := hread
      have htwo : 2 ≤ n.toNat := by
        simp only [bounceValid, Bool.and_eq_true, decide_eq_true_eq] at hvalid
        exact hvalid.1.1.1
      rw [List.map_eq_nil_iff.mp hnil, List.length_nil] at hlength
      omega
    · exact h.reply _
  · exact h.reply _

theorem Agreed.doFlush {s : State} (h : Agreed s) (mode tag : Byte) : Agreed (doFlush mode tag s) := by
  unfold Machine.doFlush
  split
  · exact h.reply _
  · exact (h.setCues _).reply _

/-- The empty song, with every page in the pool. -/
theorem Agreed.of_empty {s : State} (hlayer : ∀ x, s.layer x = LayerRec.freed) (hrec : ∀ q, s.recorder q = RecorderRec.idle)
    (hlists : s.table.stack = [] ∧ s.table.redo = [] ∧ s.takes.order = []) (hpool : s.store.pool = List.range s.store.pages)
    (hdrain : ∀ r n left, s.store.transfer ≠ some ⟨.drain r n, left⟩) (hjob : s.job = Job.idle) : Agreed s := by
  obtain ⟨hstack, hredo, horder⟩ := hlists
  have hnopages : ∀ x, pagesOf (s.layer x).extents = [] := fun x => by rw [hlayer]; rfl
  refine ⟨⟨⟨?_, ?_⟩, fun x => ?_, ⟨?_, fun x => ?_, fun x y page hx => ?_, fun x page hx => ?_, fun page => ?_⟩,
    ⟨fun q _ => hrec q, fun q hq => ?_, fun q r x hq => ?_, fun x hx => ?_, ⟨?_, fun q => ?_⟩,
      fun r n left ht => absurd ht (hdrain r n left), fun q r hq => ?_⟩, .of_idle hjob fun x => ?_⟩, fun q hq => ?_, fun hr => ?_,
    fun _ => ⟨fun x => ?_, fun q => ?_⟩⟩
  · rw [hstack]
    exact ⟨List.nodup_nil, fun x => by rw [hlayer]; exact ⟨nofun, nofun⟩⟩
  · rw [hredo]
    exact ⟨List.nodup_nil, fun x => by rw [hlayer]; exact ⟨nofun, nofun⟩⟩
  · rw [hlayer]
    exact LayerRec.sound_freed
  · rw [hpool]
    exact List.pairwise_lt_range
  · rw [hnopages]
    exact List.nodup_nil
  · rw [hnopages] at hx
    cases hx
  · rw [hnopages] at hx
    cases hx
  · simp [hpool, hnopages]
  · rw [hrec] at hq
    exact absurd rfl hq
  · rw [hrec] at hq
    cases hq
  · rw [hlayer] at hx
    exact hx.elim nofun nofun
  · rw [horder]
    exact List.nodup_nil
  · rw [horder, hrec]
    exact ⟨nofun, fun hn => absurd rfl hn⟩
  · rw [hrec] at hq
    exact nomatch hq.1
  · rw [hlayer]
    exact ⟨rfl, nofun⟩
  · rw [hrec] at hq
    exact nomatch hq.1
  · rw [hjob] at hr
    cases hr
  · rw [hlayer]
    rfl
  · rw [hrec]
    rfl

theorem Agreed.clearSong (s : State) : Agreed (clearSong s) := by
  refine Agreed.of_empty (fun x => ?_) (fun q => ?_) ⟨rfl, rfl, rfl⟩ rfl nofun rfl
  · simp [Machine.clearSong, State.layer]
  · simp [Machine.clearSong, State.recorder]

theorem Agreed.handle {s : State} (h : Agreed s) (q : Request) (hread : q.read) : Agreed (handle q s) := by
  cases q with
  | hello => exact h.reply _
  | laneSetup q => exact h.doLaneSetup q
  | gridSetup q => exact h.doGridSetup q
  | outputSetup q => exact h.doOutputSetup q
  | cue q => exact h.doCue q
  | layerSetup q => exact h.doLayerSetup q
  | bounce n slots => exact h.doBounce n slots hread
  | flush mode tag => exact h.doFlush mode tag
  | query form n =>
    obtain ⟨m, hm⟩ := doQuery_reply form n s
    show Agreed (doQuery form n s)
    rw [hm]
    exact h.reply m
  | clear => exact Agreed.clearSong _
  | restart => exact (h.reply (.accepted 0x0B)).same rfl rfl rfl rfl rfl
  | rest =>
    show Agreed (doRest s)
    unfold doRest
    split
    · exact (h.reply (.accepted 0x0C)).same rfl rfl rfl rfl rfl
    · exact h.reply _
  | badLength kind => exact h.reply _
  | unknownKind kind => exact h.reply _

end Sys2Proof.Machine
end

section
/-! SUPPORT. The song in agreement through reset, start-up, rest and wake, and what a start-up starts from. -/

namespace Sys2Proof.Machine

/-! ## Reset, start-up, rest and wake -/

theorem Agreed.powerOn (cause : WakeCause) (s : State) : Agreed (powerOn cause s) :=
  songSound_reset.agreed.same rfl rfl rfl rfl rfl

/-- The port stands still, with no transfer. -/
theorem Agreed.stopWindows {s : State} (h : Agreed s) : Agreed (stopWindows s) := h.beside (.inl rfl) rfl rfl rfl rfl nofun (.refl _)

theorem Agreed.silenceOutputs {s : State} (h : Agreed s) : Agreed (silenceOutputs s) := h.setMix _

theorem Agreed.becomeAwake {s : State} (h : Agreed s) : Agreed (becomeAwake s) := by
  unfold Machine.becomeAwake
  dsimp only
  rw [raiseReport_eq_reported]
  exact ((h.stopWindows.silenceOutputs.setRest _).setLink _).reported _ _

theorem Agreed.enterRest {s : State} (h : Agreed s) : Agreed (enterRest s) := by
  unfold Machine.enterRest
  dsimp only
  have hstopped := h.stopWindows.silenceOutputs
  split
  · exact (((hstopped.setMix _).setLink _).setRest _).setRest _
  · exact ((hstopped.setMix _).setLink _).setRest _

theorem Agreed.drainDecision {s : State} (h : Agreed s) : Agreed (drainDecision s) := by
  unfold Machine.drainDecision
  split
  · rw [raiseReport_eq_reported]
    exact (h.setRest _).reported _ _
  · split
    · exact h.setRest _
    · exact h.enterRest

theorem Agreed.finishFrame {s : State} (h : Agreed s) : Agreed (finishFrame s) := by
  unfold Machine.finishFrame
  split
  · dsimp only
    split
    · exact Agreed.powerOn _ _
    · split
      · exact Agreed.drainDecision (h.setLink _)
      · exact h.setLink _
  · exact h

theorem Agreed.nrstLow {s : State} (h : Agreed s) : Agreed ((stopAll s).setRest { (stopAll s).rest with nrst := false }) :=
  h.releasePort.silenceOutputs.same rfl rfl rfl rfl rfl

theorem Agreed.takeByte {s : State} (h : Agreed s) (b : Byte) (fault : Bool) : Agreed (takeByte b fault s) :=
  h.same (by simp) (by simp) (by simp) (by simp) (by simp)

theorem Agreed.expireGap {s : State} (h : Agreed s) : Agreed (expireGap s) := h.same (by simp) (by simp) (by simp) (by simp) (by simp)

theorem Agreed.startFrame {s : State} (h : Agreed s) : Agreed (startFrame s) := h.same (by simp) (by simp) (by simp) (by simp) (by simp)

/-- The probe finds the blank song, and every page goes into the pool. -/
theorem Agreed.probe {s : State} (h : Agreed s) (device : StoreDevice) (hi : s.transport.state = .idle) :
    Agreed ((probe device s).setRest { (probe device s).rest with probing := true }) := by
  have hblank := h.moded.idle hi
  have hidle := fun q => h.parts.taken.idle q (hblank.2 q)
  refine Agreed.of_empty (fun x => (h.parts.sound x).1 (hblank.1 x)) hidle ⟨?_, ?_, ?_⟩ rfl (fun r n left ht => ?_)
    (h.parts.jobbed.idle (h.parts.job_of_blank hblank))
  · refine List.eq_nil_iff_forall_not_mem.mpr fun x hx => ?_
    exact nomatch (hblank.1 x).symm.trans ((h.parts.listed.stack.2 x).mp hx)
  · refine List.eq_nil_iff_forall_not_mem.mpr fun x hx => ?_
    exact nomatch (hblank.1 x).symm.trans ((h.parts.listed.redo.2 x).mp hx)
  · exact List.eq_nil_iff_forall_not_mem.mpr fun q hq => (h.parts.taken.order.2 q).mp hq (hblank.2 q)
  · obtain ⟨hin, -⟩ := h.parts.taken.burst r n left ht
    rw [hidle r] at hin
    cases hin

/-! ## What a start-up starts from -/

/-- A start-up of a power-on or RESTART finds the transport in IDLE and the lanes as `C` says. -/
def State.Calm (C : Vector LaneRec 4 → Prop) (s : State) : Prop :=
  s.rest.run = .starting → s.rest.cause = .power ∨ s.rest.cause = .restart → s.transport.state = .idle ∧ C s.lanes

section Calm

variable {C : Vector LaneRec 4 → Prop} {s t : State}

theorem State.Calm.same (h : s.Calm C) (hrun : t.rest.run = s.rest.run) (hcause : t.rest.cause = s.rest.cause)
    (hstate : t.transport.state = s.transport.state) (hlanes : t.lanes = s.lanes) : t.Calm C := by
  unfold State.Calm
  rw [hrun, hcause, hstate, hlanes]
  exact h

/-- Neither transport nor lanes change while the transport is in IDLE. -/
theorem State.Calm.kept (h : s.Calm C) (hrest : t.rest = s.rest)
    (hidle : s.transport.state = .idle → C s.lanes → t.transport.state = .idle ∧ t.lanes = s.lanes) : t.Calm C := by
  intro hrun hcause
  rw [hrest] at hrun hcause
  obtain ⟨hi, hc⟩ := h hrun hcause
  obtain ⟨hi', hlanes⟩ := hidle hi hc
  exact ⟨hi', hlanes ▸ hc⟩

theorem State.Calm.of_run (hrun : t.rest.run ≠ .starting) : t.Calm C := fun hr => absurd hr hrun

theorem State.Calm.of_cause (hcause : t.rest.cause = .wakeLine ∨ t.rest.cause = .linkActivity) : t.Calm C := fun _ hc => by
  rcases hcause with hs | hs <;> rw [hs] at hc <;> exact hc.elim nofun nofun

theorem State.Calm.powerOn (hC : C State.reset.lanes) (cause : WakeCause) (s : State) : (powerOn cause s).Calm C := fun _ _ => ⟨rfl, hC⟩

theorem State.Calm.becomeAwake (s : State) : (becomeAwake s).Calm C := by
  refine .of_run ?_
  unfold Machine.becomeAwake
  dsimp only
  rw [raiseReport_eq_reported, State.reported_eq]
  nofun

theorem State.Calm.drainDecision (s : State) : (drainDecision s).Calm C := by
  unfold Machine.drainDecision
  split
  · rw [raiseReport_eq_reported, State.reported_eq]
    exact .of_run nofun
  · split
    · exact .of_run nofun
    · unfold enterRest
      dsimp only
      split
      · exact .of_cause (.inl rfl)
      · exact .of_run nofun

theorem State.Calm.finishFrame (h : s.Calm C) (hC : C State.reset.lanes) : (finishFrame s).Calm C := by
  unfold Machine.finishFrame
  split
  · dsimp only
    split
    · exact .powerOn hC _ _
    · split
      · exact .drainDecision _
      · exact h.same rfl rfl rfl rfl
  · exact h

theorem State.Calm.takeByte (h : s.Calm C) (b : Byte) (fault : Bool) : (takeByte b fault s).Calm C := by
  have hparse : ∀ u : State, (parseByte b fault u).rest = u.rest := fun u => by simp
  unfold Machine.takeByte
  split
  · split
    · exact h.same rfl rfl rfl rfl
    · exact .of_cause (.inr rfl)
    · next hr => exact .of_run (by rw [hparse, hr]; nofun)
    · next hr => exact .of_run (by rw [hparse, State.setRest_rest, hr]; nofun)
  · exact h

theorem State.Calm.nrstLow (h : s.Calm C) : ((stopAll s).setRest { (stopAll s).rest with nrst := false }).Calm C :=
  h.same (by simp [stopAll]) (by simp [stopAll]) (by simp [stopAll, Transport.noPulse]) (by simp [stopAll])

/-- No request starts a start-up. -/
theorem handle_run (q : Request) (s : State) : (handle q s).rest.run = s.rest.run ∨ (handle q s).rest.run = .draining := by
  cases q with
  | restart => exact .inl (by simp [handle, doRestart])
  | rest =>
    show (doRest s).rest.run = _ ∨ (doRest s).rest.run = _
    unfold doRest
    split
    · exact .inr rfl
    · exact .inl rfl
  | _ => exact .inl (by simp [handle])

theorem State.Calm.handle (q : Request) (hfree : canTake s = true) : (handle q s).Calm C := by
  have hawake : s.rest.run = .awake := by
    unfold canTake at hfree
    simp only [Bool.and_eq_true, beq_iff_eq] at hfree
    exact hfree.1.1.2
  refine .of_run ?_
  rcases handle_run q s with hr | hr
  · rw [hr, hawake]
    nofun
  · rw [hr]
    nofun

end Calm

/-! ## The port in IDLE -/

theorem placeAll_transport (s : State) (h : s.transport.state ≠ .priming) : (placeAll s).transport = s.transport := by
  unfold placeAll
  refine KeptByEvents.foldl (P := fun u => u.transport = s.transport) (fun u x hu => ?_) _ _ rfl
  rw [raiseRefill_transport x u (by rw [hu]; exact h), hu]

theorem decidePort_transport (s : State) (h : s.transport.state ≠ .priming) : (decidePort s).transport = s.transport := by
  unfold decidePort
  rw [(arbitrate_frame _).1, placeAll_transport s h]

/-- In the blank song a completion, if there is one, is no matter of the transport. -/
theorem Agreed.complete_idle {s : State} (h : Agreed s) (x : Transfer) (hx : s.store.transfer = some x)
    (hi : s.transport.state = .idle) : (Machine.complete x s).transport.state = .idle := by
  have hblank := h.moded.idle hi
  have hreleased : (Machine.releasePort s).transport = s.transport := by simp
  have hpriming : (Machine.releasePort s).transport.state ≠ .priming := by rw [hreleased, hi]; nofun
  obtain ⟨kind, left⟩ := x
  cases kind with
  | drain r n =>
    obtain ⟨hin, -⟩ := h.parts.taken.burst r n left hx
    rw [h.parts.taken.idle r (hblank.2 r)] at hin
    cases hin
  | refill y entries =>
    show (Machine.completeRefill y entries s).transport.state = .idle
    unfold Machine.completeRefill
    have hlanded := landEntries_transport y entries (Machine.releasePort s) hpriming
    rw [raiseRefill_transport y _ (by rw [hlanded]; exact hpriming), hlanded, hreleased, hi]
  | bounceRead =>
    show (Machine.completeRead s).transport.state = .idle
    rw [(completeRead_frame s).1, hi]
  | bounceWrite =>
    have hresult : (Machine.releasePort s).job.result = none := by
      have hidle := h.releasePort.parts.jobbed.idle
        (h.releasePort.parts.job_of_blank (h.releasePort.moded.idle (by rw [hreleased]; exact hi)))
      rw [hidle]
      rfl
    show (Machine.completeWrite s).transport.state = .idle
    unfold Machine.completeWrite
    dsimp only
    rw [hresult]
    split
    · next heq => cases heq
    · rw [hreleased, hi]

end Sys2Proof.Machine
end

section
/-! The song in agreement with itself, through every step. -/

namespace Sys2Proof.Machine

/-- No lane stands at the end of its window. -/
def noWindowDue (lanes : Vector LaneRec 4) : Prop := ∀ l : Lane, lanes[l.val].pos ≠ 480

/-- The song in agreement, and a start-up with a transport in IDLE and lanes as `C` says. -/
def State.Settled (C : Vector LaneRec 4 → Prop) (s : State) : Prop := Agreed s ∧ s.Calm C

theorem noWindowDue_reset : noWindowDue State.reset.lanes := fun l => by simp [State.reset, LaneRec.initial]

/-- A recorder that TAKE_FULL would end is at work. -/
theorem recording_of_takeFullDue {s : State} {r : Recorder} (h : takeFullDue s r = true) : (s.recorder r).state = .recording := by
  unfold takeFullDue at h
  exact ((stoppable_iff _).mp (Bool.and_eq_true_iff.mp h).1).1

theorem Agreed.not_idle_of_recording {s : State} (h : Agreed s) {r : Recorder} (hr : (s.recorder r).state = .recording) :
    s.transport.state ≠ .idle := fun hi => nomatch hr.symm.trans ((h.moded.idle hi).2 r)

theorem not_idle_of_moves {t : Transport} (h : t.moves = true) : t.state ≠ .idle := by
  rcases state_of_moves h with hs | hs <;> rw [hs] <;> nofun

theorem State.Calm.idle_of_startUp {C : Vector LaneRec 4 → Prop} {s : State} (h : s.Calm C) (hd : inStartUp s.rest = true) :
    s.transport.state = .idle := by
  unfold inStartUp at hd
  simp only [Bool.and_eq_true, Bool.or_eq_true, beq_iff_eq] at hd
  obtain ⟨⟨⟨-, hrun⟩, hcause⟩, -⟩ := hd
  exact (h hrun hcause).1

/-- Every event keeps the song in agreement. -/
theorem settled_kept : KeptByEvents (State.Settled noWindowDue) where
  pending s q h := ⟨h.1.same rfl rfl rfl rfl rfl, h.2.same rfl rfl rfl rfl⟩
  takeFull s r hd h := ⟨h.1.takeFull r hd, h.2.kept (by simp) fun hi _ =>
    absurd hi (h.1.not_idle_of_recording (recording_of_takeFullDue hd))⟩
  pulseEnd s _ h := ⟨h.1.setTransport _ rfl, h.2.same rfl rfl rfl rfl⟩
  clickEnd s h := ⟨h.1.setMix _, h.2.same rfl rfl rfl rfl⟩
  selfClose s hd h := ⟨h.1.selfClose, h.2.kept (by simp) fun hi _ => by
    have hd' := (Bool.and_eq_true_iff.mp hd).1
    simp [Transport.freeDefining, hi] at hd'⟩
  windowEnd s l hd h := ⟨h.1.endWindow l, h.2.kept (by simp) fun _ hc => absurd (of_decide_eq_true hd) (hc l)⟩
  cycleStart s hd h := ⟨h.1.wrapCycle, h.2.kept (by simp) fun hi _ => absurd hi (not_idle_of_moves (moves_of_cycleStartDue s hd))⟩
  beat s hd h := ⟨h.1.takeBeat, h.2.kept (by simp) fun hi _ => absurd hi (not_idle_of_moves (moves_of_beatDue s hd))⟩
  complete s x hx h := ⟨h.1.complete x hx, h.2.kept (by simp) fun hi _ => ⟨h.1.complete_idle x hx hi, by simp⟩⟩
  decidePort s h := ⟨h.1.decidePort, h.2.kept (by simp) fun hi _ =>
    ⟨by rw [decidePort_transport s (by rw [hi]; nofun), hi], by simp⟩⟩
  startFrame s h := ⟨h.1.startFrame, h.2.same (by simp) (by simp) (by simp) (by simp)⟩
  pop s h := ⟨h.1.setLink _, h.2.same rfl rfl rfl rfl⟩
  handle q s hread hfree h := ⟨h.1.handle q hread, .handle q hfree⟩
  window s h := ⟨h.1.beginWindow, h.2.same rfl rfl rfl rfl⟩
  byte b fault s h := ⟨h.1.takeByte b fault, h.2.takeByte b fault⟩
  gap s h := ⟨h.1.expireGap, h.2.same (by simp) (by simp) (by simp) (by simp)⟩
  sent s h := ⟨h.1.finishFrame, h.2.finishFrame noWindowDue_reset⟩
  hold level s h := ⟨h.1.setLink _, h.2.same rfl rfl rfl rfl⟩
  nrstLow s h := ⟨h.1.nrstLow, h.2.nrstLow⟩
  powerOn cause s _ := ⟨.powerOn cause s, .powerOn noWindowDue_reset cause s⟩
  probe device s hd h := ⟨h.1.probe device (h.2.idle_of_startUp hd), h.2.same rfl rfl rfl rfl⟩
  awake s h := ⟨h.1.becomeAwake, .becomeAwake s⟩
  wake level s h := ⟨h.1.setRest _, h.2.same rfl rfl rfl rfl⟩
  startWake cause s _ hc h := ⟨h.1.setRest _, .of_cause hc⟩
  falseWake s _ h := ⟨h.1.setRest _, .of_run nofun⟩

/-- A sample period keeps the song in agreement; it finds the part running. -/
theorem State.Settled.tick {C : Vector LaneRec 4 → Prop} {s : State} (h : s.Settled C) (hrun : isRunning s = true) (x : Lane → Int) :
    (tick x s).Settled C := by
  refine ⟨h.1.tick x, .of_run ?_⟩
  simp only [tick_frame]
  unfold isRunning at hrun
  intro hs
  simp [hs] at hrun

/-! ## The part that does not run -/

/-- A part that does not run takes no request. -/
theorem takeRequest_stopped (q : Request) (s : State) (h : isRunning s = false) : takeRequest q s = s := by
  have hfree := canTake_stopped s h
  have hone : handleIfFree q s = s := by
    unfold handleIfFree
    rw [hfree, if_neg nofun]
  unfold takeRequest
  rw [urgent_stopped s h]
  cases hf : s.link.frames with
  | nil =>
    show takeInTurn q 0 s = s
    exact hone
  | cons f rest =>
    show takeInTurn q (rest.length + 1) s = s
    unfold takeInTurn
    rw [hf]
    dsimp only
    rw [hfree, if_neg nofun]

theorem takeEvent_stopped (due : Bool) (f : State → State) (s : State) (h : isRunning s = false) : takeEvent due f s = s := by
  unfold takeEvent
  rw [h, Bool.false_and, if_neg nofun]

theorem takeCompletion_stopped (mine : TransferKind → Bool) (s : State) (h : isRunning s = false) : takeCompletion mine s = s :=
  takeEvent_stopped _ _ s h

/-- A part that does not run keeps the song in agreement, whatever its lanes. -/
theorem State.Settled.exec_stopped {s t : State} (h : s.Settled fun _ => True) (hstop : isRunning s = false) (i : Instr)
    (he : exec i s = .next t) : t.Settled fun _ => True := by
  have hs := settle_stopped s hstop
  have htrue : (fun _ : Vector LaneRec 4 => True) State.reset.lanes := trivial
  have hrest : ∀ r : RestControl, r.run = s.rest.run → r.cause = s.rest.cause → (s.setRest r).Settled fun _ => True :=
    fun r hrun hcause => ⟨h.1.setRest r, h.2.same hrun hcause rfl rfl⟩
  have hwake : ∀ (u : State) (cause : WakeCause), (cause = .wakeLine ∨ cause = .linkActivity) → u.Settled (fun _ => True) →
      (startWake cause u).Settled fun _ => True := fun u cause hc hu => ⟨hu.1.setRest _, .of_cause hc⟩
  have hhold : ∀ level, (setHold level s).Settled fun _ => True := fun level => ⟨h.1.setLink _, h.2.same rfl rfl rfl rfl⟩
  have hite : ∀ {c : Prop} [Decidable c] {u : State}, (c → u.Settled fun _ => True) → (if c then u else s).Settled fun _ => True :=
    fun hu => KeptByEvents.ite hu h
  cases i <;> (unfold Machine.exec at he; cases he)
  case rxdByte b fault => rw [hs]; exact ⟨h.1.takeByte b fault, h.2.takeByte b fault⟩
  case interByteTimeout => rw [hs, hstop]; exact h
  case frameSent => rw [hs, hstop]; exact h
  case holdAsserted => rw [hs]; exact hhold true
  case holdDeasserted => rw [hs, show isRunning (setHold false s) = false from hstop]; exact hhold false
  case samplePeriod => rw [hs, hstop]; exact h
  case nrstLow => rw [hs]; exact hite fun _ => ⟨h.1.nrstLow, h.2.nrstLow⟩
  case nrstRise => split; exacts [h, ⟨.powerOn _ s, .powerOn htrue _ s⟩]
  case oscillatorStartUpEnd device =>
    exact hite fun hi => ⟨h.1.probe device (h.2.idle_of_startUp hi), h.2.same rfl rfl rfl rfl⟩
  case probePeriodEnd => exact hite fun _ => ⟨h.1.becomeAwake, .becomeAwake s⟩
  case wakeAsserted => rw [hs]; exact KeptByEvents.ite (fun _ => hwake _ _ (.inl rfl) (hrest _ rfl rfl)) (hrest _ rfl rfl)
  case wakeReleased => rw [hs]; exact hrest _ rfl rfl
  case linkWake => rw [hs]; exact hite fun _ => hwake s _ (.inr rfl) h
  case wakeStartingEnd =>
    refine hite fun _ => ?_
    split
    exacts [⟨h.1.setRest _, .of_run nofun⟩, ⟨h.1.becomeAwake, .becomeAwake s⟩]
  case unknownKind => split; exacts [h, by rw [takeRequest_stopped _ s hstop]; exact h]
  case frameStart | takeFull | freeSelfClose | cycleStart | beatBoundary | pulseEnd | clickBurstEnd | windowEnd |
      portWindowStart | portGrant => rw [takeEvent_stopped _ _ s hstop]; exact h
  case drainBurstComplete | refillLanding | bounceReadComplete | bounceWriteComplete =>
    rw [takeCompletion_stopped _ s hstop]; exact h
  all_goals rw [takeRequest_stopped _ s hstop]; exact h

/-- Settles O7: what `songSound` says, taken apart into clauses of which each operation of the model keeps those that it touches
(`Agreed`), holds through every event (`settled_kept`); a part that does not run takes no event but those of its start-up, where the
transport is in IDLE and the song is blank. -/
theorem stepKeepsTheSongSound : Obligations.StepKeepsTheSongSound := by
  intro s t hsong hstep
  have hagreed := hsong.agreed
  have hend : t.Settled fun _ => True := by
    cases hrun : isRunning s with
    | true =>
      have hcalm : s.Calm noWindowDue := .of_run fun hs => by simp [isRunning, hs] at hrun
      have hkept := settled_kept.step (fun x u hu hr => State.Settled.tick
        (settled_kept.windowStart _ (settled_kept.settle u hu)) (by simpa [isRunning] using hr) x) s t ⟨hagreed, hcalm⟩ hstep
      exact ⟨hkept.1, fun hr hc => ⟨(hkept.2 hr hc).1, trivial⟩⟩
    | false =>
      have hstart : s.Settled fun _ => True := ⟨hagreed, fun hr hc => ⟨hsong.starting hr hc, trivial⟩⟩
      unfold step at hstep
      split at hstep
      · cases hstep
        exact hstart
      · next i rest _ =>
        have hpopped : (s.setPending rest).Settled fun _ => True :=
          ⟨hstart.1.same rfl rfl rfl rfl rfl, hstart.2.same rfl rfl rfl rfl⟩
        exact hpopped.exec_stopped hrun i hstep
  exact hend.1.songSound fun hr hc => (hend.2 hr hc).1

end Sys2Proof.Machine
end
